-- ==== Sys2Proof/Word.lean ====
section
/-! DEFINITION. The byte and word types of the GNV-3400 and nothing else: every helper that computes on them stands in Machine/Bits.lean. -/

namespace Sys2Proof

/-- One byte of a register, request, frame or memory (R3, R4). -/
abbrev Byte := BitVec 8

/-- One 64-bit word of a line packet (R130). -/
abbrev Word64 := BitVec 64

end Sys2Proof
end

