-- ==== Sys2Proof/Machine/Bits.lean ====
section
/-! DEFINITION. Byte order, two's complement, clamping, rounding, modular order and sparse tables: the arithmetic that every chapter shares. -/

namespace Sys2Proof.Machine

/-- The n low bytes of w, least significant first (R3). -/
def leBytes : Nat → Nat → List Byte
  | 0, _ => []
  | n + 1, w => BitVec.ofNat 8 w :: leBytes n (w / 256)

/-- The number that bytes spell, least significant first (R3). -/
def ofLe : List Byte → Nat
  | [] => 0
  | b :: bs => b.toNat + 256 * ofLe bs

/-- w mod 2^n read as two's complement (R6). -/
def toS (n w : Nat) : Int :=
  let v := w % 2 ^ n
  if v < 2 ^ (n - 1) then (v : Int) else (v : Int) - (2 ^ n : Nat)

/-- i modulo 2^n as an n-bit word. -/
def ofS (n : Nat) (i : Int) : Nat := (i % ((2 ^ n : Nat) : Int)).toNat

/-- The field [lo+n−1:lo] of w (R4). -/
def bits (w lo n : Nat) : Nat := (w >>> lo) % 2 ^ n

/-- Bit k of w. -/
def bit (w k : Nat) : Bool := w.testBit k

/-- 1 for true. -/
def b2n (b : Bool) : Nat := if b then 1 else 0

/-- w with bit k at the given level. -/
def setBit (w k : Nat) (v : Bool) : Nat :=
  if v then w ||| (1 <<< k) else if w.testBit k then w - (1 <<< k) else w

/-- The indices below n whose bit a mask sets, increasing (R358). -/
def maskIdx (n w : Nat) : List Nat := (List.range n).filter (fun i => w.testBit i)

/-- How many of the low n bits are set. -/
def popCount (n w : Nat) : Nat := (maskIdx n w).length

/-- clamp of "Fixed-point formats" (R6). -/
def clampN (x lo hi : Nat) : Nat := if x < lo then lo else if hi < x then hi else x

def clampI (x lo hi : Int) : Int := if x < lo then lo else if hi < x then hi else x

/-- A stepped parameter: the nearest step with ties upward, then the clamp (R344). -/
def clampStep (x step lo hi : Nat) : Nat := clampN ((x + step / 2) / step * step) lo hi

/-- Saturation to an n-bit two's complement range. -/
def satS (n : Nat) (x : Int) : Int :=
  clampI x (-((2 ^ (n - 1) : Nat) : Int)) (((2 ^ (n - 1) : Nat) : Int) - 1)

/-- A counter of n bits that saturates. -/
def satInc (n x : Nat) (by' : Nat := 1) : Nat := Nat.min (x + by') (2 ^ n - 1)

/-- A counter of n bits that wraps. -/
def wrapInc (n x : Nat) (by' : Nat := 1) : Nat := (x + by') % 2 ^ n

/-- b follows a in modular order of n bits (R10): a distance of exactly half also counts. -/
def follows (n a b : Nat) : Bool :=
  let d := (b + 2 ^ n - a % 2 ^ n) % 2 ^ n
  decide (0 < d) && decide (d ≤ 2 ^ (n - 1))

/-- b − a modulo 2^n. -/
def mdist (n a b : Nat) : Nat := (b % 2 ^ n + 2 ^ n - a % 2 ^ n) % 2 ^ n

/-- floor(a ÷ b) for b > 0. -/
def floorDiv (a b : Int) : Int := a.fdiv b

/-- ceil(a ÷ b) for b > 0. -/
def ceilDiv (a b : Int) : Int := -((-a).fdiv b)

/-- a ÷ b to the nearest integer, a half toward plus infinity. -/
def roundUpDiv (a b : Int) : Int := (2 * a + b).fdiv (2 * b)

/-- a ÷ b to the nearest integer, a half to the even neighbour. -/
def roundEvenDiv (a b : Int) : Int :=
  let q := a.fdiv b
  let r2 := 2 * (a - q * b)
  if r2 < b then q else if b < r2 then q + 1 else if q % 2 = 0 then q else q + 1

/-- a ÷ b to the nearest integer, a half away from zero. -/
def roundAwayDiv (a b : Int) : Int :=
  if 0 ≤ a then roundUpDiv a b else -(roundUpDiv (-a) b)

/-- a ÷ 2^n rounded toward minus infinity: the arithmetic right shift. -/
def sar (a : Int) (n : Nat) : Int := a.fdiv ((2 ^ n : Nat) : Int)

/-- a ÷ 2^n rounded half up. -/
def sarRound (a : Int) (n : Nat) : Int := roundUpDiv a ((2 ^ n : Nat) : Int)

/-- ceil of a ratio of natural numbers. -/
def ceilN (a b : Nat) : Nat := (a + b - 1) / b

def absI (x : Int) : Nat := x.natAbs

/-- A sparse table: (index, record) pairs, indices strictly rising, no record equal to the default of its index. -/
abbrev Tbl (α : Type) := List (Nat × α)

/-- The record at k, d where the table lists none. -/
def tget {α : Type} (d : α) (k : Nat) : Tbl α → α
  | [] => d
  | (j, a) :: r => if j = k then a else if k < j then d else tget d k r

/-- The table with the record at k replaced; writing the default removes the entry. -/
def tset {α : Type} [DecidableEq α] (d : α) (k : Nat) (v : α) : Tbl α → Tbl α
  | [] => if v = d then [] else [(k, v)]
  | (j, a) :: r =>
    if k < j then (if v = d then (j, a) :: r else (k, v) :: (j, a) :: r)
    else if k = j then (if v = d then r else (k, v) :: r)
    else (j, a) :: tset d k v r

/-- Change the record at k. -/
def tmod {α : Type} [DecidableEq α] (d : α) (k : Nat) (f : α → α) (t : Tbl α) : Tbl α :=
  tset d k (f (tget d k t)) t

/-- The canonical form above index lo: indices strictly rising from lo, no entry equal to the default. -/
def twfFrom {α : Type} [DecidableEq α] (d : α) : Nat → Tbl α → Bool
  | _, [] => true
  | lo, (j, a) :: r => decide (lo ≤ j) && decide (a ≠ d) && twfFrom d (j + 1) r

/-- The canonical form of a sparse table. -/
def twf {α : Type} [DecidableEq α] (d : α) (t : Tbl α) : Bool := twfFrom d 0 t

/-- Element i of a list, d beyond its end. -/
def nth {α : Type} (d : α) (l : List α) (i : Nat) : α := l.getD i d

/-- The list with element i replaced, unchanged when i lies beyond it. -/
def nset {α : Type} (l : List α) (i : Nat) (v : α) : List α := l.set i v

/-- The list with element i changed. -/
def nmod {α : Type} (d : α) (l : List α) (i : Nat) (f : α → α) : List α := l.set i (f (l.getD i d))

/-- The bytes o to o+n−1 of a list, zero beyond its end. -/
def slice (l : List Byte) (o n : Nat) : List Byte :=
  let r := (l.drop o).take n
  r ++ List.replicate (n - r.length) 0

/-- The little-endian number in bytes o to o+n−1. -/
def field (l : List Byte) (o n : Nat) : Nat := ofLe (slice l o n)

/-- n zero bytes. -/
def zeros (n : Nat) : List Byte := List.replicate n 0

/-- The list with the bytes of b written from offset o; bytes beyond its end are dropped. -/
def patch (l : List Byte) (o : Nat) (b : List Byte) : List Byte :=
  l.take o ++ (b.take (l.length - o) ++ l.drop (o + b.length))

/-- A little-endian structure of n bytes from (offset, size, value) fields; the bytes no field names are reserved and 0 (R5). -/
def layout (n : Nat) (fs : List (Nat × Nat × Nat)) : List Byte :=
  fs.foldl (fun l (o, w, v) => patch l o (leBytes w v)) (zeros n)

/-- Sum of a list. -/
def sumN (l : List Nat) : Nat := l.foldl (· + ·) 0

def sumI (l : List Int) : Int := l.foldl (· + ·) 0

def maxN (l : List Nat) : Nat := l.foldl Nat.max 0

/-- Least of a list, d for the empty list. -/
def minN (d : Nat) : List Nat → Nat
  | [] => d
  | a :: r => r.foldl Nat.min a

/-- The largest integer whose square is at most n. -/
def isqrt (n : Nat) : Nat :=
  (List.range (Nat.log2 n / 2 + 1)).foldr (fun k r => let c := r + 2 ^ k; if c * c ≤ n then c else r) 0

/-- Insert into a list ordered by a key. -/
def insertBy {α : Type} (key : α → Nat) (a : α) : List α → List α
  | [] => [a]
  | b :: r => if key a < key b then a :: b :: r else b :: insertBy key a r

def sortN (l : List Nat) : List Nat := l.foldr (fun a r => insertBy id a r) []

def insertI (a : Int) : List Int → List Int
  | [] => [a]
  | b :: r => if a < b then a :: b :: r else b :: insertI a r

def sortI (l : List Int) : List Int := l.foldr insertI []

/-- Bytes as a serial line carries them, bit 0 of each first. -/
def wireBits (bs : List Byte) : List Bool := bs.flatMap (fun b => (List.range 8).map (fun i => b.getLsbD i))

/-- The bytes of received bits; bits short of a whole byte make none. -/
def wireBytes : List Bool → List Byte
  | a :: b :: c :: d :: e :: f :: g :: h :: r =>
    BitVec.ofNat 8 (([a, b, c, d, e, f, g, h].foldr (fun x n => 2 * n + x.toNat) 0)) :: wireBytes r
  | _ => []

end Sys2Proof.Machine
end

