-- ==== Sys2Proof/Machine/StTiming.lean ====
section
/-! DEFINITION. The state of the Datum, Transit, the Gate and the sensor ports (chapters 2, 3 and 4), and the settings banks (Table 2.5). -/

namespace Sys2Proof.Machine

/-- BASELINE_CFG of one port (Table 6.1): stagger delay, integer and fractional delays of its four plane slots. -/
structure BaseRec where
  stagger : Nat := 0
  dInt    : List Nat := [0, 0, 0, 0]
  dFrac   : List Nat := [0, 0, 0, 0]
deriving DecidableEq, Repr

/-- SEAM_CFG of one seam (Table 6.3); OFFSET in 1/64 column. -/
structure SeamRec where
  overlap : Nat := 64
  offset  : Int := 0
  blend   : Nat := 32
deriving DecidableEq, Repr

/-- SELVEDGE_CFG (Tables 6.5 and 5.6). -/
structure SvCfg where
  enable   : Nat := 0
  plane    : Nat := 1
  polarity : Nat := 0
  rwEnable : Nat := 0
  hi       : Int := 32768
  lo       : Int := 26214
  minRun   : Nat := 16
  loss     : Nat := 16
  jump     : Nat := 64
  acq      : Nat := 4
  rwPlanes : Nat := 15
  lFrom    : Nat := 0
  lTo      : Nat := 81919
  rFrom    : Nat := 163839
  rTo      : Nat := 81920
  /-- Strip columns, 0xFFFF_FFFF for NONE. -/
  rwLFirst : Nat := 0xFFFFFFFF
  rwLLast  : Nat := 0xFFFFFFFF
  rwRFirst : Nat := 0xFFFFFFFF
  rwRLast  : Nat := 0xFFFFFFFF
  rwMargin : Nat := 32
  rwMinCols : Nat := 32
  rwLines  : Nat := 1024
  rwStep   : Nat := 2048
  rwMin    : Nat := 7549747
  rwMax    : Nat := 9227469
deriving DecidableEq, Repr

/-- One region (Table 6.6). -/
structure Region where
  enable  : Nat := 0
  colFirst : Nat := 0
  colLast : Nat := 163839
  lineFirst : Nat := 0
  lineLast : Nat := 0xFFFFFFFF
  binX    : Nat := 1
  binY    : Nat := 1
  edgeMask : Nat := 0
  margin  : Nat := 16
  maskCode : Nat := 0
deriving DecidableEq, Repr

/-- The format of one stream (R212, Table 8.1): open flag, plane mask, depth, coding, bolt height, target in quarter bits, tables, region mask, levels. -/
structure StreamFmt where
  opened  : Bool := false
  planes  : Nat := 0
  depth   : Nat := 8
  coding  : Nat := 0
  boltH   : Nat := 8
  target  : Nat := 32
  table   : Nat := 0
  fallback : Nat := 0
  regions : Nat := 0
  black   : List Int := [0, 0, 0, 0]
  white   : List Int := [65536, 65536, 65536, 65536]
  /-- STREAM_OPEN wrote it and no Datum has taken it live (R263). -/
  fresh   : Bool := false
deriving DecidableEq, Repr

/-- One settings bank (R55, Table 2.5). Records not listed have their reset values. -/
structure Bank where
  /-- Shading records by index 4c + q as 64-bit words (R160). -/
  shade   : Tbl Nat := []
  /-- Polynomial sets, ten binary32 words each (R166). -/
  poly    : Tbl (List Nat) := []
  /-- Exposure in ns. -/
  expo    : Nat := 6000
  base    : Tbl BaseRec := []
  seams   : Tbl SeamRec := []
  sv      : SvCfg := {}
  regions : Tbl Region := []
  streams : Tbl StreamFmt := []
  /-- Loadable code tables ST8 to ST23, nine bytes each; ST2 of the ROM where not listed (R279). -/
  codes   : Tbl (List Byte) := []
  /-- Lamp intensity targets by string (R55). -/
  lamps   : Tbl Nat := []
  /-- Trims by string, Q1.15 (R55, R248); 1.0 where not listed. -/
  trims   : Tbl Nat := []
deriving DecidableEq, Repr

/-- The reset values of a shading record and a polynomial set (Table 5.1, R167). -/
def shadeReset : Nat := 0x400000 <<< 40

def polyReset : List Nat := [0x3F800000, 0, 0, 0, 0, 0, 0, 0, 0, 0]

/-- What a running CFG component supplies at boot (R55, R258, R328): the banked values; COUNT, T_LAST and LIVE_COUNT beside its shading records; the subsystem IDs. -/
structure CfgPart where
  bank    : Bank := {}
  cal     : Option (Nat × Nat × Nat) := none
  subsys  : Option (Nat × Nat) := none
deriving DecidableEq, Repr

/-- The settings banks (R55 to R61). -/
structure BanksSt where
  live    : Bank := {}
  staged  : Bank := {}
  /-- The bank of the ending repeat while both are held (R58). -/
  old     : Option Bank := none
  /-- BANK_GEN of the live bank (R57). -/
  gen     : Nat := 0
  armed   : Bool := false
  /-- The fixed Datum that holds the armed bank. -/
  bound   : Option Nat := none
  /-- A grade owns shading records and polynomial sets (R61). -/
  grade   : Bool := false
deriving DecidableEq, Repr

/-- DATUM_CFG (Table 2.6). -/
structure DatumCfg where
  source   : Nat := 2
  cueInput : Nat := 0
  edge     : Nat := 0
  flywheel : Nat := 1
  modulus  : Nat := 1048576
  cueOffset : Nat := 0
  nominal  : Nat := 16777216
  /-- Stored after the clamp at receipt, and clamped again at each use; the default is REPEAT_NOMINAL ÷ 64. -/
  window   : Nat := 262144
  minSpacing : Nat := 8388608
deriving DecidableEq, Repr

/-- A Datum that is fixed, or has taken effect and still bounds lines in flight (R57, R64). -/
structure Datum where
  id      : Nat
  /-- DATUM_FLAGS of its sources (Table 2.7). -/
  flags   : Nat
  /-- Fixed by position (R63). -/
  byPos   : Bool
  pos     : Int
  /-- First line by line number, where not fixed by position. -/
  line    : Nat
  deviation : Int
  /-- It holds the armed bank (R57). -/
  holds   : Bool
  /-- Set when its first line's ticket is issued (R71): repeat number, generation, first line. -/
  passed  : Bool
  repeatNo : Nat
  gen     : Nat
  first   : Nat
  /-- Instant at which it was fixed. -/
  tFixed  : Nat
  /-- CAL_COUNT of its repeat record: LIVE_COUNT when it passed (R245). -/
  cals    : Nat := 0
deriving DecidableEq, Repr

/-- The Datum machinery (R63 to R72). -/
structure DatumSt where
  cfg     : DatumCfg := {}
  /-- Fixed and recent Datums in the order of the bar. -/
  list    : List Datum := []
  nextId  : Nat := 1
  /-- Repeat number of the last Datum passed (R71). -/
  repeatNo : Nat := 0
  /-- Position of the last Datum from any source (R65). -/
  prevPos : Option Int := none
  /-- The next expected Datum position; none during acquisition (R66). -/
  expected : Option Int := none
  /-- A candidate has been accepted for the present window. -/
  taken   : Bool := false
  /-- Highest cue position offered since the session began (R80). -/
  maxC    : Option Int := none
  /-- A DATUM_FORCE is waiting for its line: the Datum's id. -/
  forces  : List Nat := []
deriving DecidableEq, Repr

/-- ENC_CFG of one encoder and what TIM keeps of it (R77 to R79). -/
structure Encoder where
  enable : Nat := 0
  mode   : Nat := 0
  invert : Nat := 0
  filter : Nat := 6
  trims  : List Int := [0, 0, 0, 0]
  /-- CUE_MASK of its last ENC_CFG, as the read form repeats it (R361). -/
  cueMask : Nat := 0
  count  : Int := 0
  a      : Bool := false
  b      : Bool := false
  /-- Instants of illegal transitions within the last 1 ms, newest first. -/
  errs   : List Nat := []
deriving DecidableEq, Repr

/-- TRANSIT_CFG (Table 3.4); PITCH is 32.16. -/
structure TransitCfg where
  source   : Nat := 0
  tol      : Nat := 8
  horizonLines : Nat := 4
  vibChannel : Nat := 255
  vibSign  : Int := 1
  vibHp    : Nat := 5
  stillTime : Nat := 20
  pitch    : Nat := 67108864
  horizonTime : Nat := 40000
  vMin     : Nat := 1200
  alpha    : Nat := 16384
  beta     : Nat := 4096
  gamma    : Nat := 256
  ticksPerM : Nat := 48377953
deriving DecidableEq, Repr

/-- The regimes of Table 3.8. -/
inductive Regime where
  | spec | uncentred | still | rev
deriving DecidableEq, Repr

def Regime.code : Regime → Nat
  | .spec => 0 | .uncentred => 1 | .still => 2 | .rev => 3

/-- A measurement: timestamp, value, count boundary and direction (R78). -/
structure Meas where
  t    : Nat
  /-- S63.16. -/
  z    : Int
  /-- The count interval, S63.16; 0 for a report of the virtual encoder, which has none. -/
  span : Int
  down : Bool
  edge : Int
deriving DecidableEq, Repr

/-- Transit (R74 to R92, R106 to R114). Positions are S63.16, speed S15.40, acceleration S7.56 as raw integers. -/
structure TransitSt where
  cfg     : TransitCfg := {}
  encs    : List Encoder := [{}, {}, {}, {}]
  cueFilter : List Nat := [100, 100, 100, 100]
  regime  : Regime := .still
  x       : Int := 0
  v       : Int := 0
  a       : Int := 0
  last    : Option Meas := none
  /-- Consecutive measurements in one direction; the sign gives it. -/
  run     : Int := 0
  /-- Position at which v̂ ≥ 1.25 × V_MIN began to hold (R106). -/
  fastFrom : Option Int := none
  dB      : Int := 0
  vB      : Int := 0
  /-- Instant of the last bar-acceleration sample. -/
  tVib    : Nat := 0
  /-- The vibration channel is bad: lines since, plus 1 (R86). -/
  vibHeld : Nat := 0
  /-- The channel bound to vibration, and the instant plus 1 at which another took its place (R474). -/
  vibBound : Option Nat := none
  vibFrom : Nat := 0
  /-- d_b and v_b as the predictions use them: those of the last measurement's time, taken when it was handled (R88). -/
  pD      : Int := 0
  pV      : Int := 0
  /-- Measurements that a verdict can still need, newest first (R96, R97). -/
  hist    : List Meas := []
  /-- The lines of the horizon as sent to DRV at the last measurement: index, predicted start and end (R89). -/
  horizon : List (Nat × Int × Int) := []
  session : Bool := false
  x0      : Int := 0
  n0      : Nat := 0
  /-- One more than the highest line index used since reset. -/
  used    : Nat := 0
  nextK   : Nat := 0
  /-- W + 1 (R108). -/
  mark    : Nat := 0
  expoNo  : Nat := 0
  /-- Start and end of the last exposure frozen (R91). -/
  lastStart : Option Nat := none
  lastEnd : Nat := 0
  /-- The 12 counters of Table 3.13, in table order. -/
  counters : List Nat := [0, 0, 0, 0, 0, 0, 0, 0, 0, 0, 0, 0]
  /-- Largest |δ| of the repeat in progress, S63.16. -/
  maxDelta : Nat := 0
  /-- The repeat in progress for MAX_DELTA, as a Datum id. -/
  maxRid   : Option Nat := none
  /-- Lead-row tickets stop at this line index (R47). -/
  leadStop : Option Nat := none
  /-- No exposure at or beyond this index: the cut of a stop cycle (R440). -/
  stopAt : Option Nat := none
  /-- A restart of the transport will bring the exposures beyond stopAt (R443). -/
  resumes : Bool := false
  /-- Rows are exposed from the lines this index serves: n0, or R_L after a restart (R105, R444). -/
  rowN   : Nat := 0
  /-- Lines below have their grid line from before a restart (R444). -/
  lineFrom : Nat := 0
  /-- End of the diagnostic pulse of the last marker (R392). -/
  diagEnd : Nat := 0
  /-- No further exposures at all (HOLD, or the stop's last line is ticketed). -/
  closed  : Bool := true
deriving DecidableEq, Repr

/-- The verdict kinds of Table 3.6 and R107. -/
inductive Verdict where
  | commit | offcentre | uncentred | squash | withdraw
deriving DecidableEq, Repr

/-- A tile-plane-line in flight: the raw copy and its latches (R187, Table 5.8). -/
structure Tpl where
  port   : Nat
  slot   : Nat
  /-- Repeat predicted at the freeze, as a Datum id (R94). -/
  rid    : Nat
  /-- Its first packet word has arrived. -/
  entered : Bool
  dark   : List Nat
  codes  : List Nat
  /-- Next segment expected; 0 before the first image packet. -/
  seg    : Nat
  complete : Bool
  absent : Bool
  w      : Nat
  gen    : Nat
  /-- Held corrected samples by tile column (R95). -/
  y      : List Int
  replayed : Bool
  /-- Corrected: the dark reference and the collapse were both present (R159). -/
  done   : Bool
  /-- What its last pass gave: D, the sets it used, and the counts of R177. -/
  dref     : Nat := 0
  sets     : List (Nat × List Int) := []
  fixes    : List Nat := [0, 0, 0]
  /-- Serves no line of the session, so it is discarded with no correction (R105). -/
  discard : Bool
  /-- Absent from the freeze on, as its port drove no SYNC (R122): a squash loses no candidate of it (R201). -/
  silent : Bool := false
deriving DecidableEq, Repr

/-- An exposure in flight: a Gate slot and its ticket (R93). -/
structure Slot where
  line   : Nat
  expo   : Nat
  ts     : Nat
  tp     : Nat
  e      : Nat
  freeze : Nat
  deadline : Nat
  /-- Repeat of the line itself, as a Datum id. -/
  rid    : Nat
  verdict : Option Verdict
  /-- True position, S63.16. -/
  x      : Int
  /-- Retired mask, edges and d_b(t_p) latched at Gate entry (R18, R210). -/
  mask   : Option Nat
  bar    : Option Int := none
  edges  : Option (Option Nat × Option Nat)
  tpls   : List Tpl
  /-- Ports whose SYNC has risen and not fallen, and whose rising edge is still due. -/
  high   : List Nat
  due    : List Nat
  /-- Port temperatures latched at the freeze, Q16.16 (R169). -/
  temps  : Tbl Int
  /-- Ports whose collapse used a held temperature (R169). -/
  held   : List Nat := []
  replayed : Bool
  /-- The collapse of the exposure is complete (R172). -/
  collapsed : Bool
  /-- Lamp state latched: undiagnosed string at the exposure; shading stale (R218). -/
  undiag : Bool
  stale  : Bool
deriving DecidableEq, Repr

/-- PORT_CFG (Table 4.2). -/
structure PortCfg where
  enable  : Nat := 0
  row     : Nat := 0
  reverse : Nat := 0
  columns : Nat := 5120
  planes  : Nat := 15
  depth   : Nat := 12
  colours : List Nat := [0, 1, 2, 3]
  dark    : Nat := 16
  half    : Nat := 0
  fill    : Nat := 0
  tTile   : Nat := 0xFFFF
deriving DecidableEq, Repr

/-- The states of PORT_STAT; ACTIVE is READY in a capture mode (R154). -/
inductive PortState where
  | off | training | ready | retraining | retired
deriving DecidableEq, Repr

/-- A register transaction on SPn_CTL (R137 to R139). -/
structure CtlTx where
  write : Bool
  addr  : Nat
  data  : Nat
  tries : Nat
  start : Nat
deriving DecidableEq, Repr

/-- The receiver of one ball of a port (R125, R129): the last 58 payload bits received, the oldest in bit 0; consecutive valid sync headers, up to 64; the last 64 headers, bit i set for one i blocks ago that was invalid; block lock; and, for the deskew, blocks still to be skipped and descrambled blocks that wait for the other lanes, as header and payload. -/
structure BallRx where
  hist   : Nat := 0
  good   : Nat := 0
  bad    : Nat := 0
  locked : Bool := false
  skip   : Nat := 0
  fifo   : List (Nat × Nat) := []
deriving DecidableEq, Repr

/-- The four lanes of a port (R126 to R130): deskewed; error-free alignment rows in TRAIN; the last ALIGN_NO; rows since the last alignment row; and the words of the packet under way. -/
structure PortRx where
  balls   : List BallRx := [{}, {}, {}, {}]
  aligned : Bool := false
  good    : Nat := 0
  last    : Nat := 0
  since   : Nat := 0
  words   : List (BitVec 64) := []
deriving DecidableEq, Repr

/-- Where a training or a retrain stands (R143, R145): waiting for the control lane; a register read of steps 1 and 2; a register write of steps 3 to 5; alignment rows in TRAIN; those in RUN; done; failed. -/
inductive TrainStep where
  | due
  | read (i : Nat)
  | write (i : Nat)
  | lanes
  | check
  | done
  | failed
deriving DecidableEq, Repr

/-- A training, or a retrain, in progress: its start and the words that the tile has answered (R143, R145). -/
structure Trainer where
  retrain : Bool
  step    : TrainStep
  start   : Nat
  answers : List Nat := []
deriving DecidableEq, Repr

/-- One sensor port (chapter 4). -/
structure Port where
  cfg     : PortCfg := {}
  state   : PortState := .off
  cause   : Nat := 0
  laneOrder : Nat := 0
  polarity : Nat := 0
  skew    : List Int := [0, 0, 0, 0]
  tileId  : Nat := 0
  /-- T_TILE that the tile declared at training. -/
  declared : Nat := 0
  /-- T_TILE in force, which the end of a training sets (R144). -/
  tTile : Nat := 0
  /-- The 16 counters of Table 4.14, in table order. -/
  counters : List Nat := [0, 0, 0, 0, 0, 0, 0, 0, 0, 0, 0, 0, 0, 0, 0, 0]
  /-- Instants of error events within 1 s, newest first (R149). -/
  errs    : List Nat := []
  /-- An error event is open until a retrain completes (R146). -/
  event   : Bool := false
  fails   : Nat := 0
  /-- Instant plus 1 of the last EV_PORT_FAULT. -/
  posted  : Nat := 0
  /-- Events suppressed since the last EV_PORT_FAULT posted. -/
  suppressed : Nat := 0
  /-- Instant plus 1 at which each lane lost lock; 0 while locked. -/
  lock    : List Nat := [0, 0, 0, 0]
  /-- Readmission: 0 none, 1 training, 2 waits for a Datum, 3 waits for the Gate entry of its first line (R152). -/
  readmit : Nat := 0
  /-- First line of the repeat that takes the port back, once it is ticketed. -/
  readmitAt : Option Nat := none
  /-- Instant at which the wait began. -/
  readmitT : Nat := 0
  /-- The register transaction in progress, and one to be repeated once a free window exists (R138, R139). -/
  tx      : Option CtlTx := none
  again   : Option CtlTx := none
  /-- LINK.HALF_RATE as the device last wrote it (R141). -/
  tileHalf : Nat := 0
  rx      : PortRx := {}
  trainer : Option Trainer := none
  /-- Instant of the last failed retrain (R149). -/
  failAt  : Nat := 0
  /-- SYNC ball level. -/
  sync    : Bool := false
  /-- Tags of the EXPO frames that wait for the end of a transaction, in the order of their edges (R139). -/
  frameDue : List Nat := []
  /-- End of the last EXPO frame (R139). -/
  expoEnd : Nat := 0
  /-- Exposures the tile has been paced for and not yet sent, oldest first. -/
  owed    : List Nat := []
deriving DecidableEq, Repr

/-- A PORT_TRAIN or PORT_CFG outstanding: its command and opcode, the ports it names, those that still train, and those it retired (R152). -/
structure TrainTx where
  key    : Nat
  op     : Nat
  mask   : Nat
  left   : Nat
  failed : Nat := 0
deriving DecidableEq, Repr

/-- The 32 ports and what R152 and R54 keep across them. -/
structure PortsSt where
  list    : List Port := List.replicate 32 {}
  /-- Retired mask (R150). -/
  retired : Nat := 0
  /-- The commands that wait for trainings, in the order of their acceptance (R152, R364). -/
  trains  : List TrainTx := []
  /-- Instant at which the group reference clocks started. -/
  tRef    : Option Nat := none
deriving DecidableEq, Repr

end Sys2Proof.Machine
end

