-- ==== Sys2Proof/Syntax.lean ====
section
/-! DEFINITION. The commands of the GNV-3400: one constructor of Instr per row of the opcode table, with the row's operands. The operand t of every constructor is the instant, in ns on the TIM time base, at which the command happens (log 1). What comes from outside the device (a packet, a descriptor's bytes, a conversion's code) is an operand too (log 2). -/

namespace Sys2Proof

/-- Bytes that a codec job or a replay reads from host memory, HBM or the spool (R288), and whether the read ended without an error. -/
structure SourceData where
  ok    : Bool
  bytes : List Byte
deriving DecidableEq, Repr

/-- An epoch of the log (R319): its number, first sequence, drives and their write pointers. -/
structure SpoolEpoch where
  number : Nat
  first  : Nat
  drives : List Nat
  ptrs   : List Nat
deriving DecidableEq, Repr

/-- A write to BAR0: its bytes, and its byte enables as bits, byte 0 first (R334). -/
structure ByteWrite where
  enables : Nat
  bytes   : List Byte
deriving DecidableEq, Repr

/-- A read of BAR0: its first address and its length in bytes (R334). -/
structure Access where
  addr  : Nat
  count : Nat
deriving DecidableEq, Repr

/-- An edge at an input: which input, and for how many ns its new level holds (R77). -/
structure InputEdge where
  input : Nat
  held  : Nat
deriving DecidableEq, Repr

/-- The 2-bit sync headers received at a ball, in order (R129). -/
structure BallHeaders where
  ball    : Nat
  headers : List Nat
deriving DecidableEq, Repr

/-- The fullest input queue of an island: its level and depth, and whether it has reached half full just now (R22). -/
structure FullQueue where
  island : Nat
  level  : Nat
  depth  : Nat
  fresh  : Bool
deriving DecidableEq, Repr

/-- For how many cycles in a row every input queue of an island has been below a quarter full (R22) or empty (R24). -/
structure QuietQueues where
  island : Nat
  cycles : Nat
deriving DecidableEq, Repr

/-- One segment that ATTACH finds (R320, R323): its log sequence, stream, ARCHIVE flag, item bytes, and whether its HEADER_CRC holds. -/
structure FoundSegment where
  lseq   : Nat
  stream : Nat
  archive : Bool
  items  : List (List Byte)
  ok     : Bool
deriving DecidableEq, Repr

/-- What Identify tells of the drive on a link (R314): its 4 MiB slots behind the superblock (0 where there is no drive or it offers no 4096-byte format), its largest transfer in bytes (0 for no limit), and its serial number. -/
structure DriveInfo where
  slots  : Nat := 0
  mdts   : Nat := 0
  serial : Nat := 0
deriving DecidableEq, Repr

/-- What SPOOL_CFG ATTACH finds on the drives (R317, R323): whether a superblock can be read, the drive of each link, the superblock's SPOOL_ID, epoch table and wrapped keys, and the segments. -/
structure Attach where
  readable : Bool
  drives   : List DriveInfo
  keys     : List Byte
  spoolId  : Nat
  lseqNext : Nat
  epochs   : List SpoolEpoch
  segments : List FoundSegment
deriving DecidableEq, Repr

/-- What an AD2 slot converts (R459). -/
inductive Ad2Use where
  | vibration
  | calibration (range : Nat)
  | supply (axis : Nat)
  | dieTemp (sensor : Nat)
  | rail (rail : Nat)
  | channel (channel : Nat)
deriving DecidableEq, Repr

/-- The codes of one self-calibration of one range (R252): 16 of zero and 16 of the reference. -/
structure CalRange where
  range : Nat
  zero  : List Int
  ref   : List Int
deriving DecidableEq, Repr

/-- A Narian Station Protocol frame as the MAC delivers it (R477, R478): both addresses with their first byte lowest, the fields of Table 15.1, and TAG. -/
structure NspFrame where
  dstMac  : Nat
  srcMac  : Nat
  version : Nat
  kind    : Nat
  srcNode : Nat
  dstNode : Nat
  nflags  : Nat
  srcBoot : Nat
  seq     : Nat
  time    : Nat
  payload : List Byte
  tag     : List Byte
deriving DecidableEq, Repr

/-- One error that a scrub finds (R525): store, unit, address, and whether two bits are wrong. -/
structure ScrubFinding where
  store  : Nat
  unit   : Nat
  addr   : Nat
  double : Bool
deriving DecidableEq, Repr

/-- The rows of the opcode table. -/
inductive Instr where
  /-- R44: POR_N goes low and the device enters RESET within 1 µs, discarding settings, banks and tables. -/
  | porNFall (t : Nat)
  /-- R51: POR_N and SYS_RST_N both high move the device from RESET into BOOT, and the SC runs the boot ROM. -/
  | porNRise (t : Nat) (badChannels : Nat) (badLogTags : Nat)
  /-- R549: SYS_RST_N goes low and the device enters RESET as for POR_N, but keeps the energy counters, the repair map and XTAL_25. -/
  | sysRstNFall (t : Nat)
  /-- R548: A watched rail stays below 92 % for 1 µs and the device enters RESET as if POR_N had gone low. -/
  | brownOut (t : Nat)
  /-- R548: 10 ms after every watched rail has returned to range, the device leaves RESET as if POR_N had risen. -/
  | brownOutRecovery (t : Nat)
  /-- R549: XTAL_25 has been stopped for 2 µs and the device holds itself in RESET. -/
  | xtal25Stop (t : Nat)
  /-- R549: The oscillator has run for 1 ms and the device leaves RESET and boots as from POR_N. -/
  | xtal25Restart (t : Nat)
  /-- R522: The hardware comparator trips at 125 °C and the device enters RESET within 1 µs. -/
  | thermalTrip (t : Nat) (sensor : Nat)
  /-- R522: Every sensor reads below 95 °C, so the thermal RESET ends and the device boots. -/
  | thermalTripRelease (t : Nat)
  /-- R53, R51: Mailbox service starts and serves the held doorbells in doorbell order; just before it, the values of the running CFG go into both settings banks (none: CFG replaces none, R55). -/
  | mailboxServiceStart (t : Nat) (cfg : Option Machine.CfgPart)
  /-- R51: Boot completes and the device enters STANDBY. -/
  | bootComplete (t : Nat) (slotOk : Bool)
  /-- R329: The host link finishes training at a rate and width, and the delivery capacity C_link follows from them. -/
  | pcieLinkUp (t : Nat) (rate : Nat) (width : Nat)
  /-- R51: 100 ms after PERST_N rises, configuration space answers requests instead of returning retry status. -/
  | configSpaceReady (t : Nat)
  /-- R331: FLR, Hot Reset, PERST_N low, link down, BME cleared or D3hot stops host access, puts the rings in RING_ERROR, disables the event queue and discards QUEUED requests. -/
  | hostInterfaceReset (t : Nat) (kind : Nat)
  /-- R357: The link retrains to another rate, and below R329 it clears CAPTURE_OK while the excess goes to refuge. -/
  | linkRateChange (t : Nat) (rate : Nat) (width : Nat)
  /-- R340: A write to MBn_DOORBELL latches the request, records TOKEN, increments SEQ and enters BUSY or QUEUED, or it sets OVERRUN. -/
  | mbDoorbell (t : Nat) (mb : Nat) (token : Nat)
  /-- R303: A write to RINGn_TAIL hands descriptors to the device and clears or raises RING_ERROR. -/
  | ringTailWrite (t : Nat) (stream : Nat) (tail : Nat)
  /-- R353: A write to EVQ_HEAD consumes entries, sets ARMED and signals when entries remain, or is ignored when it overruns. -/
  | evqHeadWrite (t : Nat) (head : Nat)
  /-- R348: Setting EVQ_CTRL.ENABLE from 0 to 1 resets TAIL, HEAD and the phase and starts event writing. -/
  | evqEnable (t : Nat)
  /-- R353: A 1 written to EVQ_CTRL.ARMED arms the signal for the next entry. -/
  | evqArmed (t : Nat)
  /-- R352: A write of EVQ_CTRL.VECTOR sets the vector, and a reserved vector 5 to 7 stores 0. -/
  | evqVector (t : Nat) (vector : Nat)
  /-- R334: A write to a BAR0 register that has no row of its own, subject to the access rules. -/
  | registerWrite (t : Nat) (addr : Nat) (data : ByteWrite)
  /-- R333: An access to a reserved or misaligned BAR0 address reads 0 or is ignored, and is counted in ACCESS_ERR. -/
  | reservedAccess (t : Nat) (addr : Nat) (bytes : Nat) (write : Bool)
  /-- R7: A read of an RC register returns its value and then clears it. -/
  | rcRegisterRead (t : Nat) (read : Access)
  /-- R354: A read of a snapshot LO register returns the low word and latches the high word of the same instant. -/
  | snapshotLoRead (t : Nat) (pair : Nat)
  /-- R354: An aligned 8-byte read of a snapshot pair returns both halves from one instant and loads the latch. -/
  | snapshotPairRead (t : Nat) (pair : Nat)
  /-- R468: A read of AUXn_STATUS latches the same result's value into the channel latch. -/
  | auxStatusRead (t : Nat) (channel : Nat)
  /-- R336: A BAR2 write is taken into HBM, or discarded and counted in WIN_DISCARD. -/
  | bar2Write (t : Nat) (offset : Nat) (bytes : List Byte)
  /-- R337: A BAR2 read returns HBM bytes, waiting up to 1.5 µs when the stack is in self-refresh. -/
  | bar2Read (t : Nat) (offset : Nat) (count : Nat)
  /-- R352: Unmasking an MSI-X entry with its pending bit set signals the vector. -/
  | msixUnmask (t : Nat) (vector : Nat)
  /-- R350: A held event is written to the queue in ESEQ order once space appears, and signals when ARMED. -/
  | eventWrite (t : Nat)
  /-- R353: The COALESCE delay after an entry expires and the event vector is signalled. -/
  | coalesceTimer (t : Nat)
  /-- R362: Returns part, step, boot slot, IDs, serial and the component versions. -/
  | devInfo (t : Nat) (src : Nat)
  /-- R332: Writes its response and then places the device in RESET within 1 µs, aiming for BOOT or RECOVERY. -/
  | devReset (t : Nat) (src : Nat)
  /-- R44: Requests a mode transition, which is checked against the transition table and returns ACCEPTED, OK, WRONG_MODE or BUSY. -/
  | modeSet (t : Nat) (src : Nat)
  /-- R40: Returns the present and previous mode, the cause, any pending target, the fault and the entry time. -/
  | modeGet (t : Nat) (src : Nat)
  /-- R65: Sets the Datum source and the cue qualification parameters, clamping WINDOW. -/
  | datumCfg (t : Nat) (src : Nat)
  /-- R69: Places a Datum before the first line whose line ticket is not yet issued. -/
  | datumForce (t : Nat) (src : Nat)
  /-- R56: Arms the staged bank for the next Datum that TIM fixes. -/
  | stageCommit (t : Nat) (src : Nat)
  /-- R119: Sets the port parameters, possibly starting a retraining, and allows only FILL in capture modes. -/
  | portCfg (t : Nat) (src : Nat)
  /-- R152: Trains the ports in its mask, or returns RETIRED when the mask names a retired port. -/
  | portTrain (t : Nat) (src : Nat)
  /-- R152: Clears a retired port's history and trains it for readmission. -/
  | portReadmit (t : Nat) (src : Nat)
  /-- R154: Returns the port state, lane order, skew, TILE_ID and counters, optionally clearing them. -/
  | portStat (t : Nat) (src : Nat)
  /-- R77: Sets the encoder and cue input parameters at once. -/
  | encCfg (t : Nat) (src : Nat)
  /-- R87: Sets the Transit parameters with clamping, locking PITCH and SOURCE during capture. -/
  | transitCfg (t : Nat) (src : Nat)
  /-- R60: Writes the exposure into the staged bank. -/
  | expoSet (t : Nat) (src : Nat)
  /-- R113: Returns the Transit state and the Gate counters latched at one instant. -/
  | posRead (t : Nat) (src : Nat)
  /-- R163: Writes shading records into the staged bank, inline or from the load area. -/
  | shadeLoad (t : Nat) (src : Nat)
  /-- R165: Reads records of one bank, or the correction counters and running-white state. -/
  | shadeRead (t : Nat) (src : Nat)
  /-- R167: Writes polynomial sets into the staged bank, or sets a port's temperature binding. -/
  | polyLoad (t : Nat) (src : Nat)
  /-- R163: Writes the DEF codes of listed columns into the staged bank. -/
  | defectMap (t : Nat) (src : Nat)
  /-- R192: Writes the stagger and Baseline delays into the staged bank, subject to the capacity and session-lock checks. -/
  | baselineCfg (t : Nat) (src : Nat)
  /-- R202: Writes a seam's overlap, offset and blend into the staged bank. -/
  | seamCfg (t : Nat) (src : Nat)
  /-- R211: Writes regions into the staged bank, clamping their columns to whole bins. -/
  | regionSet (t : Nat) (src : Nat)
  /-- R207: Writes the Selvedge tracker and running-white parameters into the staged bank. -/
  | selvedgeCfg (t : Nat) (src : Nat)
  /-- R223: Starts a calibration of the kind given. -/
  | calRun (t : Nat) (src : Nat)
  /-- R257: Returns the count, times, state and result of one calibration kind. -/
  | calStatus (t : Nat) (src : Nat)
  /-- R235: Sets the plausibility limits for later runs. -/
  | calLimits (t : Nat) (src : Nat)
  /-- R242: Starts, discards or finishes the graded application of a pending result. -/
  | calApply (t : Nat) (src : Nat)
  /-- R279: Writes a loadable code table into the staged bank after a validity check. -/
  | codeTableLoad (t : Nat) (src : Nat)
  /-- R288: Queues a memory-to-memory compression or decompression job. -/
  | codecJob (t : Nat) (src : Nat)
  /-- R293: Returns the state of a job, or a stream's coding counters. -/
  | codecJobStat (t : Nat) (src : Nat)
  /-- R212: Writes a stream format into the staged bank, subject to staging and coder admission. -/
  | streamOpen (t : Nat) (src : Nat)
  /-- R261: Closes a stream, flushing its last bolts. -/
  | streamClose (t : Nat) (src : Nat)
  /-- R297: Configures a stream's descriptor ring and resets its ring registers. -/
  | ringCfg (t : Nat) (src : Nat)
  /-- R316: Configures the spool and attaches or formats its log. -/
  | spoolCfg (t : Nat) (src : Nat)
  /-- R324: Starts delivering a range of spooled items to a destination stream. -/
  | spoolReplay (t : Nat) (src : Nat)
  /-- R326: Returns the delivery and spool status, latched at one instant. -/
  | spoolStat (t : Nat) (src : Nat)
  /-- R411: Maps a slice's strings and brings the slice into service or out of it. -/
  | lampMap (t : Nat) (src : Nat)
  /-- R55: Writes string intensity targets into the staged bank. -/
  | lampSet (t : Nat) (src : Nat)
  /-- R394: Selects each string's curve, PWM mode and fade time. -/
  | lampCurve (t : Nat) (src : Nat)
  /-- R396: Sets each string's derating temperatures and floor, with clamping. -/
  | lampDerate (t : Nat) (src : Nat)
  /-- R370: Marks a group as a safety group or not. -/
  | lampGroup (t : Nat) (src : Nat)
  /-- R415: Returns the group state and each string's state, level and diagnosis. -/
  | lampStat (t : Nat) (src : Nat)
  /-- R408: Clears the latch of the groups in its mask so that their strings fade up. -/
  | lampRearm (t : Nat) (src : Nat)
  /-- R419: Configures and enables or disables an axis. -/
  | axisCfg (t : Nat) (src : Nat)
  /-- R428: Plans a move, or re-plans and supersedes a running one. -/
  | axisMove (t : Nat) (src : Nat)
  /-- R434: Starts a homing search. -/
  | axisHome (t : Nat) (src : Nat)
  /-- R429: Stops axes along their profile or immediately. -/
  | axisStop (t : Nat) (src : Nat)
  /-- R370: Returns an axis's state, flags, position, speed, supply and duties. -/
  | axisStat (t : Nat) (src : Nat)
  /-- R81: Names the proof and Bench axes, their sources and the virtual-encoder scales. -/
  | proofCfg (t : Nat) (src : Nat)
  /-- R448: Configures a result channel at once, adjusting values that do not suit its converter. -/
  | auxCfg (t : Nat) (src : Nat)
  /-- R452: Sets the AD0 and AD1 routing, discarding the conversions in progress. -/
  | auxSeq (t : Nat) (src : Nat)
  /-- R469: Returns the values, status and age of the masked channels at one instant. -/
  | auxRead (t : Nat) (src : Nat)
  /-- R464: Sets a channel's linearisation polynomial and temperature source. -/
  | auxPoly (t : Nat) (src : Nat)
  /-- R466: Starts averaging for a ZERO or SPAN trim point, or clears the trim. -/
  | auxCal (t : Nat) (src : Nat)
  /-- R476: Configures the station bus and restarts the MAC on an access or ID change. -/
  | stnCfg (t : Nat) (src : Nat)
  /-- R492: Selects the time source and optionally sets the host time. -/
  | timeCfg (t : Nat) (src : Nat)
  /-- R501: Starts or resumes a download of an image. -/
  | updBegin (t : Nat) (src : Nat)
  /-- R502: Takes a 1 MiB piece from the load area, programs it and saves the download state. The operand nothing carries no data: the row has none but its request. -/
  | updPiece (t : Nat) (src : Nat) (nothing : Unit)
  /-- R373: Returns the update state, progress, schedule and staged versions. -/
  | updStatus (t : Nat) (src : Nat)
  /-- R507: Sets the activation time and policy for the verified image. -/
  | updSchedule (t : Nat) (src : Nat)
  /-- R512: Confirms a trial boot and raises the generation floors. -/
  | updConfirm (t : Nat) (src : Nat)
  /-- R506: Cancels a download and any schedule. -/
  | updAbort (t : Nat) (src : Nat)
  /-- R529: Returns fault log entries from FIRST. -/
  | faultLog (t : Nat) (src : Nat)
  /-- R519: Sets the action of fault codes. -/
  | faultPolicy (t : Nat) (src : Nat)
  /-- R532: Checks the owner token, counts an open and starts the secret erase ahead of opening the debug port. -/
  | debugOpen (t : Nat) (src : Nat)
  /-- R535: Supplies or regenerates one secret after an authority check. The operand nothing carries no data: the row has none but its request. -/
  | keyProvision (t : Nat) (src : Nat) (nothing : Unit)
  /-- R373: Starts a loopback test of a target for a duration. -/
  | diagLoopback (t : Nat) (src : Nat)
  /-- R36: Returns every energy meter counter latched in one tick. -/
  | energyRead (t : Nat) (src : Nat)
  /-- R373: The loopback duration ends and the command completes with the bit errors it counted. -/
  | loopbackComplete (t : Nat) (errors : Nat)
  /-- R45: The capture pipeline is armed, the mode change completes and a capture session is anchored. -/
  | pipelineArmed (t : Nat)
  /-- R47: Every line of the session has reached a ring or the refuge, so the device enters READY. -/
  | orderlyStopComplete (t : Nat)
  /-- R47: The web has not carried the last lines past the trail row within 1 s, so the stop ends with a gap record. -/
  | stopTimeout (t : Nat)
  /-- R78: An encoder edge is timestamped and turned into a measurement z. a and b are the levels after it, and held is how long in ns they hold (R77). -/
  | encoderEdge (t : Nat) (edge : InputEdge) (a : Bool) (b : Bool)
  /-- R84: No measurement for STILL_TIME, so speed and acceleration are zeroed and Transit enters STILL. -/
  | stillTimeout (t : Nat)
  /-- R80: A cue edge is converted to a cue position C and offered to Datum qualification, or ignored. -/
  | cueEdge (t : Nat) (edge : InputEdge) (rising : Bool)
  /-- R66: C passes the end of the acceptance window, so a FLYWHEEL Datum is placed or the expected position moves on. -/
  | windowClose (t : Nat)
  /-- R90: The time base reaches t_s − L_s, so the line's exposure is fixed, a ticket and a Gate slot issued, and the collapse done. -/
  | freeze (t : Nat)
  /-- R121: The port drives SYNC high at t_s − T_TILE and sends the EXPO frame. -/
  | syncRise (t : Nat) (port : Nat)
  /-- R121: The port drives SYNC low at t_s + E − T_TILE. -/
  | syncFall (t : Nat) (port : Nat)
  /-- R96: The verdict deadline passes with no measurement, so the verdict is given from extrapolation. -/
  | verdictDeadline (t : Nat)
  /-- R59: The last line of the ending repeat has been coded, so the old bank is released and refilled as the staged bank. -/
  | bankRelease (t : Nat)
  /-- R134: A tile packet is received and checked, entering the Gate or opening an error event. idles block periods of IDLE blocks come first; then, for each block period, the 66-bit block at each of the port's four balls, its first-sent bit in bit 0. -/
  | tilePacket (t : Nat) (port : Nat) (idles : Nat) (blocks : List (List Nat))
  /-- R129: An alignment row arrives and its spacing and ALIGN_NO are checked for skew. The blocks are those of tilePacket. -/
  | alignmentRow (t : Nat) (port : Nat) (idles : Nat) (blocks : List (List Nat))
  /-- R129: 16 invalid sync headers within 64 cause a lane to lose block lock. -/
  | blockLockLoss (t : Nat) (port : Nat) (heard : BallHeaders)
  /-- R134: A tile-plane-line is not complete 32 µs after the integration end, which is a late error. -/
  | lateError (t : Nat) (port : Nat)
  /-- R143: Port training ends in success, or fails and retires the port. The row tells which, and occurs where the training has so ended. -/
  | trainingComplete (t : Nat) (port : Nat) (ok : Bool)
  /-- R145: A retrain ends in success, or fails and counts toward RETRAIN_FAIL. The row tells which and, of a success, the lane order, polarity and skew that the lanes then have; it occurs where the retrain has so ended. -/
  | retrainComplete (t : Nat) (port : Nat) (ok : Bool) (laneOrder : Nat) (polarity : Nat) (skew : List Int)
  /-- R149: 100 µs after a failed retrain, the next retrain starts. -/
  | retrainRetry (t : Nat) (port : Nat)
  /-- R149: A lane has been out of block lock for more than 10 ms, so the port retires. -/
  | lockLoss (t : Nat) (port : Nat) (lane : Nat)
  /-- R139: The device starts a tile register transaction once a free window exists. -/
  | ctlTransaction (t : Nat) (port : Nat) (write : Bool) (addr : Nat) (data : Nat)
  /-- R138: A tile READ or WRITE reply frame is received. levels are those of each half of its Manchester cells, from the preamble on (R136). -/
  | ctlReply (t : Nat) (port : Nat) (levels : List Bool)
  /-- R138: No reply within 1.0 µs, so the transaction is repeated or becomes a CTL error. -/
  | ctlReplyLost (t : Nat) (port : Nat)
  /-- R172: An exposure's collapse completes and the waiting image samples are corrected. -/
  | collapseComplete (t : Nat)
  /-- R184: A block of RW_LINES eligible lines ends, so the term is re-referenced, updated or rejected. -/
  | runningWhiteBlock (t : Nat) (side : Nat) (slot : Nat)
  /-- R196: ALN builds, stitches and quantises an output line once its candidates are present. -/
  | outputLine (t : Nat)
  /-- R195: A double-bit error in the stagger store makes the tile-plane-line absent and excludes the HBM row. -/
  | staggerDbe (t : Nat) (port : Nat) (slot : Nat) (line : Nat) (row : Nat)
  /-- R195: The pages of an excluded row are remapped onto pages taken from the ring store. -/
  | hbmRowRemap (t : Nat) (row : Nat)
  /-- R20: A bolt's H lines are staged, so DLV dispatches it to an encoder. -/
  | boltDispatch (t : Nat) (stream : Nat)
  /-- R20: An encoder finishes a bolt, and DLV releases it in BOLT_SEQ order. -/
  | boltCoded (t : Nat) (stream : Nat) (seq : Nat)
  /-- R288: A queued codec job starts once the job ahead of it in its direction has ended. -/
  | codecJobStart (t : Nat) (decompress : Bool) (source : SourceData) (tables : SourceData)
  /-- R289: A codec job ends in success or fails with a guard code. -/
  | codecJobComplete (t : Nat) (decompress : Bool)
  /-- R299: A descriptor fetch completes, or the descriptor is rejected. -/
  | descriptorFetch (t : Nat) (stream : Nat) (bytes : List Byte)
  /-- R300: A stream item is written into an open buffer, or the stream stalls. -/
  | itemDelivery (t : Nat) (stream : Nat)
  /-- R301: The first item of a buffer is MAX_AGE old, so the buffer is completed. -/
  | flushAge (t : Nat) (stream : Nat)
  /-- R301: No bolt follows a record within 20 µs under PLANE_ROW, so the buffer is completed. -/
  | flushRecordTimeout (t : Nat) (stream : Nat)
  /-- R302: A live item has waited 10 µs, so the backlog buffer is completed early. -/
  | backlogBufferEarly (t : Nat) (stream : Nat)
  /-- R306: A plane-row ready to code is reserved in the ring store, or dropped. -/
  | refugeAdmit (t : Nat) (stream : Nat)
  /-- R311: Every stream is at or below PROOF_LOW with RESERVE free, so the restart is allowed. -/
  | proofResumeAllow (t : Nat)
  /-- R307: Occupancy exceeds SPILL_MARK, so the oldest closed segment is written to the spool. -/
  | spill (t : Nat)
  /-- R310: A backlog exists and a descriptor is free beyond RESERVE, so catch-up delivery starts. -/
  | catchup (t : Nat) (stream : Nat)
  /-- R303: A descriptor fetch or buffer write ends in a PCIe error, putting the ring in error. -/
  | pcieError (t : Nat) (stream : Nat) (desc : Nat)
  /-- R537: A PCIe completion does not arrive within 50 ms. -/
  | pcieCompletionTimeout (t : Nat) (stream : Nat) (desc : Nat)
  /-- R314: An NVMe read or write completes, and a written segment leaves the store. -/
  | nvmeCommandComplete (t : Nat) (drive : Nat) (lseq : Nat) (ok : Bool)
  /-- R322: An NVMe command has not completed in 2 s, so it is aborted and reissued or retried. -/
  | nvmeTimeout (t : Nat) (drive : Nat) (lseq : Nat)
  /-- R322: A drive reports controller fatal status. -/
  | controllerFatalStatus (t : Nat) (drive : Nat)
  /-- R322: A drive's link is lost for more than 2 s. -/
  | spoolLinkLoss (t : Nat) (drive : Nat)
  /-- R323: ATTACH finishes reading the segment headers and rebuilding the index. -/
  | spoolAttachComplete (t : Nat) (found : Attach)
  /-- R317: FORMAT has written the superblocks and keys, and the log is new. -/
  | spoolFormatComplete (t : Nat) (drives : List DriveInfo)
  /-- R325: The last replay item is in a completed buffer, so SPOOL_REPLAY completes. -/
  | spoolReplayComplete (t : Nat)
  /-- R386: An 800 µs round starts, and fades and derating step. -/
  | lampRound (t : Nat)
  /-- R386: A slice's slot starts and one transaction is sent to it. -/
  | lampSlot (t : Nat) (slice : Nat)
  /-- R384: A slice reply frame is received and its STATUS evaluated. -/
  | lampReply (t : Nat) (slice : Nat) (levels : List Bool)
  /-- R385: No reply SD by the fourth boundary, so a missing reply is counted. -/
  | lampReplyMissing (t : Nat) (slice : Nat)
  /-- R391: DRV emits a LINE or LINE_SWAP pulse 1 µs before integration starts. -/
  | linePulse (t : Nat)
  /-- R401: DRV emits a DIAG_k pulse after the first exposure of its window with room for it. -/
  | diagMarker (t : Nat)
  /-- R407: 1 s after a fault on a string outside a safety group, the string is driven again. -/
  | stringRetry (t : Nat) (string : Nat)
  /-- R403: A lit string's last good measurement becomes too old, so it is undiagnosed. -/
  | stringUndiagnosed (t : Nat) (string : Nat)
  /-- R404: A safety-group string stays undiagnosed for 10 s, which raises the fault. -/
  | lampUndiagnosed (t : Nat) (string : Nat)
  /-- R425: At each 25 µs tick the profile is evaluated and the virtual encoder reported. -/
  | profileTick (t : Nat)
  /-- R421: Once per PWM period the coil voltages and duties are computed. -/
  | pwmPeriod (t : Nat) (axis : Nat)
  /-- R431: A switch input's debounced level changes. -/
  | switchEdge (t : Nat) (axis : Nat) (switch : Nat) (level : Bool)
  /-- R424: MOTn_FLT_N is low for 10 µs, which causes a fault stop. -/
  | driverFault (t : Nat) (axis : Nat)
  /-- R424: MOTn_FLT_N is high for 10 ms and DRIVER_FLT clears. -/
  | driverFltClear (t : Nat) (axis : Nat)
  /-- R423: A duty is saturated for 2 ms during a profile, so SUPPLY_LOW is posted. -/
  | supplyLow (t : Nat) (axis : Nat)
  /-- R423: No good V_M for 10 ms, which causes a fault stop. -/
  | vmTimeout (t : Nat) (axis : Nat)
  /-- R420: 100 ms after the profile rests, the current drops to CURRENT_HOLD. -/
  | holdCurrent (t : Nat) (axis : Nat)
  /-- R443: The back-off has ended and the restart is allowed, so the axis runs up toward the resume position. -/
  | reApproach (t : Nat)
  /-- R444: At the freeze instant of R_L, the gate opens when SPEC and the speed hold, and otherwise the cycle retries. -/
  | restartCheck (t : Nat)
  /-- R453: An AD0 or AD1 conversion ends and its result is published with flags. -/
  | deltaSigmaConversion (t : Nat) (conv : Nat) (raw : Int) (secondary : Int)
  /-- R459: An AD2 slot conversion ends for vibration, calibration, supply, housekeeping or a channel. -/
  | ad2Conversion (t : Nat) (use : Ad2Use) (raw : Int)
  /-- R454: A VEX source reaches its current limit and switches off. -/
  | excitationOverload (t : Nat) (vex : Nat)
  /-- R470: STALE has held for 1 s outside self-calibration, so EV_AUX STALE is posted. -/
  | staleEvent (t : Nat) (channel : Nat)
  /-- R524: OPEN has held continuously for 10 s, which raises AUX_OPEN. -/
  | auxOpen (t : Nat) (channel : Nat)
  /-- R256: AUTO_PERIOD elapses or the die temperature moves by AUTO_DT, so a converter self-calibration starts. -/
  | selfCalibrationDue (t : Nat) (conv : Nat)
  /-- R252: A converter self-calibration ends, and its result is accepted and ramped or refused. -/
  | selfCalibrationComplete (t : Nat) (conv : Nat) (ranges : List CalRange)
  /-- R466: AUX_CAL has averaged its samples or timed out, and it completes. -/
  | auxCalComplete (t : Nat) (channel : Nat)
  /-- R240: The shading result is computed and checked after the strip pass. -/
  | shadingResult (t : Nat)
  /-- R248: The lamp trims are computed and checked after the last measurement. -/
  | lampResult (t : Nat)
  /-- R481: A STATUS frame from another unit passes the acceptance tests and changes nothing. -/
  | nspStatus (t : Nat) (frame : NspFrame)
  /-- R485: A COMMAND frame from the station master is served as a fifth mailbox, resent or dropped. -/
  | nspCommand (t : Nat) (frame : NspFrame)
  /-- R501: An UPD_ANNOUNCE frame starts or resumes a download. -/
  | nspUpdAnnounce (t : Nat) (frame : NspFrame)
  /-- R502: An UPD_PIECE frame delivers one 1 KiB piece of the image. flashOk tells whether the flash takes what the piece has it program (R505). -/
  | nspUpdPiece (t : Nat) (frame : NspFrame) (flashOk : Bool)
  /-- R507: An UPD_SCHEDULE frame sets the activation of the verified image. -/
  | nspUpdSchedule (t : Nat) (frame : NspFrame)
  /-- R475: A frame of another kind is dropped and counted in OTHER_DROP. -/
  | otherFrame (t : Nat)
  /-- R484: A STATUS frame is sent each second and after each mode or update change. -/
  | statusFrameSend (t : Nat)
  /-- R504: After 30 s without a piece, UPD_NEED is sent naming the needed pieces. -/
  | updNeedSend (t : Nat)
  /-- R482: Every 10 ms each source's bucket refills to RATE_LIMIT tokens. -/
  | bucketRefill (t : Nat)
  /-- R490: An 802.1AS Sync corrects station time and may reach LOCKED. -/
  | syncMessage (t : Nat) (offset : Int)
  /-- R490: No Sync for 1 s after LOCKED, so time enters HOLDOVER. -/
  | holdover (t : Nat)
  /-- R492: 600 s after the last HOST_TIME, the HOST state decays to UNSYNC. -/
  | hostTimeDecay (t : Nat)
  /-- R524: No frame and no beacon for 5 s with the bus enabled, which raises STN_LOST. -/
  | stnLost (t : Nat)
  /-- R505: Digest verification of the downloaded components ends as VERIFIED, a refetch or FAILED. -/
  | verificationComplete (t : Nat) (readErrors : Nat) (flashOk : Bool)
  /-- R508: Station time reaches TIME, so the device enters ACTIVATE or applies SKIP or WAIT. -/
  | activationTime (t : Nat)
  /-- R508: TIME + WINDOW passes under WAIT, so MISSED is posted. -/
  | activationWindowEnd (t : Nat)
  /-- R509: One component of the switch-over starts and is confirmed, and the next step is committed; cfg holds the banked values of the new CFG (R510). -/
  | switchOverStep (t : Nat) (ok : Bool) (cfg : Option Machine.Bank)
  /-- R511: One component is reversed during a rollback. -/
  | rollbackStep (t : Nat)
  /-- R513: CONFIRM_WINDOW expires, so the device resets for another trial boot. -/
  | confirmWindowExpiry (t : Nat)
  /-- R525: An SRAM read finds a corrected or double-bit error with its store's outcome. -/
  | sramError (t : Nat) (store : Nat) (unit : Nat) (addr : Nat) (double : Bool)
  /-- R525: An HBM read finds a corrected or double-bit error with its area's outcome. -/
  | hbmError (t : Nat) (addr : Nat) (double : Bool)
  /-- R525: A periodic scrub reads the protected stores and finds errors. -/
  | scrub (t : Nat) (findings : List ScrubFinding)
  /-- R533: A signed JTAG challenge response opens the port or is refused. -/
  | jtagUnlock (t : Nat) (signature : List Byte)
  /-- R532: The secret erase completes and the debug extensions are enabled. -/
  | secretsErased (t : Nat)
  /-- R534: The 60 s refusal period after repeated refused authorities ends. -/
  | authLockoutEnd (t : Nat)
  /-- R35: Each channel of the energy meter accumulates every 1 µs. -/
  | energyTick (t : Nat)
  /-- R22: An input queue reaches half full, or is still half full 256 cycles later, so the island steps up. level and depth are the flits and credits of the fullest input queue; fresh says that it has just reached half full. -/
  | clockStepRaise (t : Nat) (queue : FullQueue)
  /-- R22: The queues stay below a quarter for 4096 cycles, so the island steps down. quiet counts the cycles for which every input queue has stayed below a quarter. -/
  | clockStepLower (t : Nat) (quiet : QuietQueues)
  /-- R24: An idle island at F0 stops its clock after 256 cycles. idle counts the cycles for which its input queues have been empty and no request it issued awaited a response. -/
  | clockStop (t : Nat) (idle : QuietQueues)
  /-- R24: A flit arrives at a stopped island, whose clock restarts. -/
  | clockRestart (t : Nat) (island : Nat)
  /-- R25: No HBM request for 100 µs, so the stack enters self-refresh. -/
  | hbmSelfRefresh (t : Nat)
  /-- R44: SYS_RST_N returns high while POR_N is high, so the device leaves RESET and enters BOOT. -/
  | sysRstNRise (t : Nat)
  /-- R51: PERST_N rises, which starts the 20 ms wait before host link training and the 100 ms wait before configuration space answers. -/
  | perstNRise (t : Nat)
  /-- R45: A non-capture mode change such as STANDBY to READY, READY to STANDBY, HOLD to READY or REPLAY or SERVICE to READY finishes: the new mode is entered, EV_MODE is posted and the MODE_SET completes. -/
  | modeChangeComplete (t : Nat)
  /-- R490: An 802.1AS peer-delay frame is received and the mean link delay is measured from the exchange. -/
  | peerDelayFrame (t : Nat) (delay : Nat)
  /-- R481: An NSP frame of type RESPONSE, EVENT or UPD_NEED arrives, passes or fails the rate, key and tag tests, and is refused by the permission test and counted as a stranger. -/
  | nspUnacceptedType (t : Nat) (frame : NspFrame)
  /-- R520: 100 ms pass without an illegal transition, so ENC_FAULT stops being active and its FAULT_SUMMARY bit clears. -/
  | encFaultClear (t : Nat) (enc : Nat)
  /-- R524: AD0 or AD1 has carried SUSPECT for 60 s, or AD2 has completed no conversion for 10 ms, so the converter is retired and its channels hold as STALE. -/
  | auxAdcRetired (t : Nat) (conv : Nat)
  /-- R365: A SHADE_LOAD from the load area has read all its records into the staged bank and completes with EV_CMD_DONE. -/
  | shadeLoadComplete (t : Nat) (src : Nat)
  /-- R503: The flash programming of a PCIe piece and the save of the download state finish, and the UPD_PIECE completes. -/
  | updPieceComplete (t : Nat) (flashOk : Bool)
  /-- R530: A JTAG instruction arrives on the locked port and is served as IDCODE, BYPASS, SAMPLE/PRELOAD or EXTEST (in RESET only), or is refused. -/
  | jtagInstruction (t : Nat) (ir : Nat)
deriving DecidableEq, Repr

end Sys2Proof
end

