-- ==== Sys2Proof/Decode.lean ====
section
/-! DEFINITION. The decoder of table words. -/

namespace Sys2Proof

/-- The command that a word of nbits bits spells. spec/opcode_table.json gives none of its 221 rows any bits: a row is an event, a register access or a command of the command set, whose OPCODE field a mailbox holds and mailbox service reads (R338). So no word spells a row (log 17). -/
def decodeTableWord (nbits w : Nat) : Option Instr :=
  match nbits, w with
  | _, _ => none

end Sys2Proof
end

