-- ==== Sys2Proof/Config.lean ====
section
/-! DEFINITION. What one unit fixes and the manual does not: values held in OTP or in the firmware image, and the free values. None has a body. -/

namespace Sys2Proof.Config

/-- Silicon step, DEV_ID STEP (R333, Table 10.5): "Silicon". Log 6. -/
opaque step : BitVec 8
/-- Subsystem IDs from OTP (R328, R362). Log 6. -/
opaque subsysVendor : BitVec 16
opaque subsysId : BitVec 16
/-- Unit serial from OTP (R328, R362). Log 6. -/
opaque serial : BitVec 64
/-- Station MAC address from OTP (R475). Log 6. -/
opaque stationMac : BitVec 48
/-- Version, generation, interface level of the factory image's four components SC, TC, CC, CFG (R362, R497). Log 6. -/
opaque factoryVersion : Nat → BitVec 32
opaque factoryGen : Nat → BitVec 16
opaque factoryIface : Nat → BitVec 16
/-- REQUIRES range of factory component c for component d: lowest and highest IFACE (R498). Log 6. -/
opaque factoryReqLo : Nat → Nat → BitVec 16
opaque factoryReqHi : Nat → Nat → BitVec 16
/-- The owner key that the CFG component of an image names, by IMAGE_ID (0 the factory image), X then Y, most significant byte first (R496). Log 6. -/
opaque cfgOwnerKey : Nat → Option (BitVec 768)
/-- The public halves of the Balpearis signature key and debug key in the boot ROM, X then Y (R496, R533). Log 6. -/
opaque vendorKey : BitVec 768
opaque debugKey : BitVec 768
/-- The provisioning key and the log key in OTP, first byte lowest (R528, R535). Log 6. -/
opaque provisionKey : BitVec 256
opaque logKey : BitVec 256
/-- The factory polynomial of an internal source: word i of the source code's 15 words (R465). Log 7. -/
opaque factoryPoly : Nat → Nat → BitVec 32
/-- A draw from the device's random source (R317, R318, R478, R533, R535): the n-th draw of the unit. Log 8. -/
opaque random : Nat → BitVec 256
/-- Energy in nJ that channel c accumulates in the tick numbered n: per-event coefficients and leakage are trimmed per unit (R35). Log 9. -/
opaque energy : Nat → Nat → BitVec 32
/-- Rounding of a trapezoid's commanded position to S31.32 where the closed form does not lie on the grid (R425): true takes the upper neighbour. Log 13. -/
opaque profileRound : Nat → Bool
/-- A value the manual leaves open, one fresh index per use (log 5). -/
opaque freeValue : Nat → BitVec 64
/-- True value of the internal reference of a converter range, code × 2^30, by converter × 24 + range (R252, REF_TRUE in OTP). Log 14. -/
opaque refTrue : Nat → BitVec 64
/-- Ticks that encoder e counts per microstep of axis n, 16.16 (R226): how the Bench is built, which no rule states. Log 109. -/
opaque encoderRatio : Nat → Nat → BitVec 32
/-- Repair resources of HBM channel c (R527): the manual gives no count. Log 15. -/
opaque hbmRepair : Nat → BitVec 16
/-- DETAIL of the BAD_LENGTH that a CODEC_JOB returns for its SRC_BYTES (R286): no rule states it. Log 26. -/
opaque srcBytesDetail : Nat → BitVec 16
/-- DETAIL of an IMPLAUSIBLE for which no rule states it, by opcode (R279, R535). Log 26. -/
opaque openDetail : Nat → BitVec 16
/-- The JTAG IDCODE (R530): no rule states it. Log 77. -/
opaque idcode : BitVec 32
/-- Collisions that a frame sent on the station bus meets, by SRC_BOOT and SEQ: no row reports one (R477, log 93). -/
opaque collisions : Nat → BitVec 8
/-- A PLCA beacon of another node has arrived in the 10 ms up to an instant: no row reports one (Table 15.5, log 93). -/
opaque beaconHeard : Nat → Bool

end Sys2Proof.Config
end

