-- ==== Sys2Proof/Machine/Crypto.lean ====
section
/-! DEFINITION. The ciphers, digests and signatures that the spec names: AES-256 with XTS (R318), CMAC (R479) and the key wrap of RFC 3394 (R318, R534), SHA-384 and ECDSA over P-384 (R499). -/

namespace Sys2Proof.Machine

/-! ### AES-256 -/

/-- Multiplication by x in GF(2^8). -/
def gfDouble (a : Byte) : Byte := (a <<< 1) ^^^ (if a.msb then 0x1B else 0)

/-- a × b in GF(2^8) over the low n bits of b, the least significant first. -/
def gfMul : Nat → Byte → Nat → Byte
  | 0, _, _ => 0
  | n + 1, a, b => (if b % 2 = 1 then a else 0) ^^^ gfMul n (gfDouble a) (b / 2)

/-- a² in GF(2^8). -/
def gfSquare (a : Byte) : Byte := gfMul 8 a a.toNat

/-- The inverse a^254 in GF(2^8), 0 for 0: the product of a^2, a^4 … a^128. -/
def gfInv (a : Byte) : Byte :=
  ((List.range 7).foldl (fun (acc : Byte × Byte) _ => let p := gfSquare acc.2; (gfMul 8 acc.1 p.toNat, p)) ((1 : Byte), a)).1

/-- SubBytes of one byte, and its inverse. -/
def aesSub (a : Byte) : Byte :=
  let b := gfInv a
  b ^^^ b.rotateLeft 1 ^^^ b.rotateLeft 2 ^^^ b.rotateLeft 3 ^^^ b.rotateLeft 4 ^^^ 0x63

def aesUnsub (a : Byte) : Byte := gfInv (a.rotateLeft 1 ^^^ a.rotateLeft 3 ^^^ a.rotateLeft 6 ^^^ 0x05)

/-- Bytewise exclusive or. -/
def xorBytes : List Byte → List Byte → List Byte
  | a :: r, b :: t => (a ^^^ b) :: xorBytes r t
  | _, _ => []

/-- The words of the AES-256 key schedule, newest first: n more after those given. -/
def aesExpand : Nat → Nat → Byte → List (List Byte) → List (List Byte)
  | 0, _, _, ws => ws
  | n + 1, i, rcon, ws =>
    let last := ws.headD []
    let t :=
      if i % 8 = 0 then (match (last.drop 1 ++ last.take 1).map aesSub with | a :: r => (a ^^^ rcon) :: r | [] => [])
      else if i % 8 = 4 then last.map aesSub else last
    aesExpand n (i + 1) (if i % 8 = 0 then gfDouble rcon else rcon) (xorBytes (ws.getD 7 []) t :: ws)

/-- A list cut into pieces of n bytes, at most f of them. -/
def chunks (n : Nat) : Nat → List Byte → List (List Byte)
  | 0, _ => []
  | _, [] => []
  | f + 1, b => b.take n :: chunks n f (b.drop n)

/-- The fifteen round keys of a 32-byte key. -/
def aesKeys (key : List Byte) : List (List Byte) :=
  let ws := (aesExpand 52 8 1 ((chunks 4 8 key).reverse)).reverse
  (List.range 15).map (fun r => ((ws.drop (4 * r)).take 4).flatten)

/-- ShiftRows takes byte r + 4c from column c + r; its inverse from column c − r. -/
def aesShift (b : List Byte) : List Byte := (List.range 16).map (fun i => b.getD ((i + 4 * (i % 4)) % 16) 0)

def aesUnshift (b : List Byte) : List Byte := (List.range 16).map (fun i => b.getD ((i + 12 * (i % 4)) % 16) 0)

/-- MixColumns with the coefficients of its first row. -/
def aesMixWith (cs : List Nat) (b : List Byte) : List Byte :=
  (List.range 16).map (fun i =>
    (List.range 4).foldl (fun acc j => acc ^^^ gfMul 8 (b.getD (i / 4 * 4 + (i + j) % 4) 0) (cs.getD j 0)) 0)

/-- One block under expanded keys. -/
def aesEncrypt (ks : List (List Byte)) (b : List Byte) : List Byte :=
  let mid := (List.range 13).foldl (fun st r => xorBytes (aesMixWith [2, 3, 1, 1] (aesShift (st.map aesSub))) (ks.getD (r + 1) [])) (xorBytes b (ks.getD 0 []))
  xorBytes (aesShift (mid.map aesSub)) (ks.getD 14 [])

def aesDecrypt (ks : List (List Byte)) (b : List Byte) : List Byte :=
  let mid := (List.range 13).foldl (fun st r => aesMixWith [14, 11, 13, 9] (xorBytes ((aesUnshift st).map aesUnsub) (ks.getD (13 - r) []))) (xorBytes b (ks.getD 14 []))
  xorBytes ((aesUnshift mid).map aesUnsub) (ks.getD 0 [])

/-! ### XTS (R318) -/

/-- α^n × the tweak: doubling in GF(2^128), the least significant byte first (IEEE Std 1619). -/
def xtsNext (t : List Byte) : List Byte :=
  let w := ofLe t
  leBytes 16 ((w * 2 % 2 ^ 128) ^^^ (if w.testBit 127 then 0x87 else 0))

/-- The blocks of one data unit whose length is a multiple of 16 bytes. -/
def xtsBlocks (cipher : List Byte → List Byte) : List (List Byte) → List Byte → List Byte
  | [], _ => []
  | b :: r, t => xorBytes (cipher (xorBytes b t)) t ++ xtsBlocks cipher r (xtsNext t)

/-- AES-256-XTS encryption of one data unit under the data key and the tweak key. -/
def xtsEncrypt (key1 key2 : List Byte) (tweak : Nat) (unit : List Byte) : List Byte :=
  xtsBlocks (aesEncrypt (aesKeys key1)) (chunks 16 (unit.length / 16) unit) (aesEncrypt (aesKeys key2) (leBytes 16 tweak))

def xtsDecrypt (key1 key2 : List Byte) (tweak : Nat) (unit : List Byte) : List Byte :=
  xtsBlocks (aesDecrypt (aesKeys key1)) (chunks 16 (unit.length / 16) unit) (aesEncrypt (aesKeys key2) (leBytes 16 tweak))

/-! ### CMAC (R479) -/

/-- Doubling in GF(2^128), the most significant byte first (NIST SP 800-38B). -/
def cmacDouble (b : List Byte) : List Byte :=
  let w := ofLe b.reverse
  (leBytes 16 ((w * 2 % 2 ^ 128) ^^^ (if w.testBit 127 then 0x87 else 0))).reverse

/-- AES-256 CMAC of a message. -/
def cmac (key msg : List Byte) : List Byte :=
  let ks := aesKeys key
  let k1 := cmacDouble (aesEncrypt ks (zeros 16))
  let n := Nat.max 1 ((msg.length + 15) / 16)
  let last := msg.drop (16 * (n - 1))
  let final := if last.length = 16 then xorBytes last k1 else xorBytes (last ++ [0x80] ++ zeros (15 - last.length)) (cmacDouble k1)
  (chunks 16 (n - 1) msg ++ [final]).foldl (fun c b => aesEncrypt ks (xorBytes c b)) (zeros 16)

/-! ### Key wrap (RFC 3394) -/

/-- The n bytes of w, most significant first. -/
def beBytes (n w : Nat) : List Byte := (leBytes n w).reverse

/-- The wrapping of whole 64-bit blocks under a 256-bit key. -/
def keyWrap (kek plain : List Byte) : List Byte :=
  let ks := aesKeys kek
  let n := plain.length / 8
  let step := fun (st : List Byte × List (List Byte)) (i : Nat) =>
    let b := aesEncrypt ks (st.1 ++ st.2.getD (i % n) [])
    (xorBytes (b.take 8) (beBytes 8 (i + 1)), st.2.set (i % n) (b.drop 8))
  let (a, rs) := (List.range (6 * n)).foldl step (List.replicate 8 0xA6, chunks 8 n plain)
  a ++ rs.flatten

/-- The unwrapping, none where the integrity check fails. -/
def keyUnwrap (kek wrapped : List Byte) : Option (List Byte) :=
  let ks := aesKeys kek
  let n := wrapped.length / 8 - 1
  let step := fun (st : List Byte × List (List Byte)) (j : Nat) =>
    let i := 6 * n - 1 - j
    let b := aesDecrypt ks (xorBytes st.1 (beBytes 8 (i + 1)) ++ st.2.getD (i % n) [])
    (b.take 8, st.2.set (i % n) (b.drop 8))
  let (a, rs) := (List.range (6 * n)).foldl step (wrapped.take 8, chunks 8 n (wrapped.drop 8))
  if a = List.replicate 8 0xA6 && wrapped.length % 8 == 0 && decide (2 ≤ n) then some rs.flatten else none

/-! ### SHA-384 -/

/-- The number that bytes spell, most significant first. -/
def ofBe (b : List Byte) : Nat := ofLe b.reverse

/-- The k-th root of n rounded down, searched bit by bit from bit b − 1 on top of what is found already. -/
def rootBits (k n : Nat) : Nat → Nat → Nat
  | 0, found => found
  | b + 1, found => rootBits k n b (if (found + 2 ^ b) ^ k ≤ n then found + 2 ^ b else found)

/-- The first 64 bits of the fractional part of the k-th root of n. -/
def rootFraction (k n : Nat) : Word64 := BitVec.ofNat 64 (rootBits k (n * 2 ^ (64 * k)) 72 0)

/-- The first 80 primes, those below 410. -/
def shaPrimes : List Nat :=
  (List.range 410).filter (fun n => decide (2 ≤ n) && (List.range 21).all (fun d => decide (d < 2) || decide (n ≤ d) || n % d != 0))

/-- The round constants come from the cube roots of the first 80 primes (FIPS 180-4). -/
def shaRoundWords : List Word64 := shaPrimes.map (rootFraction 3)

/-- The initial hash value of SHA-384 comes from the square roots of the ninth to the sixteenth prime (FIPS 180-4). -/
def shaStart : List Word64 := ((shaPrimes.drop 8).take 8).map (rootFraction 2)

/-- The message schedule, newest first: n more words. -/
def shaSchedule : Nat → List Word64 → List Word64
  | 0, w => w
  | n + 1, w =>
    let a := w.getD 14 0
    let b := w.getD 1 0
    let s0 := a.rotateRight 1 ^^^ a.rotateRight 8 ^^^ (a >>> 7)
    let s1 := b.rotateRight 19 ^^^ b.rotateRight 61 ^^^ (b >>> 6)
    shaSchedule n ((w.getD 15 0 + s0 + w.getD 6 0 + s1) :: w)

/-- One round on the eight working words. -/
def shaRound (v : List Word64) (k w : Word64) : List Word64 :=
  match v with
  | [a, b, c, d, e, f, g, h] =>
    let t1 := h + (e.rotateRight 14 ^^^ e.rotateRight 18 ^^^ e.rotateRight 41) + ((e &&& f) ^^^ (~~~e &&& g)) + k + w
    let t2 := (a.rotateRight 28 ^^^ a.rotateRight 34 ^^^ a.rotateRight 39) + ((a &&& b) ^^^ (a &&& c) ^^^ (b &&& c))
    [t1 + t2, a, b, c, d + t1, e, f, g]
  | _ => v

/-- One block of 128 bytes. -/
def shaBlock (h : List Word64) (b : List Byte) : List Word64 :=
  let w := (shaSchedule 64 (((chunks 8 16 b).map (fun x => BitVec.ofNat 64 (ofBe x))).reverse)).reverse
  let v := (shaRoundWords.zip w).foldl (fun v e => shaRound v e.1 e.2) h
  (h.zip v).map (fun e => e.1 + e.2)

/-- SHA-384 of bytes. -/
def sha384 (m : List Byte) : List Byte :=
  let pad := m ++ [0x80] ++ zeros ((239 - m.length % 128) % 128) ++ beBytes 16 (8 * m.length)
  let h := (chunks 128 (pad.length / 128) pad).foldl shaBlock shaStart
  (h.take 6).flatMap (fun w => beBytes 8 w.toNat)

/-! ### ECDSA over P-384 -/

def p384 : Nat := 2 ^ 384 - 2 ^ 128 - 2 ^ 96 + 2 ^ 32 - 1

/-- The order of the base point. -/
def p384n : Nat := 0xFFFFFFFFFFFFFFFFFFFFFFFFFFFFFFFFFFFFFFFFFFFFFFFFC7634D81F4372DDF581A0DB248B0A77AECEC196ACCC52973

def p384b : Nat := 0xB3312FA7E23EE7E4988E056BE3F82D19181D9C6EFE8141120314088F5013875AC656398D8A2ED19D2A85C8EDD3EC2AEF

def p384g : Nat × Nat :=
  (0xAA87CA22BE8B05378EB1C71EF320AD746E1D3B628BA79B9859F741E082542A385502F25DBF55296C3A545E3872760AB7,
   0x3617DE4A96262C6F5D9E98BF9292DC29F8F41DBD289A147CE9DA3113B5F0B8C00A60B1CE1D7E819D7A431D7C90EA0E5F)

/-- b^e modulo m over n bits of e. -/
def powMod (m : Nat) : Nat → Nat → Nat → Nat
  | 0, _, _ => 1 % m
  | n + 1, b, e => (if e % 2 = 1 then b else 1) * powMod m n (b * b % m) (e / 2) % m

/-- The inverse modulo a 384-bit prime. -/
def invMod (m a : Nat) : Nat := powMod m 384 (a % m) (m - 2)

/-- A point in Jacobian coordinates; Z = 0 is the point at infinity. -/
abbrev EcPoint := Nat × Nat × Nat

def ecDouble (q : EcPoint) : EcPoint :=
  let (x, y, z) := q
  if z = 0 || y = 0 then (1, 1, 0)
  else
    let s := 4 * x * y * y % p384
    let z2 := z * z % p384
    let m := 3 * (x + z2) % p384 * ((x + p384 - z2) % p384) % p384
    let x' := (m * m + 2 * p384 - 2 * s % p384 - 0) % p384
    let y2 := y * y % p384
    (x', (m * ((s + p384 - x') % p384) + p384 - 8 * y2 * y2 % p384) % p384, 2 * y * z % p384)

def ecAdd (a b : EcPoint) : EcPoint :=
  let (x1, y1, z1) := a
  let (x2, y2, z2) := b
  if z1 = 0 then b else if z2 = 0 then a
  else
    let u1 := x1 * (z2 * z2 % p384) % p384
    let u2 := x2 * (z1 * z1 % p384) % p384
    let s1 := y1 * (z2 * z2 % p384 * z2 % p384) % p384
    let s2 := y2 * (z1 * z1 % p384 * z1 % p384) % p384
    let h := (u2 + p384 - u1) % p384
    let r := (s2 + p384 - s1) % p384
    if h = 0 then (if r = 0 then ecDouble a else (1, 1, 0))
    else
      let h2 := h * h % p384
      let h3 := h2 * h % p384
      let v := u1 * h2 % p384
      let x := (r * r + 3 * p384 - h3 - 2 * v) % p384
      (x, (r * ((v + p384 - x) % p384) + p384 - s1 * h3 % p384) % p384, z1 * z2 % p384 * h % p384)

/-- k × q over n bits of k, the least significant first. -/
def ecMul : Nat → Nat → EcPoint → EcPoint
  | 0, _, _ => (1, 1, 0)
  | n + 1, k, q => let r := ecMul n (k / 2) (ecDouble q); if k % 2 = 1 then ecAdd q r else r

/-- A public key of 96 bytes, X then Y, most significant first, is a point of the curve. -/
def ecOnCurve (x y : Nat) : Bool := decide (x < p384) && decide (y < p384) && y * y % p384 == (x * x % p384 * x + p384 * 3 - 3 * x + p384b) % p384

/-- The signature r, s of 96 bytes over a 48-byte digest verifies under a public key (FIPS 186-4). -/
def ecdsaVerify (key digest sig : List Byte) : Bool :=
  let x := ofBe (slice key 0 48)
  let y := ofBe (slice key 48 48)
  let r := ofBe (slice sig 0 48)
  let s := ofBe (slice sig 48 48)
  if !ecOnCurve x y || r = 0 || s = 0 || p384n ≤ r || p384n ≤ s then false
  else
    let w := invMod p384n s
    let (gx, gy) := p384g
    let (px, _, pz) := ecAdd (ecMul 384 (ofBe digest * w % p384n) (gx, gy, 1)) (ecMul 384 (r * w % p384n) (x, y, 1))
    if pz = 0 then false
    else
      let zi := invMod p384 pz
      px * (zi * zi % p384) % p384 % p384n == r

end Sys2Proof.Machine
end

