-- ==== Sys2Proof/Machine/Float.lean ====
section
/-! DEFINITION. IEEE 754 binary32 arithmetic on bit patterns: each operation is exact and rounds once, to nearest with ties to even, with subnormals and without fused multiply-add (R170, R421, R464). -/

namespace Sys2Proof.Machine

/-- A binary32 pattern. -/
abbrev F32 := Nat

/-- A finite pattern as m × 2^e. Infinities and NaNs never reach the arithmetic: every loader substitutes them (R167, R464). -/
def f32Parts (b : F32) : Int × Int :=
  let ex := bits b 23 8
  let fr := bits b 0 23
  let m : Nat := if ex = 0 then fr else fr + 2 ^ 23
  let e : Int := if ex = 0 then -149 else (ex : Int) - 150
  (if bit b 31 then -(m : Int) else (m : Int), e)

def f32Neg (b : F32) : Bool := bit b 31

def f32IsNaN (b : F32) : Bool := bits b 23 8 == 255 && bits b 0 23 != 0

def f32IsInf (b : F32) : Bool := bits b 23 8 == 255 && bits b 0 23 == 0

/-- n ÷ 2^k to nearest, ties to even. -/
def rneShift (n k : Nat) : Nat :=
  let q := n >>> k
  let r := n % 2 ^ k
  if 2 * r < 2 ^ k then q else if 2 ^ k < 2 * r then q + 1 else if q % 2 = 0 then q else q + 1

/-- The binary32 pattern nearest to m × 2^e; neg gives the sign of a zero. -/
def f32Round (neg : Bool) (m e : Int) : F32 :=
  let mag := m.natAbs
  let s : Nat := if m < 0 then 2 ^ 31 else if m = 0 && neg then 2 ^ 31 else 0
  if mag = 0 then s
  else
    let top : Int := e + (Nat.log2 mag : Int)
    let qe : Int := if top < -126 then -149 else top - 23
    let d : Int := e - qe
    let mant := if 0 ≤ d then mag <<< d.toNat else rneShift mag (-d).toNat
    let body : Nat := if top < -126 then mant else ((top + 126).toNat) * 2 ^ 23 + mant
    s + (if 0x7F800000 ≤ body then 0x7F800000 else body)

def f32Add (a b : F32) : F32 :=
  let (ma, ea) := f32Parts a
  let (mb, eb) := f32Parts b
  let e := if ea ≤ eb then ea else eb
  let m := ma * ((2 ^ (ea - e).toNat : Nat) : Int) + mb * ((2 ^ (eb - e).toNat : Nat) : Int)
  f32Round (f32Neg a && f32Neg b) m e

def f32Flip (b : F32) : F32 := if bit b 31 then b - 2 ^ 31 else b + 2 ^ 31

def f32Sub (a b : F32) : F32 := f32Add a (f32Flip b)

def f32Mul (a b : F32) : F32 :=
  let (ma, ea) := f32Parts a
  let (mb, eb) := f32Parts b
  f32Round (f32Neg a != f32Neg b) (ma * mb) (ea + eb)

/-- m × 2^e ÷ (n × 2^f) for n ≠ 0: the quotient to 2^−64 of its own size with a sticky bit, rounded once. -/
def f32Div (a b : F32) : F32 :=
  let (ma, ea) := f32Parts a
  let (mb, eb) := f32Parts b
  let neg := f32Neg a != f32Neg b
  if mb = 0 then (if neg then 2 ^ 31 else 0) + 0x7F800000
  else
    let n := ma.natAbs * 2 ^ 64
    let q := n / mb.natAbs
    let q2 := 2 * q + (if n % mb.natAbs = 0 then 0 else 1)
    f32Round neg (if neg then -(q2 : Int) else (q2 : Int)) (ea - eb - 65)

/-- Square root of a non-negative pattern, rounded once. -/
def f32Sqrt (a : F32) : F32 :=
  let (m, e) := f32Parts a
  if m ≤ 0 then a
  else
    let odd := e % 2 ≠ 0
    let mm := (if odd then 2 * m.natAbs else m.natAbs) * 2 ^ 80
    let ee : Int := (if odd then e - 1 else e) - 80
    let r := isqrt mm
    let r2 := 2 * r + (if r * r = mm then 0 else 1)
    f32Round false (r2 : Int) (ee / 2 - 1)

/-- The pattern nearest to a fixed-point integer with f fraction bits. -/
def f32OfFix (i : Int) (f : Nat) : F32 := f32Round false i (-(f : Int))

def f32OfInt (i : Int) : F32 := f32OfFix i 0

/-- A pattern times 2^f to the nearest integer, ties toward plus infinity. -/
def f32ToFix (b : F32) (f : Nat) : Int :=
  let (m, e) := f32Parts b
  let k := e + (f : Int)
  if 0 ≤ k then m * ((2 ^ k.toNat : Nat) : Int) else sarRound m (-k).toNat

/-- The same with ties to even. -/
def f32ToFixEven (b : F32) (f : Nat) : Int :=
  let (m, e) := f32Parts b
  let k := e + (f : Int)
  if 0 ≤ k then m * ((2 ^ k.toNat : Nat) : Int) else roundEvenDiv m ((2 ^ (-k).toNat : Nat) : Int)

/-- The three substitutions of R167 with bound B, a pattern of a positive finite number. -/
def f32Clean (bound : F32) (b : F32) : F32 :=
  let mag := bits b 0 31
  if f32IsNaN b then 0
  else if bound < mag then bound + (if bit b 31 then 2 ^ 31 else 0)
  else b

/-- 65 536.0 and 25.0. -/
def f65536 : F32 := 0x47800000
def f25 : F32 := 0x41C80000

/-- n ÷ d to 2^−64 of its own size with a sticky bit, as m × 2^e. -/
def ratParts (n : Int) (d : Nat) : Int × Int :=
  let k := 64 + Nat.log2 d
  let q := n.natAbs * 2 ^ k / d
  let q2 := 2 * q + (if n.natAbs * 2 ^ k % d = 0 then 0 else 1)
  (if n < 0 then -(q2 : Int) else (q2 : Int), -(k : Int) - 1)

/-- The binary32 pattern nearest to n ÷ d, d > 0. -/
def f32OfRat (n : Int) (d : Nat) : F32 := let (m, e) := ratParts n d; f32Round (decide (n < 0)) m e

/-- m × 2^e rounded to binary64's 53 bits, ties to even, as m' × 2^e'. No value of these rules leaves its exponent range. -/
def f64Round (m e : Int) : Int × Int :=
  let mag := m.natAbs
  let top := Nat.log2 mag
  if top < 53 then (m, e)
  else
    let r := rneShift mag (top - 52)
    (if m < 0 then -(r : Int) else (r : Int), e + ((top - 52 : Nat) : Int))

/-- A binary64 value as m × 2^e with its three operations, each rounded once (R230, R232, R248, R466). -/
abbrev F64 := Int × Int

def f64OfInt (i : Int) : F64 := f64Round i 0

def f64OfF32 (b : F32) : F64 := f32Parts b

def f64Add (a b : F64) : F64 :=
  let e := if a.2 ≤ b.2 then a.2 else b.2
  f64Round (a.1 * ((2 ^ (a.2 - e).toNat : Nat) : Int) + b.1 * ((2 ^ (b.2 - e).toNat : Nat) : Int)) e

def f64Neg (a : F64) : F64 := (-a.1, a.2)

def f64Sub (a b : F64) : F64 := f64Add a (f64Neg b)

def f64Mul (a b : F64) : F64 := f64Round (a.1 * b.1) (a.2 + b.2)

/-- a ÷ b for b ≠ 0. -/
def f64Div (a b : F64) : F64 :=
  let (m, e) := ratParts (if b.1 < 0 then -a.1 else a.1) b.1.natAbs
  f64Round m (e + a.2 - b.2)

/-- √a for a ≥ 0. -/
def f64Sqrt (a : F64) : F64 :=
  let odd := a.2 % 2 ≠ 0
  let mm := (if odd then 2 * a.1.natAbs else a.1.natAbs) * 2 ^ 128
  let ee : Int := (if odd then a.2 - 1 else a.2) - 128
  let r := isqrt mm
  f64Round ((2 * r + (if r * r = mm then 0 else 1) : Nat) : Int) (ee / 2 - 1)

def f64Lt (a b : F64) : Bool :=
  let e := if a.2 ≤ b.2 then a.2 else b.2
  decide (a.1 * ((2 ^ (a.2 - e).toNat : Nat) : Int) < b.1 * ((2 ^ (b.2 - e).toNat : Nat) : Int))

/-- a × 2^f to the nearest integer, ties toward plus infinity. -/
def f64ToFix (a : F64) (f : Nat) : Int :=
  let k := a.2 + (f : Int)
  if 0 ≤ k then a.1 * ((2 ^ k.toNat : Nat) : Int) else sarRound a.1 (-k).toNat

def f32OfF64 (a : F64) : F32 := f32Round (decide (a.1 < 0)) a.1 a.2

/-! ### With infinities and NaNs (R464, R466) -/

def f32NaN : F32 := 0x7FC00000

def f32Special (b : F32) : Bool := bits b 23 8 == 255

/-- Addition of any two patterns. -/
def ieeeAdd (a b : F32) : F32 :=
  if f32IsNaN a || f32IsNaN b then f32NaN
  else if f32IsInf a then (if f32IsInf b && f32Neg a != f32Neg b then f32NaN else a)
  else if f32IsInf b then b
  else f32Add a b

def ieeeSub (a b : F32) : F32 := ieeeAdd a (f32Flip b)

/-- Multiplication of any two patterns. -/
def ieeeMul (a b : F32) : F32 :=
  if f32IsNaN a || f32IsNaN b then f32NaN
  else if f32IsInf a || f32IsInf b then
    (if bits a 0 31 = 0 || bits b 0 31 = 0 then f32NaN else (if f32Neg a != f32Neg b then 2 ^ 31 else 0) + 0x7F800000)
  else f32Mul a b

end Sys2Proof.Machine
end

