-- ==== Sys2Proof/Machine/StCal.lean ====
section
/-! DEFINITION. The state of calibration: limits, results, runs and the grade (chapter 7). -/

namespace Sys2Proof.Machine

/-- CAL_LIMITS as raw integers of Table 11.3's formats (Table 7.3). -/
structure CalLimits where
  gainMin : Nat := 2097152
  gainMax : Nat := 12582912
  offMin  : Int := -512
  offMax  : Int := 2048
  step    : Nat := 50000
  noise   : Nat := 20000
  outMax  : Nat := 16
  trimMin : Nat := 16384
  trimMax : Nat := 49152
  auxOff  : Nat := 1000
  auxGain : Nat := 5000
  auxNoise01 : Nat := 20
  auxNoise2  : Nat := 200
deriving DecidableEq, Repr

/-- The common status of a kind (Table 7.7), and the range, side and slot of its last refusal. -/
structure CalKind where
  count  : Nat := 0
  tLast  : Nat := 0
  unsync : Bool := false
  status : Nat := 0
  checks : Nat := 0
  failRange : Nat := 255
  side   : Nat := 0
  slot   : Nat := 0
deriving DecidableEq, Repr

/-- Sums of one tile-plane over one pass (R229): present tile-plane-lines, Σa and Σa² by column. -/
structure CalAcc where
  n  : Nat := 0
  s  : List Int := []
  s2 : List Nat := []
deriving DecidableEq, Repr

/-- CAL_RUN parameters of SHADING as applied (Table 7.2). -/
structure ShadeParams where
  runStart : Int := 0
  darkStart : Int := 0
  darkEnd : Int := 0
  whiteStart : Int := 0
  whiteEnd : Int := 0
  clearPos : Int := 0
  parkPos : Int := 0
  speed  : Nat := 51200
  nDark  : Nat := 1024
  nWhite : Nat := 1024
  settle : Nat := 2
  planes : Nat := 15
  steps  : Nat := 4
  autoApply : Nat := 0
deriving DecidableEq, Repr

/-- CAL_RUN parameters of LAMP as applied (R246). -/
structure LampParams where
  runStart : Int := 0
  whiteStart : Int := 0
  whiteEnd : Int := 0
  speed  : Nat := 51200
  probe  : Nat := 16384
  lines  : Nat := 128
  settle : Nat := 2
  autoApply : Nat := 0
  /-- Strings to measure, increasing. -/
  strings : List Nat := []
deriving DecidableEq, Repr

/-- What a run measures now. -/
inductive CalPhase where
  /-- The shuttle moves to RUN_START. -/
  | approach
  /-- The session is armed: the Datum is awaited. -/
  | armed
  /-- The sweep: dark pass, white pass, strip pass, or a series of lamp measurements. -/
  | sweep
  /-- The shuttle has parked; the result is being computed. -/
  | compute
deriving DecidableEq, Repr

/-- The basis of a run (R227, R243): generation, exposure, TCO by record index, polynomial sets. -/
structure CalBasis where
  gen   : Nat := 0
  expo  : Nat := 0
  tcos  : List (Nat × Nat) := []
  polys : List (Nat × List Nat) := []
deriving DecidableEq, Repr

/-- One lamp measurement (R247): a string, or 512 for the dark one. -/
structure LampMeas where
  string : Nat
  n      : Nat := 0
  /-- Σa by port × 4 + slot, with the present lines of each. -/
  accs   : Tbl CalAcc := []
  derated : Bool := false
deriving DecidableEq, Repr

/-- A shading or lamp run in progress. kind 0 or 1. -/
structure CalRun where
  kind   : Nat
  shade  : ShadeParams := {}
  lamp   : LampParams := {}
  phase  : CalPhase := .approach
  limits : CalLimits := {}
  basis  : Option CalBasis := none
  /-- Ports that take part: enabled and not retired when the run was accepted, nor since (R259). -/
  ports  : Nat := 0
  /-- Corrected position when the session was armed at RUN_START (log 109). -/
  xStart : Int := 0
  /-- Instant of the last change of lamp level. -/
  tLevel : Nat := 0
  /-- Instant at which the strings went to 0 for the dark pass (R227 steps 1 and 3). -/
  tDark  : Nat := 0
  /-- The strings have been returned to their live targets (R227 step 4). -/
  white  : Bool := false
  dark   : Tbl CalAcc := []
  whiteA : Tbl CalAcc := []
  strip  : Tbl CalAcc := []
  /-- Lines accumulated in each pass. -/
  nDark  : Nat := 0
  nWhite : Nat := 0
  nStrip : Nat := 0
  /-- By port: sum of the white pass's temperatures Q16.16 and their count. -/
  temps  : Tbl (Int × Nat) := []
  /-- Lamp measurements done in this run, the present one, and the strings still to come; each sweep repeats the dark one. -/
  dones  : List (LampMeas × LampMeas) := []
  meas   : Option LampMeas := none
  sweepDark : Option LampMeas := none
  todo   : List Nat := []
  /-- Strings to measure once more because they were derated (R249). -/
  again  : List Nat := []
  second : Bool := false
  skipped : List Nat := []
deriving DecidableEq, Repr

/-- A pending shading result (R233): new records by index, strip values by side × 4 + slot, and what CAL_STATUS lists. -/
structure ShadeResult where
  records : List (Nat × Nat)
  strips  : List Int
  basis   : CalBasis
  planes  : Nat
  steps   : Nat
deriving DecidableEq, Repr

/-- A grade in progress (R244): the result, V_0 of each record, its steps, the last step placed and the last step live. -/
structure Grade where
  result : ShadeResult
  v0     : List (Nat × Nat)
  steps  : Nat
  placed : Nat
  live   : Nat
  /-- The next step placed is the final one (R242 FINISH). -/
  finish : Bool
deriving DecidableEq, Repr

/-- Calibration (chapter 7). -/
structure CalSt where
  limits : CalLimits := {}
  kinds  : List CalKind := List.replicate 6 {}
  liveCount : Nat := 0
  run    : Option CalRun := none
  pendShade : Option ShadeResult := none
  /-- The pending lamp result: trims by string. -/
  pendLamp : Option (List (Nat × Nat)) := none
  grade  : Option Grade := none
  /-- The SHADING part of CAL_STATUS: applied parameters, failing tile-plane, its out-of-limit columns, the list, and the ports skipped. -/
  shadeParams : ShadeParams := {}
  failPort : Nat := 255
  failSlot : Nat := 255
  failOut  : Nat := 0
  outList  : List (Nat × Nat × Nat) := []
  skipped  : Nat := 0
  /-- The LAMP part: failing string and the skipped strings. -/
  failString : Nat := 0xFFFF
  lampSkipped : List Nat := []
  /-- Rejected running-white blocks: the last result was a rejection; the instant plus 1 of its last event (R251). -/
  rwRejecting : Bool := false
  rwPosted : Nat := 0
deriving DecidableEq, Repr

end Sys2Proof.Machine
end

