-- ==== Sys2Proof/Machine/StAux.lean ====
section
/-! DEFINITION. The state of auxiliary sensing: result channels, converters, excitation and charge amplifiers (chapter 14). -/

namespace Sys2Proof.Machine

/-- AUX_CFG of one channel (Table 11.9, R450). -/
structure AuxCfg where
  enable : Nat := 0
  conv   : Nat := 0
  source : Nat := 0
  gain   : Nat := 0
  filter : Nat := 0
  notch  : Nat := 0
  excite : Nat := 0
  /-- mS/s. -/
  rate   : Nat := 1000000
  iex    : Nat := 0
  pinA   : Nat := 0
  pinB   : Nat := 0
  burnout : Nat := 0
  caRange : Nat := 0
  shared : Nat := 0
  every  : Nat := 64
  limit  : Nat := 500
deriving DecidableEq, Repr

/-- The trim of a channel (R466): zero point, its value, gain, as binary32 patterns. -/
structure AuxTrim where
  y0 : F32 := 0
  v0 : F32 := 0
  g  : F32 := 0x3F800000
deriving DecidableEq, Repr

/-- An AUX_CAL in progress (R466). -/
structure AuxCal where
  /-- 0 ZERO, 1 SPAN. -/
  point    : Nat
  value    : Int
  samples  : Nat
  /-- Polynomial outputs of the consecutive good conversions so far, newest first. -/
  ys       : List F32
  deadline : Nat
deriving DecidableEq, Repr

/-- One result channel (R448, Table 14.3). -/
structure AuxCh where
  cfg    : AuxCfg := {}
  tempCh : Nat := 255
  /-- The fifteen coefficients in word order, none for the source's default (R465). -/
  poly   : Option (List F32) := none
  /-- The trim in use, the trim it ramps to, the trim it ramps from, and the ramp's last conversion; 64 is no ramp. -/
  trim   : AuxTrim := {}
  trimTo : AuxTrim := {}
  trimFrom : AuxTrim := {}
  trimJ  : Nat := 64
  /-- Converter coefficients used last: O in 1/16 code and K in Q2.30, those the ramp left from, and the ramp's last conversion (R255). -/
  coefO  : Int := 0
  coefK  : Int := 1073741824
  fromO  : Int := 0
  fromK  : Int := 1073741824
  rampJ  : Nat := 64
  ovr    : Bool := false
  open'  : Bool := false
  suspect : Bool := false
  stale  : Bool := true
  rangeStep : Bool := false
  valid  : Bool := false
  rseq   : Nat := 0
  /-- Q16.16. -/
  value  : Int := 0
  /-- End of the result's conversion. -/
  tEnd   : Option Nat := none
  /-- AUXn_VALUE (R468). -/
  latch  : Int := 0
  /-- The most recent good result (R467). -/
  good   : Option Int := none
  /-- Consecutive conversions clamped at +FS under BURNOUT (R456). -/
  openRun : Nat := 0
  openSince : Nat := 0
  staleSince : Nat := 0
  /-- Flags that raised an event, coded as STATUS (R470). -/
  raised : Nat := 0
  /-- Results of conversions started earlier are discarded (R253, R473). -/
  keepFrom : Nat := 0
  /-- The next conversion carries RANGE_STEP, or OVR, after a reset of its amplifier (R471, R472). -/
  stepNext : Bool := false
  ovrNext : Bool := false
  /-- On AD2: the instant from which a channel that has not converted is due, and the end of its last conversion plus 1 (R459). -/
  due    : Nat := 0
  convAt : Nat := 0
  cal    : Option AuxCal := none
deriving DecidableEq, Repr

/-- Coefficients of one range (R252). -/
structure RangeCoef where
  o : Int := 0
  k : Int := 1073741824
deriving DecidableEq, Repr

/-- A ramp of coefficients (R255): where it left from, its last conversion, 64 for none, and what that conversion used. -/
structure CoefRamp where
  fromO  : Int := 0
  fromK  : Int := 1073741824
  j      : Nat := 64
  o      : Int := 0
  k      : Int := 1073741824
deriving DecidableEq, Repr

/-- What a multiplexer of AD0 or AD1 carries (R453, R455, R456): source, gain code, reference, current source and its pins, burn-out. -/
structure MuxSet where
  source : Nat := 0
  gain   : Nat := 0
  ref    : Nat := 0
  iex    : Nat := 0
  pinA   : Nat := 0
  pinB   : Nat := 0
  burnout : Nat := 0
deriving DecidableEq, Repr

/-- One converter (R252 to R256, R453). -/
structure Converter where
  /-- By range index gain × 3 + reference (0 internal, 1 VEXS0, 2 VEXS1). -/
  coefs   : Tbl RangeCoef := []
  /-- The self-calibration in progress: its ranges; and one that waits for another to end. -/
  running : Option (List Nat) := none
  waiting : Bool := false
  /-- The limits that the run in progress keeps (R235). -/
  limits  : CalLimits := {}
  lastRun : Nat := 0
  /-- Sum of the eight die temperatures at the last run, Q16.16 °C. -/
  lastTemp : Int := 0
  /-- s, °C. -/
  autoPeriod : Nat := 600
  autoDt  : Nat := 10
  refusals : Nat := 0
  retired : Bool := false
  suspectSince : Nat := 0
  /-- End of the last conversion. -/
  lastConv : Nat := 0
  /-- The visit in progress: a channel number in FIXED_PAIRS, a slot index in SEQUENCE; the instant its multiplexer switched; whether it has converted in this visit; whether the conversion before ended with OVR. -/
  visit   : Option Nat := none
  tMux    : Nat := 0
  converted : Bool := false
  lastOvr : Bool := false
  /-- What the multiplexer carries, and what it carried before its last switch. -/
  mux     : MuxSet := {}
  muxWas  : MuxSet := {}
  /-- A disabled channel whose conversion in progress has yet to end, and the instant at which it does (R73). -/
  ending  : Option (Nat × Nat) := none
  /-- The coefficients before the last accepted result (R255). -/
  prev    : Tbl RangeCoef := []
deriving DecidableEq, Repr

/-- One charge amplifier (R457, R471, R472). -/
structure Amp where
  range  : Nat := 0
  /-- x of the last conversion, and x of the charge held at the last range change. -/
  xLast  : F32 := 0
  xHeld  : F32 := 0
  /-- End of the reset that held it; the term lasts until it is dropped. -/
  tReset : Nat := 0
  held   : Bool := false
  /-- A change of CA_RANGE not yet done: the range and the instant of the AUX_CFG. -/
  pend   : Option (Nat × Nat) := none
deriving DecidableEq, Repr

/-- AUX_SEQ (Table 11.9): mode, slots in use, channel and settling delay of each slot. -/
structure AuxSeq where
  mode  : Nat := 0
  slots : Nat := 1
  entries : List (Nat × Nat) := List.replicate 16 (0, 0)
deriving DecidableEq, Repr

/-- Auxiliary sensing (chapter 14). -/
structure AuxSt where
  chs   : List AuxCh := List.replicate 16 {}
  convs : List Converter := [{}, {}, {}]
  amps  : List Amp := [{}, {}, {}, {}]
  seq   : AuxSeq := {}
  /-- VEX0 and VEX1 have switched off at their current limit (R454). -/
  overload : List Bool := [false, false]
  /-- Cross-check (R461, R462): conversions of the shared channel since the last check, the run of deviations, the run of agreements, and SUSPECT. -/
  since  : Nat := 0
  deviations : Nat := 0
  agreements : Nat := 0
  suspect : Bool := false
  /-- The ramp of the shared channel on its secondary converter (R255, R461). -/
  second : CoefRamp := {}
  /-- Last result of VDD_CORE, VDD_IO18 and AVDD in volts, Q16.16. -/
  rails  : List Int := [0, 0, 0]
  /-- The levels that VEX0 and VEX1 carry, and the instants plus 1 at which they took them (R450, R454, R473). -/
  vex    : List Nat := [0, 0]
  vexAt  : List Nat := [0, 0]
  /-- The converter whose conversion in progress is the primary's of a cross-check; the other one converts the shared channel with it (R461). -/
  joint  : Option Nat := none
  /-- AUX_CFG requests that wait for the conversion of their channel to end: key src × 2^32 + seq, channel, configuration (R73). -/
  reopens : List (Nat × Nat × AuxCfg) := []
  /-- The slot of AD2 that ended last, plus 1; instants plus 1 of the last conversion of each axis supply, and of each die temperature and rail (R459). -/
  slotAt : Nat := 0
  supplyAt : List Nat := [0, 0, 0, 0]
  houseAt : List Nat := List.replicate 11 0
deriving DecidableEq, Repr

end Sys2Proof.Machine
end

