-- ==== Sys2Proof/Machine/StHost.lean ====
section
/-! DEFINITION. The state of the host side: modes and pins, the PCIe function, mailboxes, event queue, faults, secrets and memory errors (chapters 2, 10, 16). -/

namespace Sys2Proof.Machine

/-- The twelve operating modes (R39, Table 2.1). -/
inductive Mode where
  | reset | boot | recovery | standby | ready | bench | inline | proof | replay | service | hold | activate
deriving DecidableEq, Repr

/-- The 4-bit code of a mode (Table 2.1). -/
def Mode.code : Mode → Nat
  | .reset => 0 | .boot => 1 | .recovery => 2 | .standby => 3 | .ready => 4 | .bench => 5
  | .inline => 6 | .proof => 7 | .replay => 8 | .service => 9 | .hold => 10 | .activate => 11

/-- The mode a code names. -/
def Mode.ofCode : Nat → Option Mode
  | 0 => some .reset | 1 => some .boot | 2 => some .recovery | 3 => some .standby | 4 => some .ready | 5 => some .bench
  | 6 => some .inline | 7 => some .proof | 8 => some .replay | 9 => some .service | 10 => some .hold | 11 => some .activate
  | _ => none

/-- The superblock of a drive (R317): SPOOL_ID, the drive's position, the serial numbers of every drive of the spool, the epoch table, the wrapped keys and the CRC-32C of its bytes, whose layout no rule states (log 86). -/
structure Superblock where
  spoolId  : Nat := 0
  position : Nat := 0
  serials  : List Nat := []
  epochs   : List SpoolEpoch := []
  keys     : List Byte := []
  crc      : Nat := 0
deriving DecidableEq, Repr

/-- Where a thing that the device sends is logged: the model's own record of its outputs, newest first (log 3). -/
inductive Out where
  /-- A posted write to host memory (R330). -/
  | hostWrite (addr : Nat) (bytes : List Byte)
  /-- An MSI-X vector is signalled (R352). -/
  | msix (vector : Nat)
  /-- The data that a read of BAR0, BAR2 or configuration space returns. -/
  | readData (addr : Nat) (bytes : List Byte)
  /-- An edge on SPn_SYNC (R121). -/
  | sync (port : Nat) (level : Bool)
  /-- A frame on SPn_CTL (R123, R137): the level of each half of its Manchester cells (R136). -/
  | ctl (port : Nat) (levels : List Bool)
  /-- SPGg_REFCLK of a port group starts or stops (R143). -/
  | refclk (group : Nat) (on : Bool)
  /-- A frame on LB_DAT: its levels, one each 40 ns (R382); slice 64 is a broadcast. -/
  | lamp (slice : Nat) (levels : List Bool)
  /-- A pulse on LB_SYNC (R391, R401): kind 0 LINE, 1 LINE_SWAP, 2+k DIAG_k, and its width in LB_CLK periods (Table 12.8). -/
  | pulse (kind width : Nat)
  /-- MOTn_EN takes a level while the bridge inputs go low (Table 13.2). -/
  | bridge (axis : Nat) (en : Bool)
  /-- A pulse on a bridge input, 0 AP, 1 AN, 2 BP, 3 BN: the instant of its centre, and its width in 1 ÷ 4095 of the period of the PWM_KHZ given (R422). -/
  | pwm (axis input centre width kHz : Nat)
  /-- VEXn takes the level of an EXCITE code, 0 for off (R454). -/
  | vex (source level : Nat)
  /-- The multiplexer of AD0 or AD1 switches to a source, with gain code, reference, current source and its pins, and burn-out code (R453, R455, R456). -/
  | mux (conv source gain ref iex pinA pinB burnout : Nat)
  /-- The reset switch of a charge amplifier closes for 1 µs and leaves the amplifier in a range (R457). -/
  | ampReset (input range : Nat)
  /-- A frame put on the station bus: its destination, TYPE and SEQ, and its bytes from the destination address to the end of TAG and its padding (R475, R478). -/
  | station (mac : Nat) (kind : Nat) (seq : Nat) (frame : List Byte)
  /-- An 802.1AS peer-delay request of a gPTP domain, from the station MAC address (R490). -/
  | peerDelayReq (src domain : Nat)
  /-- From here on the PLCA coordinator sends a beacon every cycle of so many transmit opportunities; 0: it sends none (R477). -/
  | beacons (opportunities : Nat)
  /-- A command to the NVMe drive of a link (R314): queue 0 is the admin queue, 1 to 4 the I/O queues; opcode, first block and blocks of 4096 bytes, and the bytes written. -/
  | nvme (drive queue opcode lba blocks : Nat) (bytes : List Byte)
  /-- Both copies of a drive's superblock, written with Flush (R317). -/
  | superblock (drive : Nat) (block : Superblock)
  /-- Bytes programmed into the boot flash at an address (Table 15.9). -/
  | flash (addr : Nat) (bytes : List Byte)
  /-- Data shifted out of the JTAG port (R530, R533). -/
  | jtag (bytes : List Byte)
deriving DecidableEq, Repr

/-- A MODE_SET in progress (R45, R49): its target and the command that asked. -/
structure ModeReq where
  target : Mode := .standby
  src    : Nat := 0
  seq    : Nat := 0
deriving DecidableEq, Repr

/-- Modes, pins and boot (chapter 2). -/
structure SysSt where
  /-- R39. RESET right after reset. -/
  mode      : Mode := .reset
  /-- MODE_GET PREV (R362). -/
  prev      : Mode := .reset
  /-- CAUSE of Table 11.15. -/
  cause     : Nat := 0
  /-- FAULT of MODE_GET. -/
  fault     : Nat := 0
  /-- T_ENTER of MODE_GET, station time. -/
  tEnter    : Nat := 0
  /-- The MODE_SET in progress. -/
  pend      : Option ModeReq := none
  /-- The ball levels: POR_N, SYS_RST_N, PERST_N. -/
  porN      : Bool := false
  sysRstN   : Bool := true
  perstN    : Bool := false
  /-- XTAL_25 stopped, brown-out and thermal holds of RESET (R548, R549, R522). -/
  xtalStop  : Bool := false
  brownOut  : Bool := false
  thermal   : Bool := false
  /-- Mailbox service running (R53). -/
  service   : Bool := false
  /-- Configuration space answers (R51). -/
  cfgReady  : Bool := false
  /-- The instant the PERST_N rows of Table 2.4 count from: PERST_N rose, or RESET ended with it high (R332). -/
  tPerst    : Nat := 0
  /-- The last DEV_RESET asked for RECOVERY (R52). -/
  toRecovery : Bool := false
  /-- The reset that is in force ends ACTIVATE (R332). -/
  afterActivate : Bool := false
  /-- CAUSE that the next mode after BOOT reports (Table 11.15). -/
  bootCause : Nat := 3
  /-- Instant of the first entry to STANDBY after BOOT (R143). -/
  tStandby  : Option Nat := none
  /-- The plane assignment of R8 is a port setting (R119). This is the instant POR_N rose (R72). -/
  tPor      : Nat := 0
  /-- The orderly stop of R47 in progress: the instant its last lead-row ticket stopped. -/
  stopping  : Option Nat := none
  /-- The 1 s of R47 has passed. -/
  stopLate  : Bool := false
  /-- READY or STANDBY has been entered in this step (R508, R513). -/
  entered   : Bool := false
deriving DecidableEq, Repr

/-- A request as a mailbox latches it (R338, R340). -/
structure Latched where
  opcode : Nat := 0
  flags  : Nat := 0
  length : Nat := 0
  params : List Byte := []
deriving DecidableEq, Repr

/-- The states of Table 10.9. -/
inductive MbState where
  | idle | queued | busy | done
deriving DecidableEq, Repr

def MbState.code : MbState → Nat
  | .idle => 0 | .queued => 1 | .busy => 2 | .done => 3

/-- One mailbox (R338 to R341). -/
structure Mailbox where
  /-- MBn_REQ, bytes not listed are 0. -/
  req     : Tbl Byte := []
  /-- MBn_RSP, bytes beyond the list are 0. -/
  rsp     : List Byte := []
  state   : MbState := .idle
  rspIrq  : Bool := false
  overrun : Bool := false
  lost    : Bool := false
  seq     : Nat := 0
  token   : Nat := 0
  /-- Instant of the last doorbell (R492). -/
  rung    : Nat := 0
  latched : Latched := {}
  /-- The HBM stack as it stood at that doorbell (R337). -/
  area    : List Host.Cell := []
  /-- STATUS, DETAIL and data of a request that has had its effect and whose response waits for the PENDING frames it causes (R397). -/
  answer  : Option (Nat × Nat × List Byte) := none
deriving DecidableEq, Repr

/-- A command accepted and not yet completed (R341). src 4 is the station master; res is the resource index that R377 orders by. -/
structure Pend where
  src    : Nat
  seq    : Nat
  token  : Nat
  opcode : Nat
  res    : Nat
deriving DecidableEq, Repr

/-- A posted event waiting in the hold (R350). -/
structure Event where
  type    : Nat
  source  : Nat
  eseq    : Nat
  time    : Nat
  unsync  : Bool
  payload : List Byte
deriving DecidableEq, Repr

/-- The event queue (R348 to R353, Table 10.14). -/
structure Evq where
  base     : Nat := 0
  log2     : Nat := 6
  enable   : Bool := false
  armed    : Bool := false
  vector   : Nat := 0
  coalesce : Nat := 0
  head     : Nat := 0
  tail     : Nat := 0
  lost     : Nat := 0
  eseq     : Nat := 0
  /-- Waiting events, oldest first. -/
  hold     : List Event := []
  /-- The next entry written carries LOST_BEFORE. -/
  lostFlag : Bool := false
  /-- ENABLE has been set since RESET. -/
  everOn   : Bool := false
  /-- Instants at which coalesced signals are due, oldest first. -/
  due      : List Nat := []
  /-- Last post of a rate-limited event: keyed by type × 2^24 + source × 2^8 + kind, the instant plus 1 (R379). -/
  limited  : Tbl Nat := []
deriving DecidableEq, Repr

/-- One MSI-X table entry (R352): address, data, mask bit. Masked after reset (log 20). -/
structure MsixEntry where
  addr : Nat := 0
  data : Nat := 0
  ctrl : Nat := 1
deriving DecidableEq, Repr

/-- The PCIe function, its registers and the mailboxes (chapter 10). -/
structure HostSt where
  /-- LINK_INFO.RATE code and WIDTH (Table 10.5). -/
  rate      : Nat := 0
  width     : Nat := 0
  /-- The idle host link is in L1 (Table 2.2); else it is in L0 wherever it has a rate. -/
  l1        : Bool := false
  /-- Subsystem vendor and device IDs that the CFG component has set; those of OTP else (R328). -/
  subsys    : Option (Nat × Nat) := none
  /-- Bus Master Enable, and power state D3hot instead of D0 (R328, R331). The host's configuration writes have no row: a host that enables the queue, writes a TAIL or trains the link has enabled it (log 87). -/
  bme       : Bool := false
  d3hot     : Bool := false
  /-- The addresses in BAR0 and BAR2, Max_Payload_Size and Max_Read_Request_Size codes (R328, log 87). -/
  bars      : Nat × Nat := (0, 0)
  mps       : Nat := 0
  mrrs      : Nat := 2
  accessErr : Nat := 0
  scratch   : Nat := 0
  winBase   : Nat := 0
  winDiscard : Nat := 0
  msix      : Tbl MsixEntry := []
  /-- The pending bit array, bit n for vector n. -/
  pba       : Nat := 0
  /-- The latches of STIME, POS, LINE, ENERGY, SOUT (R354). -/
  latches   : List Nat := [0, 0, 0, 0, 0]
  /-- MB0 to MB3 and, as index 4, the station master's queue of one request (R485). -/
  mbs       : List Mailbox := [{}, {}, {}, {}, {}]
  /-- Mailboxes whose request has no response yet, in doorbell order (R377), and those of them that rang before mailbox service started (R53). -/
  order     : List Nat := []
  held      : List Nat := []
  /-- Accepted commands, oldest first. -/
  outstanding : List Pend := []
  evq       : Evq := {}
  /-- A command from the station master has been served while MASTER_NODE names one (R355). -/
  stnServed : Bool := false
deriving DecidableEq, Repr

/-- An active fault (R520). -/
structure ActiveFault where
  code   : Nat
  res    : Nat
  action : Nat
deriving DecidableEq, Repr

/-- An entry of the fault log (R528). -/
structure LogEntry where
  number : Nat
  code   : Nat
  res    : Nat
  time   : Nat
  action : Nat
  data   : List Byte
  /-- The CMAC tag under the log key, 4 bytes. -/
  tag    : List Byte := []
deriving DecidableEq, Repr

/-- Faults, temperatures and rails (R517 to R529). -/
structure FltSt where
  /-- The action that FAULT_POLICY sets, plus 1; 0 where the default holds (R519). -/
  policy    : Tbl Nat := []
  active    : List ActiveFault := []
  /-- Oldest first, at most 4096. -/
  log       : List LogEntry := []
  /-- NUMBER of the next entry. -/
  next      : Nat := 1
  sinceReset : Nat := 0
  /-- Faults to be written at the next boot: code and resource. -/
  atBoot    : List (Nat × Nat) := []
  /-- A HOLD called for in this step: the lowest fault code (R539). -/
  holdReq   : Option Nat := none
  /-- Safety groups to be switched off in this step (R518): mask, fault code and resource, oldest first. -/
  groupReq  : List (Nat × Nat × Nat) := []
  /-- A RESET called for in this step (CORE_DBE, THERMAL_TRIP). -/
  resetReq  : Bool := false
  /-- Die temperatures, Q16.16 °C; 0 before the first reading (log 21). -/
  temps     : List Int := [0, 0, 0, 0, 0, 0, 0, 0]
  /-- EV_TEMP WARN, HIGH, CRITICAL posted and not yet re-armed (R522). -/
  warned    : Bool := false
  highed    : Bool := false
  crited    : Bool := false
  /-- HIGH or CRITICAL posted since the last NORMAL. -/
  wasHigh   : Bool := false
  /-- Instant plus 1 since which every reading has been above 105 °C; 0 for none. -/
  aboveSince : Nat := 0
  /-- Consecutive readings out of range of VDD_CORE, VDD_IO18, AVDD (R523). -/
  railBad   : List Nat := [0, 0, 0]
  /-- Instant plus 1 since which the rail is within range after SUPPLY_RANGE. -/
  railGood  : List Nat := [0, 0, 0]
  /-- Last log instant plus 1 of corrected errors by resource, and the count since (R524). -/
  corrTime  : Tbl Nat := []
  corrCount : Tbl Nat := []
deriving DecidableEq, Repr

/-- The secure store and the debug port (R530 to R535). -/
structure SecSt where
  stationKey : Option Nat := none
  ownerToken : Option Nat := none
  spoolWrap  : Option Nat := none
  identity   : Option Nat := none
  erased     : Bool := false
  /-- KEY_PROVISION has confirmed since the erase that there is no owner token (R535). -/
  noOwner    : Bool := false
  opens      : Nat := 0
  debugOpen  : Bool := false
  /-- The erase-pending mark. -/
  erasePending : Bool := false
  /-- Owner of the open in progress: a mailbox or the station master, 5 for JTAG, 6 none. -/
  opener     : Nat := 6
  openerSeq  : Nat := 0
  /-- Instants of refused authorities within the last 60 s. -/
  refusals   : List Nat := []
  /-- Instant at which the refusal period ends. -/
  lockUntil  : Option Nat := none
  authFails  : Nat := 0
  /-- The JTAG challenge nonce that is presented. -/
  nonce      : Option Nat := none
  /-- The JTAG instruction register: 0 BYPASS, 1 IDCODE, 2 SAMPLE/PRELOAD, 3 EXTEST, 4 unlock. -/
  jtagIr     : Nat := 1
deriving DecidableEq, Repr

/-- Memory errors and repair (R524 to R527). -/
structure MemErr where
  /-- Bytes that SERVICE has written into the device-owned part of the system area (R336): byte plus 1 by address. -/
  owned     : Tbl Nat := []
  /-- Instant plus 1 of the last corrected error at an address (store × 2^40 + unit × 2^32 + addr; the 24 h criterion). -/
  sramLast  : Tbl Nat := []
  /-- Spare rows used, by memory unit: the 64 units of 1 MiB of on-chip SRAM in the order of Table 1.4 (R526). -/
  spares    : Tbl Nat := []
  /-- Double-bit errors that a scrub has found and nothing has used yet (R525): shading records with their bank (1 the staged one), and polynomial sets. -/
  latentShade : List (Nat × Nat) := []
  latentPoly  : List Nat := []
  /-- Rows remapped: the repair map, saved in the boot flash. -/
  repair    : List Nat := []
  /-- Instants plus 1 of the last scrubs of the SRAM stores and of the HBM system area (R524). -/
  scrubAt   : Nat := 0
  scrubHbmAt : Nat := 0
  /-- HBM rows excluded until the next boot: row addresses in 4 KiB pages. -/
  excluded  : List Nat := []
  /-- Instants of double-bit errors by HBM channel, newest first. -/
  dbeTimes  : Tbl (List Nat) := []
  /-- Channels that failed training at boot, a mask (R527). -/
  badChannels : Nat := 0
  /-- Excluded rows outside the ring store whose pages have been remapped (R527). -/
  moved     : List Nat := []
  /-- 4 KiB pages that the ring store has lost. -/
  remapped  : Nat := 0
  /-- SHADE_DBE, saturating (Table 16.5). -/
  shadeDbe  : Nat := 0
deriving DecidableEq, Repr

end Sys2Proof.Machine
end

