-- ==== Sys2Proof/Machine/StImage.lean ====
section
/-! DEFINITION. The state of pixel correction and of alignment (chapters 5 and 6). -/

namespace Sys2Proof.Machine

/-- The temperature binding of a port (Table 5.3): 0 to 15 names AUXn, 255 is NONE; TEMP_FIXED in 1/16 °C; the port's collapses hold a temperature. -/
structure TempBind where
  source : Nat := 255
  fixed  : Int := 400
  held   : Bool := false
deriving DecidableEq, Repr

/-- Running white of one side and plane slot (Table 5.7) and its open block (R184). -/
structure RwState where
  w     : Nat := 8388608
  ref   : Int := 0
  /-- The open block: eligible lines, samples and their sum. -/
  lines : Nat := 0
  n     : Nat := 0
  sum   : Int := 0
  /-- Complete blocks, oldest first, whose end is still to be acted on: samples and their sum. -/
  ready : List (Nat × Int) := []
  /-- The next block re-references (R185). -/
  reref : Bool := false
  /-- The next block opens only when the fades have ended (R185). -/
  wait  : Bool := false
  /-- W just before step 1 of a grade (R186). -/
  w0    : Nat := 8388608
deriving DecidableEq, Repr

/-- What SHADE_READ FORM 1 reports of a tile-plane for the last line committed (R190). -/
structure LastCorr where
  d    : Nat := 0
  w    : Nat := 8388608
  gen  : Nat := 0
  sets : List (Nat × List Int) := []
deriving DecidableEq, Repr

/-- A SHADE_LOAD from the load area in progress (R337, R365): its source and number, range, offset, and the HBM stack at its doorbell and at its start. -/
structure ShadeJob where
  src    : Nat
  seq    : Nat
  first  : Nat
  count  : Nat
  offset : Nat
  area   : List Host.Cell
  seen   : List Host.Cell
deriving DecidableEq, Repr

/-- Pixel correction (chapter 5). -/
structure PxSt where
  binds : Tbl TempBind := []
  /-- The 9 counters of Table 5.10, in table order. -/
  counters : List Nat := [0, 0, 0, 0, 0, 0, 0, 0, 0]
  /-- Running white, index 4 × side + slot, left first. -/
  rw    : List RwState := List.replicate 8 {}
  /-- RW_GEN by plane slot. -/
  rwGen : List Nat := [0, 0, 0, 0]
  /-- Instant of the last change of a term, and the terms and generations before that instant (R158). -/
  rwT   : Option Nat := none
  rwWas : List Nat := []
  genWas : List Nat := []
  /-- By port × 4 + slot. -/
  last  : Tbl LastCorr := []
  /-- Shading loads in progress, oldest first. -/
  loads : List ShadeJob := []
deriving DecidableEq, Repr

/-- A tile-plane-line past its verdict, in the stagger store or the Baseline window (R194, R196). -/
structure WinTpl where
  line  : Nat
  port  : Nat
  slot  : Nat
  absent : Bool
  /-- Position that the tap uses, S63.16 (R197). -/
  x     : Int
  rid   : Nat
  gen   : Nat
  y     : List Int
  /-- Verdict kind and retired mask that travel with the line, and the exposure with which it returns from the stagger store (R194). -/
  kind  : Verdict := .commit
  mask  : Nat := 0
  due   : Nat := 0
deriving DecidableEq, Repr

/-- A grid line whose verdict is known and which ALN has not emitted (R17, R201). -/
structure GridLine where
  line : Nat
  kind : Verdict
  /-- Reported position, ticks. -/
  pos  : Int
  rid  : Nat
  mask : Nat
  edges : Option Nat × Option Nat
  replayed : Bool
  undiag : Bool
  stale : Bool
  /-- Station time of the exposure centre. -/
  t    : Nat
deriving DecidableEq, Repr

/-- One side of the Selvedge tracker (R209). -/
structure SvSide where
  locked : Bool := false
  edge   : Nat := 0
  misses : Nat := 0
  /-- Candidate of the previous measured line and the consistent lines so far. -/
  cand   : Option Nat := none
  count  : Nat := 0
deriving DecidableEq, Repr

/-- Alignment, seams and the tracker (chapter 6). -/
structure AlnSt where
  win   : List WinTpl := []
  /-- The HBM stagger store: lead-row tile-plane-lines that wait for their trail row, oldest first (R194). -/
  store : List WinTpl := []
  lines : List GridLine := []
  left  : SvSide := {}
  right : SvSide := {}
  /-- Device-column forms last published (R210). -/
  leftDev : Nat := 0
  rightDev : Nat := 0
  /-- Instant of the last publication, and the edges published before it: a Gate entry of that same instant takes those (R210). -/
  pubT : Option Nat := none
  older : Option Nat × Option Nat := (none, none)
  /-- BL_SUBST by port × 4 + slot. -/
  subst : Tbl Nat := []
  uncovered : Nat := 0
  absent : Nat := 0
  widened : Nat := 0
  stCorr : Nat := 0
  stDbe : Nat := 0
  /-- SV_MISS_L, SV_MISS_R, SV_LOSSES_L, SV_LOSSES_R, SV_ACQUIRED. -/
  svCounters : List Nat := [0, 0, 0, 0, 0]
  /-- Exposures squashed, newest first, each with the tile-planes (port × 4 + slot) that lose a candidate by it (R201). -/
  squashed : List (Nat × List Nat) := []
  /-- Tile-planes (port × 4 + slot) that a memory error puts out for the next output line (Table 16.5). -/
  outPlanes : List Nat := []
deriving DecidableEq, Repr

end Sys2Proof.Machine
end

