-- ==== Sys2Proof/Machine/StDelivery.lean ====
section
/-! DEFINITION. The state of coding, delivery and the spool (chapters 8 and 9). -/

namespace Sys2Proof.Machine

/-- A stitched sample: a value, or the fill code of an owner port (R206). -/
inductive Smp where
  | v (y : Int)
  | fill (port : Nat)
deriving DecidableEq, Repr

/-- RING_CFG of one stream (Table 9.4); STORE_MAX, PROOF_HIGH and PROOF_LOW in 64 MiB units, MAX_AGE in µs. -/
structure RingCfg where
  base     : Nat := 0
  entries  : Nat := 1024
  vector   : Nat := 8
  flush    : Nat := 0
  maxAge   : Nat := 1000
  reserve  : Nat := 128
  catchup  : Nat := 104
  storeMax : Nat := 224
  proofHigh : Nat := 16
  proofLow : Nat := 4
deriving DecidableEq, Repr

/-- A stream item (Table 9.1) with what its plane-row or repeat says of it. -/
structure Item where
  bytes  : List Byte
  /-- Output lines the item stands for: those of a line-header block, 0 of any other. -/
  lines  : Nat := 0
  /-- BOLT_SEQ numbers it stands for: 1 for a bolt. -/
  bolts  : Nat := 0
  repeatNo : Nat := 0
  /-- 48-bit index of the first line of its plane-row or repeat, and the lines of its plane-row. -/
  first  : Nat := 0
  span   : Nat := 0
  tFirst : Nat := 0
  tLast  : Nat := 0
  /-- Its BOLT_SEQ, or the next one. -/
  seq    : Nat := 0
  /-- First BOLT_SEQ of its plane-row, and the row's bolts; 0 bolts for a record. -/
  rowSeq : Nat := 0
  rowBolts : Nat := 0
  /-- The last bolt of its plane-row. -/
  last   : Bool := false
  /-- Output samples of a bolt, padding not counted (R37). -/
  samples : Nat := 0
  /-- Counted as delivered when it was written to the spool (R37). -/
  counted : Bool := false
  /-- The instant it became ready. -/
  ready  : Nat := 0
deriving DecidableEq, Repr

def Item.tag (i : Item) : Nat := ofLe (i.bytes.take 2)
def Item.size (i : Item) : Nat := i.bytes.length
def Item.isRepeat (i : Item) : Bool := i.tag == 0xDA70
def Item.isGap (i : Item) : Bool := i.tag == 0x6A70
def Item.isHeaders (i : Item) : Bool := i.tag == 0x11E0
def Item.isBolt (i : Item) : Bool := i.tag == 0xB017

/-- One carried group being staged: its header without GAP_BEFORE, its lines, and its codes by plane slot. -/
structure Group where
  header : List Byte
  first  : Nat
  lines  : Nat
  tFirst : Nat
  tLast  : Nat
  codes  : List (List Nat)
deriving DecidableEq, Repr

/-- One output line of a group under way: index, LINE_IN_REPEAT, POSITION, FLAGS bits of the line itself, mask, centre, latched edges. -/
structure AccLine where
  k      : Nat
  inRepeat : Nat
  pos    : Int
  flags  : Nat
  mask   : Nat
  t      : Nat
  edges  : Option Nat × Option Nat
deriving DecidableEq, Repr

/-- Where a work item of a stream goes (R305 to R309): live, admitted to the ring store, waiting for REFUGE_ADMIT, or to be dropped. -/
inductive Dest where
  | live | store | ask | drop (cause : Nat)
deriving DecidableEq, Repr

/-- A plane-row that has closed (R260, R261) and its bolts in coding. -/
structure PlaneRow where
  slots  : List Nat
  depth  : Nat
  coding : Nat
  t4     : Nat
  tableId : Nat
  fallback : Nat
  /-- Code lengths of the two tables in the bank of the row's repeat. -/
  table  : List Nat
  fbTable : List Nat
  nc     : Nat
  groups : List Group
  seq0   : Nat
  repeatNo : Nat
  gen    : Nat
  binY   : Nat
  dest   : Dest
  /-- Bolts dispatched, and those whose encoder works: index and whether coded with FALLBACK_TABLE. -/
  sent   : Nat := 0
  flight : List (Nat × Bool) := []
  /-- Coded bolts by index, not yet released. -/
  coded  : List (Nat × List Byte) := []
  /-- The line-header block is released, and the bolts released. -/
  headOut : Bool := false
  out    : Nat := 0
deriving DecidableEq, Repr

/-- A gap (Table 9.3). -/
structure Gap where
  cause  : Nat
  partialFirst : Bool
  first  : Nat
  lines  : Nat
  firstRepeat : Nat
  lastRepeat : Nat
  repeats : Nat
  seqFirst : Nat
  bolts  : Nat
  bytes  : Nat
  tFirst : Nat
  tLast  : Nat
deriving DecidableEq, Repr

/-- A stream's work in stream order: a record, or a plane-row. -/
inductive Work where
  | item (i : Item) (d : Dest)
  | row (r : PlaneRow)
  /-- Lines that will not be made (R47, R50): their gap record is placed when the work before it has left. -/
  | gap (g : Gap) (d : Dest)
deriving DecidableEq, Repr

/-- A segment of the ring store (R306, R320): its items, whether it is closed, and the LSEQ of its write in flight. -/
structure StoreSeg where
  ord    : Nat
  items  : List Item
  closed : Bool := false
  lseq   : Option Nat := none
deriving DecidableEq, Repr

/-- An open host buffer (R300, R302): class 0 live, 1 backlog, 2 replay. -/
structure OpenBuf where
  addr   : Nat
  bytes  : Nat
  irq    : Bool
  kind   : Nat
  /-- Its items in order, and the bytes they take. -/
  items  : List Item := []
  used   : Nat := 0
  opened : Nat
  /-- The instant a repeat or gap record was written last and no bolt since (R301). -/
  recAt  : Option Nat := none
deriving DecidableEq, Repr

/-- One stream (chapters 6, 8 and 9). -/
structure Stream where
  /-- RING_CFG has configured it. -/
  ringed : Bool := false
  ring   : RingCfg := {}
  tail   : Nat := 0
  head   : Nat := 0
  dseq   : Nat := 0
  /-- FLOW: 0 CLOSED, 1 LIVE, 2 REFUGE, 3 DROP. -/
  flow   : Nat := 0
  catchup : Bool := false
  ringErr : Bool := false
  phase  : Nat := 1
  proofStopped : Bool := false
  /-- The fetched descriptor that waits for an item: address, bytes, IRQ. -/
  desc   : Option (Nat × Nat × Bool) := none
  buf    : Option OpenBuf := none
  /-- The group under way: its lines so far (header fields) and its stitched rows by plane slot, and its plane-row. -/
  accLines : List AccLine := []
  accRows : List (List (List Smp)) := []
  row    : List Group := []
  rowNc  : Nat := 0
  rowRegs : List Nat := []
  /-- The repeat that the stream stages, as a Datum id, and whether it has carried a group of it. -/
  rid    : Nat := 0
  carried : Bool := false
  seq    : Nat := 0
  work   : List Work := []
  live   : List Item := []
  store  : List StoreSeg := []
  /-- Segments of the backlog on the spool, oldest first, by LSEQ; the items read from the oldest of them. -/
  spooled : List Nat := []
  fetched : List Item := []
  /-- The segment whose items these are, while it has undelivered ones. -/
  fetchedOf : Option Nat := none
  /-- The instant in ps from which CATCHUP_RATE allows the next backlog item (R304, R310). -/
  catchFree : Nat := 0
  gap    : Option Gap := none
  gapSeq : Nat := 0
  gapBefore : Bool := false
  /-- STREAM_CLOSE in progress (R73): the flush has begun. -/
  closing : Bool := false
  /-- The last item of the closed stream is still to be completed. -/
  lastDue : Bool := false
  /-- STREAM_OPEN restarts the counts at the Datum of this repeat number. -/
  opening : Option Nat := none
  /-- R308: reservations of this and the previous repeat, the last Datum's instant, the previous repeat's duration, bytes that entered the refuge. -/
  resNow : Nat := 0
  resPrev : Nat := 0
  tDatum : Nat := 0
  tPrev  : Nat := 0
  enteredNow : Nat := 0
  enteredPrev : Nat := 0
  allPrev : Nat := 0
  allMark : Nat := 0
  /-- LINES_LIVE, LINES_CAUGHT_UP, LINES_GAP, BYTES_LIVE, BYTES_CAUGHT_UP, BYTES_GAP (R313). -/
  terms  : List Nat := [0, 0, 0, 0, 0, 0]
  stalls : Nat := 0
  gaps   : Nat := 0
  rejects : Nat := 0
  /-- The seven counters of Table 8.12, in table order. -/
  coding : List Nat := [0, 0, 0, 0, 0, 0, 0]
  /-- Archive segment being filled (R321), and the LSEQ of the previous segment of each kind. -/
  archive : List Item := []
  prevLseq : Nat := 0
  prevArch : Nat := 0
deriving DecidableEq, Repr

/-- A drive of the spool (R314 to R322): 0 not attached, 1 in service, 2 retired. Rates in MB/s. -/
structure Drive where
  state  : Nat := 0
  slots  : Nat := 0
  timeouts : Nat := 0
  /-- Instants of timeouts within the last 60 s. -/
  recent : List Nat := []
  rateW  : Nat := 6000
  rateR  : Nat := 7000
  /-- Writes and reads of the last second of use, newest first, as duration in ns and bytes, and the instants of the last completion of each (R315). -/
  usesW  : List (Nat × Nat) := []
  usesR  : List (Nat × Nat) := []
  doneW  : Nat := 0
  doneR  : Nat := 0
  /-- Largest transfer in bytes (0 no limit) and serial number, as Identify tells them (R314, R317). -/
  mdts   : Nat := 0
  serial : Nat := 0
  /-- Its four I/O queue pairs exist (R314). -/
  queues : Bool := false
  /-- The superblock that the drive holds (R317). -/
  block  : Option Superblock := none
deriving DecidableEq, Repr

/-- A segment of the log (R320). stale: written before the last reset (R323). -/
structure SpoolSeg where
  lseq   : Nat
  prev   : Nat
  stream : Nat
  archive : Bool
  epoch  : Nat
  drive  : Nat
  slot   : Nat
  items  : List Item
  delivered : Bool
  stale  : Bool
  /-- Its place in its stream's order (R295). -/
  ord    : Nat := 0
  /-- Its keys are lost, so no read of it succeeds (Table 16.10). -/
  sealed : Bool := false
deriving DecidableEq, Repr

/-- An NVMe command in flight (R314, R322): what it writes or reads, and the tries so far. -/
structure Nvme where
  drive  : Nat
  lseq   : Nat
  /-- 0 spill write, 1 archive write, 2 backlog read, 3 replay read. -/
  kind   : Nat
  stream : Nat
  tries  : Nat
  start  : Nat
  /-- Of a write: the previous segment of its stream and kind, and its items. -/
  prev   : Nat := 0
  items  : List Item := []
  /-- Its transfers, which take as many places in the drive's four queues of depth 256. -/
  parts  : Nat := 1
  /-- The place of what a write carries in its stream's order. -/
  ord    : Nat := 0
  /-- Of a write whose keys have been lost since (R318). -/
  sealed : Bool := false
deriving DecidableEq, Repr

/-- A per-repeat index entry (R321). -/
structure IndexEntry where
  stream : Nat
  repeatNo : Nat
  first  : Nat
  lines  : Nat
  lseq   : Nat
deriving DecidableEq, Repr

/-- SPOOL_CFG (Table 9.10); SPILL_MARK in 16 MiB units. -/
structure SpoolCfg where
  enable : Nat := 0
  bifurcation : Nat := 2
  drives : Nat := 0
  action : Nat := 0
  mark   : Nat := 4
  retain : Nat := 1
  archive : Nat := 0
deriving DecidableEq, Repr

/-- A replay in progress (R324, R325). -/
structure Replay where
  src    : Nat
  dst    : Nat
  range  : Nat
  rate   : Nat
  first  : Nat
  last   : Nat
  /-- Segments still to be read, and items read so far. -/
  toRead : List Nat
  items  : List Item
  /-- The items are in order and the gaps are placed. -/
  ready  : Bool
  missing : Nat
  /-- The instant in ps from which the rate limit allows the next item. -/
  free   : Nat := 0
deriving DecidableEq, Repr

/-- The spool (R314 to R325). -/
structure SpoolSt where
  cfg    : SpoolCfg := {}
  drives : List Drive := [{}, {}, {}, {}, {}, {}, {}, {}]
  /-- The log exists: FORMAT or ATTACH has completed. -/
  opened : Bool := false
  spoolId : Nat := 0
  /-- The data key and the tweak key of the slots, and the two wrapped under SPOOL_WRAP (R318). -/
  keys   : Option (List Byte × List Byte) := none
  wrapped : List Byte := []
  /-- The epoch whose segment each slot took last, by drive × 2^24 + slot (R319). -/
  writers : Tbl Nat := []
  /-- Backlog reads that ended within the last second: instant and bytes (R315). -/
  reads  : List (Nat × Nat) := []
  /-- Writes begun within the last second: instant and bytes (R315). -/
  writes : List (Nat × Nat) := []
  epochs : List SpoolEpoch := []
  epoch  : Nat := 0
  lseq   : Nat := 1
  segs   : List SpoolSeg := []
  cmds   : List Nvme := []
  index  : List IndexEntry := []
  /-- Spilling goes on (R307); SPOOL_FULL has been posted and still holds. -/
  spilling : Bool := false
  full   : Bool := false
  /-- DLV spills the whole ring store for a scheduled activation (R327). -/
  drainAll : Bool := false
  archSkipped : Nat := 0
  replay : Option Replay := none
deriving DecidableEq, Repr

/-- A codec job (R286 to R291): 0 QUEUED, 1 RUNNING, 2 DONE, 3 FAILED. -/
structure Job where
  id     : Nat
  src    : Nat
  seq    : Nat
  params : List Byte
  decompress : Bool
  state  : Nat := 0
  guard  : Nat := 0
  bolts  : Nat := 0
  bytesIn : Nat := 0
  bytesOut : Nat := 0
  maxErr : Nat := 0
  failBolt : Nat := 0
  /-- What the running job has produced: bytes for the destination, and the guard that ends it. -/
  output : List Byte := []
  result : Nat := 0
  /-- The HBM stack at its doorbell and at its start (R337), what host memory and the spool held for it, and the live bank's code tables at its start (R286). -/
  area   : List Host.Cell := []
  seen   : List Host.Cell := []
  source : SourceData := ⟨false, []⟩
  tabs   : SourceData := ⟨false, []⟩
  codes  : Tbl (List Byte) := []
deriving DecidableEq, Repr

/-- Delivery over all streams (chapter 9), and the coding jobs (chapter 8). -/
structure DlvSt where
  streams : List Stream := (List.range 8).map (fun n => { ring := { vector := 8 + n } })
  /-- Ordinal of the next segment of the ring store. -/
  segOrd : Nat := 0
  /-- Bytes that have entered the refuge over all streams. -/
  entered : Nat := 0
  /-- The repeat of the last output line as a Datum id, and its first line. -/
  outRid : Option Nat := none
  outFirst : Nat := 0
  /-- The next output line of the session. -/
  nextOut : Nat := 0
  /-- The instant in ps at which the host link has carried what it was given (R304). -/
  linkFree : Nat := 0
  /-- A transport stop is requested (R311). -/
  proofStop : Bool := false
  /-- Bolts dispatched to COD0 and COD1 and not yet coded, in the order of dispatch, by stream and BOLT_SEQ: the first four of each are in its encoders (R20). -/
  coders : List (List (Nat × Nat)) := [[], []]
  jobs   : List Job := []
  nextJob : Nat := 0
deriving DecidableEq, Repr

end Sys2Proof.Machine
end

