-- ==== Sys2Proof/Machine/StLamp.lean ====
section
/-! DEFINITION. The state of the lamp strings, the slices and the Lamp Bus (chapter 12). -/

namespace Sys2Proof.Machine

/-- One string (R393 to R408). -/
structure LampStr where
  /-- LAMP_MAP: plane slot (255 none), group (255 none), temperature source (254 the slice's). -/
  slot   : Nat := 255
  group  : Nat := 255
  temp   : Nat := 254
  curve  : Nat := 0
  pwm    : Nat := 0
  /-- Q2.14. -/
  gamma  : Nat := 16384
  fadeMs : Nat := 0
  table  : List Nat := []
  tableAt : Nat := 0
  knee   : Int := 1120
  floorT : Int := 1520
  offT   : Int := 1600
  onT    : Int := 1440
  floor  : Nat := 26214
  /-- The linear level L, and the fade: its start, its target L_t, its steps and the last step. -/
  l      : Nat := 0
  l0     : Nat := 0
  lt     : Nat := 0
  steps  : Nat := 1
  j      : Nat := 1
  /-- Time origin of the fade: a step at or after it moves L (R395). -/
  origin : Nat := 0
  /-- The calibration override (R228). -/
  override : Option Nat := none
  /-- D for the level dAt. -/
  d      : Nat := 0
  dAt    : Nat := 0
  /-- The curve, its γ and its points that are in force until the next round, where LAMP_CURVE has written others (R394). -/
  before : Option (Nat × Nat × List Nat) := none
  /-- The string takes its new duty in the first slot after this instant: its slice had no good PENDING (R397). -/
  late   : Option Nat := none
  k      : Nat := 65536
  overTemp : Bool := false
  /-- The derating source is bad and T is held at KNEE. -/
  held   : Bool := false
  /-- D′ as last sent, D′ of the last good LEVEL, and the duty that the slice drives: that of the last good LEVEL or swap. -/
  sent   : Nat := 0
  leveled : Nat := 0
  drives : Nat := 0
  litAt  : Nat := 0
  latched : Bool := false
  retryAt : Option Nat := none
  /-- Instant plus 1 of the last retry (R407). -/
  retried : Nat := 0
  retired : Bool := false
  lastGood : Nat := 0
  /-- UNDIAGNOSED has been posted, so that the next good measurement posts RECOVERED, and the instant at which the string became so (R403). -/
  undiag : Bool := false
  undiagAt : Nat := 0
  faults : Nat := 0
  /-- FADE_MS latched when a bank with another target was armed (R397). -/
  armFade : Option Nat := none
deriving DecidableEq, Repr

/-- A transaction on the bus (Table 12.3). -/
inductive LampTx where
  | poll
  | read (reg : Nat)
  | write (reg data : Nat)
  | level (ds : List Nat)
  | pending (ds : List Nat) (mask : Nat)
deriving DecidableEq, Repr

/-- One slice address (R386, R410, R411). -/
structure LSlice where
  enable : Nat := 0
  /-- In service: RUN 1 has been written. -/
  running : Bool := false
  /-- Bring-up: 0 none, 1 to 3 the reads, 4 the writes, 5 CONFIG. -/
  step   : Nat := 0
  present : Nat := 0
  retired : Bool := false
  missRun : Nat := 0
  crcRun : Nat := 0
  badRun : Nat := 0
  temp   : Option Int := none
  /-- The transaction that awaits its reply, and the start of its slot. -/
  tx     : Option LampTx := none
  slotAt : Nat := 0
  cfgDue : Bool := false
  mapDue : Bool := false
  diagMask : Nat := 0
  diagDue : Bool := false
  /-- W1C writes of LATCH and FAULTS still due, string masks (R407, R408). -/
  clrLatch : Nat := 0
  clrFault : Nat := 0
  /-- PENDING still due: duties and mask; it has been written once; the mask and the duties that a good PENDING has placed. -/
  pend   : Option (List Nat × Nat) := none
  written : Bool := false
  placed : Nat := 0
  duties : List Nat := []
  /-- Open and short bits already acted on. -/
  known  : Nat := 0
deriving DecidableEq, Repr

/-- The Lamp Bus and its strings (chapter 12). -/
structure LampSt where
  strs   : Tbl LampStr := []
  slices : Tbl LSlice := []
  /-- Groups marked as safety groups, and groups latched off (R406). -/
  safety : Nat := 0
  off    : Nat := 0
  /-- Instant plus 1 of the last LAMP_REARM of each group. -/
  rearm  : List Nat := [0, 0, 0, 0, 0, 0, 0, 0]
  /-- The mode sets every string off (Table 12.11). -/
  dark   : Bool := true
  /-- Targets and trims in force (R60, R92). -/
  tgt    : Tbl Nat := []
  trim   : Tbl Nat := []
  /-- The exposure whose pulse has gone out before its freeze (R391). -/
  early  : Option Nat := none
  /-- Start of the present round, and the first slot that it has still to serve (R386). -/
  roundAt : Option Nat := none
  nextSlot : Nat := 0
  /-- GROUP_OFF broadcasts of this round, and group masks whose repeat waits for the next (R387). -/
  casts  : Nat := 0
  casting : List Nat := []
  /-- LINE and LINE_SWAP pulses due: instant and kind (R391). -/
  pulses : List (Nat × Nat) := []
  /-- Instants of the last two references, newest first, 0 for none. -/
  refs   : List Nat := [0, 0]
  /-- The last exposures frozen, newest first: exposure number, t_s, t_e (R401). -/
  expos  : List (Nat × Nat × Nat) := []
  /-- Window of the last marker, exposure number ÷ 128 plus 1. -/
  marked : Nat := 0
  /-- A safety-group shut-off or string fault has happened (R239). -/
  abort  : Bool := false
deriving DecidableEq, Repr

end Sys2Proof.Machine
end

