-- ==== Sys2Proof/Machine/Frac.lean ====
section
/-! DEFINITION. Exact fractions, for the closed forms of the motion profiles (R425). -/

namespace Sys2Proof.Machine

/-- num ÷ den with den > 0, in lowest terms. -/
structure Frac where
  num : Int := 0
  den : Nat := 1
deriving DecidableEq, Repr

/-- Lowest terms; a denominator of 0 counts as 1. -/
def Frac.mk' (n : Int) (d : Nat) : Frac :=
  let g := Nat.gcd n.natAbs d
  if d = 0 then ⟨n, 1⟩ else if g ≤ 1 then ⟨n, d⟩ else ⟨n / (g : Int), d / g⟩

def Frac.ofInt (i : Int) : Frac := ⟨i, 1⟩

def Frac.add (a b : Frac) : Frac := Frac.mk' (a.num * (b.den : Int) + b.num * (a.den : Int)) (a.den * b.den)

def Frac.neg (a : Frac) : Frac := ⟨-a.num, a.den⟩

def Frac.sub (a b : Frac) : Frac := a.add b.neg

def Frac.mul (a b : Frac) : Frac := Frac.mk' (a.num * b.num) (a.den * b.den)

/-- a ÷ b; 0 where b is 0. -/
def Frac.div (a b : Frac) : Frac :=
  if b.num = 0 then ⟨0, 1⟩
  else if b.num < 0 then Frac.mk' (-a.num * (b.den : Int)) (a.den * b.num.natAbs) else Frac.mk' (a.num * (b.den : Int)) (a.den * b.num.natAbs)

def Frac.lt (a b : Frac) : Bool := decide (a.num * (b.den : Int) < b.num * (a.den : Int))

def Frac.le (a b : Frac) : Bool := decide (a.num * (b.den : Int) ≤ b.num * (a.den : Int))

def Frac.abs (a : Frac) : Frac := ⟨(a.num.natAbs : Int), a.den⟩

def Frac.min (a b : Frac) : Frac := if a.le b then a else b

def Frac.max (a b : Frac) : Frac := if a.le b then b else a

def Frac.sq (a : Frac) : Frac := a.mul a

def Frac.half (a : Frac) : Frac := a.div ⟨2, 1⟩

def Frac.isZero (a : Frac) : Bool := a.num == 0

/-- −1, 0 or 1. -/
def Frac.sgn (a : Frac) : Int := if a.num < 0 then -1 else if a.num = 0 then 0 else 1

def Frac.scale (k : Int) (a : Frac) : Frac := Frac.mk' (k * a.num) a.den

/-- √a from below to 2^−80, exact for the square of a fraction. -/
def Frac.sqrt (a : Frac) : Frac :=
  if a.num ≤ 0 then ⟨0, 1⟩
  else
    let n := isqrt a.num.natAbs
    let d := isqrt a.den
    if n * n = a.num.natAbs && d * d = a.den then ⟨(n : Int), d⟩
    else Frac.mk' (isqrt (a.num.natAbs * a.den * 2 ^ 160) : Int) (a.den * 2 ^ 80)

def Frac.floor (a : Frac) : Int := a.num.fdiv (a.den : Int)

def Frac.ceil (a : Frac) : Int := -((-a.num).fdiv (a.den : Int))

/-- Truncation toward 0. -/
def Frac.trunc (a : Frac) : Int := a.num.tdiv (a.den : Int)

/-- π × 2^640, rounded down (R85, R421). -/
def piNum : Int := 14333329926761567455775730701799299831126131522901418329710873694248203755857903894978459978948837038337184470360789102305252273090192709030764248428292776480232102476327552185579501988876367276

/-- The Taylor series from the term with exponent k on, to n terms, for x² and the term both × 2^200. -/
def trigTail (x2 : Int) : Nat → Nat → Int → Int
  | 0, _, _ => 0
  | n + 1, k, term => term + trigTail x2 n (k + 2) (-(term * x2 / 2 ^ 200) / (((k + 1) * (k + 2) : Nat) : Int))

/-- cos x and sin x for x × 2^200 with 0 ≤ x ≤ π ÷ 4, × 2^200. -/
def cosFix (x : Int) : Int := trigTail (x * x / 2 ^ 200) 32 0 (2 ^ 200)
def sinFix (x : Int) : Int := trigTail (x * x / 2 ^ 200) 32 1 x

/-- cos and sin of a ÷ 2^42 of a turn, × 2^200, by octants. -/
def turnCosSin (a : Nat) : Int × Int :=
  let q := a / 2 ^ 39 % 8
  let r := a % 2 ^ 39
  let x := piNum * ((if q % 2 = 0 then r else 2 ^ 39 - r : Nat) : Int) / 2 ^ 481
  let c := cosFix x
  let n := sinFix x
  match q with
  | 0 => (c, n) | 1 => (n, c) | 2 => (-n, c) | 3 => (-c, n) | 4 => (-c, -n) | 5 => (-n, -c) | 6 => (n, -c) | _ => (c, -n)

/-- x^n × 2^320 for x × 2^320, by squaring over the bits of n, k of them. -/
def powFix (x : Nat) : Nat → Nat → Nat
  | 0, _ => 2 ^ 320
  | k + 1, n => let h := powFix x k (n / 2); let h2 := h * h / 2 ^ 320; if n % 2 = 1 then h2 * x / 2 ^ 320 else h2

/-- The Taylor series of e^(−x) from term k on, to n terms, for x and the term both × 2^320. -/
def expTail (x : Int) : Nat → Nat → Int → Int
  | 0, _, _ => 0
  | n + 1, k, term => term + expTail x n (k + 1) (-(term * x / 2 ^ 320) / ((k + 1 : Nat) : Int))

/-- e^(−t ÷ 1.0 s) for t in ns, in binary32 to nearest (R472); below half the smallest pattern from 128 s on. -/
def decayF32 (t : Nat) : F32 :=
  if 128000000000 ≤ t then 0
  else
    let part := (expTail (((t % 1000000000 : Nat) : Int) * 2 ^ 320 / 1000000000) 72 0 (2 ^ 320)).toNat
    let whole := powFix (expTail (2 ^ 320) 72 0 (2 ^ 320)).toNat 7 (t / 1000000000)
    f32OfRat ((part * whole / 2 ^ 320 : Nat) : Int) (2 ^ 320)

/-- The nearest binary32 pattern. -/
def Frac.toF32 (a : Frac) : F32 := f32OfRat a.num a.den

end Sys2Proof.Machine
end

