-- ==== Sys2Proof/Machine/StMotion.lean ====
section
/-! DEFINITION. The state of the motion axes and of the proof transport (chapter 13). -/

namespace Sys2Proof.Machine

/-- AXIS_CFG (Table 11.8). -/
structure AxisCfg where
  enable : Nat := 0
  stopMode : Nat := 0
  /-- 0.1 ms. -/
  debounce : Nat := 0
  pwm    : Nat := 40
  pol    : Nat := 0
  invert : Nat := 0
  profile : Nat := 0
  res    : Nat := 100
  ind    : Nat := 10
  ke     : Nat := 0
  run    : Nat := 0
  hold   : Nat := 0
  backlash : Nat := 0
deriving DecidableEq, Repr

/-- The motion set (R437). -/
structure MotionSet where
  vmax  : Nat := 51200
  accel : Nat := 1024000
  decel : Nat := 1024000
  jerk  : Nat := 16777216
deriving DecidableEq, Repr

/-- One phase of a profile: duration in s, acceleration at its start, jerk; phase 0 accelerates, 1 cruises, 2 decelerates. -/
structure Seg where
  dur : Frac
  a   : Frac
  j   : Frac
  phase : Nat
deriving DecidableEq, Repr

/-- A planned motion in closed form (R425): its first tick, the position in microsteps and the speed there, its phases, and the target (none for a profile stop). -/
structure Motion where
  t0   : Nat
  p0   : Frac
  v0   : Frac
  segs : List Seg
  target : Option Int
  /-- The ACCEL of its acceleration phases. -/
  accel : Nat
deriving DecidableEq, Repr

/-- A motion that the next profile tick plans (R428); no target asks for a profile stop. -/
structure MoveReq where
  target : Option Int
  set    : MotionSet
deriving DecidableEq, Repr

/-- A switch (R431, R432): the debounced level of its input (true for high), the instant it last changed, and whether an earlier edge into the active or inactive state makes the next one wait for a hold. -/
structure Switch where
  high   : Bool := true
  since  : Nat := 0
  waitA  : Bool := false
  waitI  : Bool := false
deriving DecidableEq, Repr

/-- A homing search (R434, R435). -/
structure Homing where
  /-- 0 leaves an active HOME, 1 comes to rest from that, 2 searches, 3 turns round at an end switch, 4 comes to rest after the edge, 5 comes to rest after MAX_TRAVEL. -/
  phase : Nat
  /-- Search direction now, 1 or −1. -/
  dir   : Int
  speed : Nat
  accel : Nat
  offset : Int
  maxTravel : Nat
  /-- Position at which the leg began, microsteps. -/
  legFrom : Int
  reversed : Bool
  /-- Instant plus 1 of the HOME edge, and by how much it moved the position count (R434, R435). -/
  edgeAt : Nat := 0
  shift : Int := 0
deriving DecidableEq, Repr

/-- What the bridge outputs of an axis carry (Table 13.2): MOTn_EN low, the PWM of R422, or MOTn_EN high with all bridge inputs low. -/
inductive BridgeDrive where
  | low
  | pwm
  | brake
deriving DecidableEq, Repr

/-- One axis (chapter 13). -/
structure Axis where
  cfg   : AxisCfg := {}
  /-- AXIS_STAT STATE: 0 DISABLED, 1 IDLE, 2 MOVING, 3 HOMING, 4 FAULT_STOPPED, 5 PROOF. -/
  state : Nat := 0
  lost  : Bool := true
  driverFlt : Bool := false
  /-- Commanded position, S31.32, and speed, microsteps/s. -/
  pos   : Int := 0
  vel   : Frac := {}
  motion : Option Motion := none
  req   : Option MoveReq := none
  target : Int := 0
  set   : MotionSet := {}
  /-- HOME, FWD, REV. -/
  switches : List Switch := [{}, {}, {}]
  homing : Option Homing := none
  /-- V_M, Q16.16 V, and the instant of the last good result (R423). -/
  vm    : Int := 0
  vmTime : Nat := 0
  dutyA : Nat := 0
  dutyB : Nat := 0
  /-- Instant plus 1 since which a duty is saturated; SUPPLY_LOW posted for it. -/
  satSince : Nat := 0
  satPosted : Bool := false
  /-- Instant at which the profile came to rest, and CURRENT_HOLD in force (R420). -/
  restAt : Nat := 0
  holding : Bool := true
  /-- Former motions, newest first: where the axis stood within the longest DEBOUNCE (R431). -/
  past  : List Motion := []
  /-- AXIS_CFG with ENABLE 1 has raised MOTn_EN again since the axis stopped under Table 13.3 (R419). -/
  raised : Bool := false
  /-- A position report is owed to TIM: last reported position, microsteps (R81). -/
  reported : Option Int := none
  faults : Nat := 0
  /-- The levels of the bridge outputs, and the instant plus 1 at which the PWM period in progress began (R418, R422). -/
  drive : BridgeDrive := .low
  pwmAt : Nat := 0
deriving DecidableEq, Repr

/-- Where a stop cycle stands (R440 to R444). -/
inductive CyclePhase where
  /-- The axis has yet to travel Λ pitches beyond the cut. -/
  | cut
  /-- It decelerates to rest. -/
  | decel
  /-- At rest: the back-off starts at the next tick, or the cycle has ended its motion. -/
  | rest
  | backoff
  /-- Backed off: it waits for DLV. -/
  | wait
  | approach
deriving DecidableEq, Repr

/-- A stop cycle of the proof transport. -/
structure Cycle where
  phase : CyclePhase := .cut
  /-- The last line L of the cycle, and R_L. -/
  last  : Nat
  resume : Nat
  /-- P_cut in microsteps, x_cut S63.16, ratio in ticks per microstep. -/
  pCut  : Int
  xCut  : Int
  ratio : Frac
  /-- Λ pitches in microsteps, S31.32, the next one of the grid of positions. -/
  ahead : Int
  /-- Position from which the axis decelerates, and the resume position P_R. -/
  pRes  : Int
  /-- Lines whose LINE pulse of R443 is still due. -/
  pulses : List Nat := []
  failures : Nat := 0
  /-- Position from which v̂ has stayed within 0.5 % of the commanded speed (R444). -/
  steady : Option Int := none
  /-- The cycle ends the repeat and does not restart (Table 13.4). -/
  final : Bool := false
  /-- PROOF_STOPPED has been posted (R441). -/
  told : Bool := false
deriving DecidableEq, Repr

/-- Motion (chapter 13). -/
structure MotSt where
  axes  : List Axis := [{}, {}, {}, {}]
  cycle : Option Cycle := none
  /-- AXIS_STOP commands that wait: request key src × 2^32 + seq, and the axes not yet at rest. -/
  stops : List (Nat × Nat) := []
  /-- Marks of the last 65 536 microsteps of forward travel, newest first: commanded microsteps and corrected position (R442). -/
  marks : List (Int × Int) := []
  /-- The scan of the session has started (R437). -/
  scan  : Bool := false
  /-- Instant plus 1 of the last profile tick (R425). -/
  tickAt : Nat := 0
deriving DecidableEq, Repr

end Sys2Proof.Machine
end

