-- ==== Sys2Proof/Machine/StStation.lean ====
section
/-! DEFINITION. The state of the station bus, station time, field update, the clocks and the loopback (chapters 1, 11, 15). -/

namespace Sys2Proof.Machine

/-- STN_CFG (Table 11.11). -/
structure StnCfg where
  enable    : Nat := 0
  access    : Nat := 0
  nodeId    : Nat := 0
  nodeCount : Nat := 1
  etherType : Nat := 0x88B5
  master    : Nat := 255
  rate      : Nat := 32
  /-- MASTER_MAC, first byte of the address in the low byte. -/
  mac       : Nat := 0
deriving DecidableEq, Repr

/-- The counters of Table 15.5. -/
structure StnCounters where
  rx      : Nat := 0
  tx      : Nat := 0
  coll    : Nat := 0
  strTag  : Nat := 0
  strRep  : Nat := 0
  strSrc  : Nat := 0
  rateDrop : Nat := 0
  other   : Nat := 0
  noKey   : Nat := 0
  steps   : Nat := 0
  overrun : Nat := 0
deriving DecidableEq, Repr

/-- The station bus (R475 to R488). -/
structure StnSt where
  cfg    : StnCfg := {}
  cnt    : StnCounters := {}
  /-- Participation runs: booted, and not in the reset that ends ACTIVATE (R476). -/
  up     : Bool := false
  /-- SRC_BOOT of this boot, and SEQ of the next frame sent. -/
  boot   : Nat := 0
  seq    : Nat := 1
  /-- Source addresses with a bucket of their own (R482), and tokens spent since the last refill by address; the shared bucket is 2^48. -/
  tracked : List Nat := []
  spent  : Tbl Nat := []
  /-- Instant plus 1 of the last refill of the buckets (R482). -/
  refillAt : Nat := 0
  /-- The last accepted (SRC_BOOT, SEQ) by source address (R481). -/
  peers  : Tbl (Option (Nat × Nat)) := []
  /-- Of each stranger: instant plus 1 of its last event, and its frames since (R483). -/
  strangers : Tbl (Nat × Nat) := []
  /-- CMD_ID of the last RESPONSE with its bytes, and of the command that is BUSY (R486). -/
  lastCmd : Option (Nat × List Byte) := none
  busyCmd : Option Nat := none
  /-- Instant of the last valid frame, and of the last STATUS sent (R484, R524). -/
  lastRx : Nat := 0
  lastStatus : Nat := 0
  /-- A mode or update change owes a STATUS frame (R484): the one frame that waits to be sent. -/
  statusDue : Bool := false
  /-- Transmit opportunities of the beacon cycle that the coordinator sends, 0 for none, and the instant plus 1 at which it last stopped (R477, Table 15.5). -/
  beacons : Nat := 0
  beaconsTo : Nat := 0
deriving DecidableEq, Repr

/-- Station time (R489 to R492). -/
structure TimeSt where
  /-- Station time minus the TIM time base, ns, without the slew in progress. -/
  offset  : Int := 0
  /-- Slew still to be applied, and the instant it began (R491). -/
  slew    : Int := 0
  slewAt  : Nat := 0
  /-- 802.1AS or the host has set station time since reset (Table 2.7). -/
  everSet : Bool := false
  /-- TIME_CFG: SOURCE and DOMAIN. -/
  source  : Nat := 0
  domain  : Nat := 0
  /-- TIME_STATE of Table 15.4. -/
  state   : Nat := 0
  /-- Consecutive Sync messages within 1 µs. -/
  good    : Nat := 0
  lastSync : Nat := 0
  lastHost : Nat := 0
  /-- STN_OFFSET and STN_DELAY. -/
  measured : Int := 0
  delay   : Nat := 0
deriving DecidableEq, Repr

/-- A component as its image header states it (Table 15.7): version, generation, interface level, REQUIRES pairs for SC, TC, CC, CFG, place and size in the image. -/
structure Comp where
  version : Nat := 0
  gen     : Nat := 0
  iface   : Nat := 0
  req     : List (Nat × Nat) := [(0, 65535), (0, 65535), (0, 65535), (0, 65535)]
  offset  : Nat := 0
  bytes   : Nat := 0
  /-- IMAGE_ID of the image it came from; 0 is the factory image. -/
  image   : Nat := 0
  /-- SHA-384 of its bytes as the header states it. -/
  digest  : List Byte := []
deriving DecidableEq, Repr

/-- The boot record that the boot ROM uses (Table 15.10). -/
structure BootRec where
  seq     : Nat := 0
  sel     : Nat := 0
  prevSel : Nat := 0
  /-- 0 NONE, 1 SWITCHING, 2 TRIAL, 3 ROLLBACK. -/
  act     : Nat := 0
  step    : Nat := 0
  trialBoots : Nat := 0
  floors  : Option (List Nat) := none
  window  : Nat := 900
deriving DecidableEq, Repr

/-- UPD_SCHEDULE in force (R507). -/
structure Sched where
  time   : Nat
  policy : Nat
  window : Nat
  confirm : Nat
deriving DecidableEq, Repr

/-- A download (R501 to R505). Bit i of held stands for piece i. -/
structure Download where
  id     : Nat := 0
  bytes  : Nat := 0
  held   : Nat := 0
  /-- Header pieces received, and the four components once the header has passed R496. -/
  header : Tbl (List Byte) := []
  comps  : Option (List Comp) := none
  /-- Body pieces written to the inactive slot (R502). -/
  body   : Tbl (List Byte) := []
deriving DecidableEq, Repr

/-- A PCIe piece whose programming is in progress (R502, R503): its command, its image and INDEX, its place in the load area, and the HBM stack at its doorbell. -/
structure PieceTx where
  src    : Nat
  seq    : Nat
  image  : Nat
  index  : Nat
  offset : Nat
  area   : List Host.Cell
deriving DecidableEq, Repr

/-- Field update (R495 to R515). The boot record, the slots and the saved state lie in the boot flash. -/
structure UpdSt where
  /-- STATE of UPD_STATUS: 0 IDLE to 7 FAILED. -/
  state  : Nat := 0
  result : Nat := 0
  dl     : Download := {}
  /-- Pieces newly held since the last save (R503), and what was saved. -/
  fresh  : Nat := 0
  saved  : Option Download := none
  sched  : Option Sched := none
  /-- Under WAIT, TIME has passed and the device tests at each entry to READY or STANDBY. -/
  waiting : Bool := false
  /-- The newest boot record, the copy that holds it, and what the other copy holds (R500). -/
  boot   : BootRec := {}
  copy   : Nat := 0
  older  : Option BootRec := none
  /-- Components of slot A and slot B; none holds the factory image or nothing. -/
  slots  : List (Option (List Comp)) := [none, none]
  /-- Instant of the last piece or of the UPD_NEED that its absence called for (R504). -/
  lastPiece : Nat := 0
  /-- The copy of the download area that holds the newest saved state (Table 15.9). -/
  savedCopy : Nat := 0
  /-- 1 KiB pieces that arrived during VERIFYING (Table 15.13). -/
  late   : List (Nat × List Byte) := []
  /-- Neither slot held a full set that passed verification at the last boot (R500), and the slot that the verified image lies in. -/
  noSet  : Bool := false
  newSlot : Nat := 0
  /-- Instant plus 1 of the last boot record written: a reset at that instant interrupts it (Table 15.11). -/
  wroteAt : Nat := 0
  /-- The download and the origin of the trial that the last UPD_CONFIRM ended: what stands where its record is not written whole (Table 15.11). -/
  trialOf : Option (Download × Bool) := none
  /-- Under WAIT only the ring store stands in the way of the activation (Table 9.14). -/
  blocked : Bool := false
  /-- PCIe pieces in progress, oldest first. -/
  pieces : List PieceTx := []
  /-- Instant of the trial boot's entry to STANDBY, and the expiry that waits for READY or STANDBY (R513). -/
  trialAt : Option Nat := none
  expired : Bool := false
  /-- The trial began in RECOVERY (R515), and the REASON of a rollback. -/
  fromRecovery : Bool := false
  reason : Nat := 0
  /-- The combination of the present step has been confirmed (R509), and the component that failed (0xFFFF none). -/
  confirmed : Bool := false
  failed : Nat := 0xFFFF
deriving DecidableEq, Repr

/-- Islands in the order of the energy channels 0 to 17 (R35): clock step 0 to 3 and a stopped clock (R22 to R25). -/
structure ClkSt where
  steps   : List Nat := List.replicate 18 0
  stopped : List Bool := List.replicate 18 false
  /-- Instant of each island's last change of step or restart. -/
  since   : List Nat := List.replicate 18 0
  /-- The HBM stack is in self-refresh; the instant of the last request to it (R25). -/
  refresh : Bool := false
  lastHbm : Nat := 0
deriving DecidableEq, Repr

/-- A DIAG_LOOPBACK in progress (R373): target, ports, owner and end. -/
structure Loop where
  target : Nat
  ports  : Nat
  src    : Nat
  seq    : Nat
  until' : Nat
deriving DecidableEq, Repr

end Sys2Proof.Machine
end

