-- ==== Sys2Proof/Machine/State.lean ====
section
/-! DEFINITION. The whole state of the device as plain data, the state after reset, and the ways a step can stop. -/

namespace Sys2Proof.Machine

/-- Why the model stops. -/
inductive Fault where
  /-- Raised by a host action that commands the device after a station-master command was served while MASTER_NODE names a master: R355 leaves the results undefined. Safe: the model stops where the device goes on. -/
  | secondMaster
deriving DecidableEq, Repr

/-- Why the model gives a command no meaning. -/
inductive Refusal where
  /-- Raised by the arm of a command whose meaning is not written. Safe: the model stops where the device goes on. -/
  | notModelled (mnemonic : String)
deriving DecidableEq, Repr

/-- PROOF_CFG (R416, Table 11.8): 255 is none, source 4 is VIRTUAL. -/
structure ProofCfg where
  proofAxis   : Nat := 255
  benchAxis   : Nat := 255
  proofSource : Nat := 0
  benchSource : Nat := 0
  proofScale  : Nat := 65536
  benchScale  : Nat := 65536
  lag         : Nat := 0
deriving DecidableEq, Repr

/-- The energy meter (R35, R36, Table 1.9). -/
structure MeterSt where
  ch         : List Nat := List.replicate 25 0
  samplesIn  : Nat := 0
  samplesOut : Nat := 0
  linesOut   : Nat := 0
  /-- The instant of the last tick (R35). -/
  lastTick : Nat := 0
  /-- Ticks since power-on, and what the last one latched: its station time, SAMPLES_IN, SAMPLES_OUT, LINES_OUT and E_LINE_AVG (R36). -/
  ticks      : Nat := 0
  tSnap      : Nat := 0
  snapIn     : Nat := 0
  snapOut    : Nat := 0
  snapLines  : Nat := 0
  snapAvg    : Option Nat := none
  /-- Open streams that still owe a carried line, by its 48-bit index (R37). -/
  lineLeft   : Tbl Nat := []
  /-- Bolts of a plane-row that are not yet written, by (stream × 2^32 + REPEAT_NO) × 2^32 + its first BOLT_SEQ; a row not listed has written none. -/
  rowLeft    : Tbl Nat := []
  /-- Whole-device energy at each of the last 1024 delivered lines, newest first. -/
  marks      : List Nat := []
deriving DecidableEq, Repr

/-- The device (every field cites its chapter's structure). -/
structure State where
  /-- TIM time base in ns since the power-on of this run (R13). -/
  now     : Nat := 0
  sys     : SysSt := {}
  host    : HostSt := {}
  flt     : FltSt := {}
  sec     : SecSt := {}
  time    : TimeSt := {}
  stn     : StnSt := {}
  upd     : UpdSt := {}
  clk     : ClkSt := {}
  loop    : Option Loop := none
  mem     : MemErr := {}
  banks   : BanksSt := {}
  datum   : DatumSt := {}
  tr      : TransitSt := {}
  /-- Exposures in flight, oldest first (R93). -/
  gate    : List Slot := []
  ports   : PortsSt := {}
  proof   : ProofCfg := {}
  meter   : MeterSt := {}
  px      : PxSt := {}
  aln     : AlnSt := {}
  dlv     : DlvSt := {}
  spool   : SpoolSt := {}
  aux     : AuxSt := {}
  cal     : CalSt := {}
  mot     : MotSt := {}
  lamp    : LampSt := {}
  /-- HBM bytes that BAR2 or the device has placed at addresses the manual lays out; an unlisted byte reads 0 (log 4). -/
  hbm     : List Host.Cell := []
  /-- What the device has sent, newest first (log 3). -/
  out     : List Out := []
  /-- Index of the next free value or random draw (log 5). -/
  free    : Nat := 0
  /-- The waiting commands, first in first out. -/
  pending : List Instr := []
deriving DecidableEq, Repr

/-- The machine right after reset. -/
def State.reset : State := {}

end Sys2Proof.Machine
end

