-- ==== Sys2Proof/Machine/Flags.lean ====
section
/-! DEFINITION. What the device computes its status from: modes, the synchronisation and queue flags, the fault table and the fault summary (R348 to R350, R360, R518 to R520, Tables 2.7, 16.2 and 16.3). -/

namespace Sys2Proof.Machine

open Sys2Proof

/-- TIME_UNSYNC of Table 2.7. -/
def unsync (s : State) : Bool := !s.time.everSet

/-- A capture mode: BENCH, INLINE or PROOF (R360). -/
def Mode.cap : Mode → Bool
  | .bench | .inline | .proof => true
  | _ => false

/-- ALL of R360. -/
def Mode.all : Mode → Bool
  | .standby | .ready | .bench | .inline | .proof | .replay | .service | .hold => true
  | _ => false

/-- QUIET of R360. -/
def Mode.quiet : Mode → Bool
  | .standby | .ready | .service | .hold => true
  | _ => false

/-! ### The event queue -/

/-- Unread entries of the event queue. -/
def Evq.unread (q : Evq) : Nat := mdist 32 q.head q.tail

/-- Host memory is reachable (R331). -/
def hostUp (s : State) : Bool := s.host.rate != 0 && s.host.bme && !s.host.d3hot

/-- Events are held through ACTIVATE and the BOOT that follows it (R332). -/
def eventsHeld (s : State) : Bool := s.sys.mode == .activate || (s.sys.mode == .boot && s.sys.afterActivate)

/-- The queue can take an entry (R331, R332, R350). -/
def evqReady (s : State) : Bool :=
  s.host.evq.enable && hostUp s && !eventsHeld s && decide (s.host.evq.unread < 2 ^ s.host.evq.log2)

/-- PHASE of the entry with the given TAIL (R348, R349): 1 on the first pass, toggling at each wrap. -/
def evqPhase (q : Evq) : Nat := 1 - (q.tail >>> q.log2) % 2

/-- TYPE of EV_CMD_DONE. -/
def evCmdDone : Nat := 1

/-- Types that are forwarded to the station master (R488): EV_PORT_RETIRED, EV_GROUP_OFF, EV_UPDATE, EV_TEMP, EV_SECURITY, EV_MODE; and its own EV_CMD_DONE (R485). -/
def forwarded (type source : Nat) : Bool := [4, 9, 12, 13, 14, 15].contains type || (type == evCmdDone && source == 0x10)

/-! ### Faults -/

/-- A fault is active (R520). -/
def faultActive (s : State) (code res : Nat) : Bool := s.flt.active.any (fun a => a.code == code && a.res == res)

/-- Codes of Table 16.2 in increasing order with their default action, whether FAULT_POLICY may change it, and whether the fault stays active. -/
def faultTable : List (Nat × Nat × Bool × Bool) :=
  [(0x0101, 0, true, true), (0x0102, 2, true, true), (0x0201, 1, true, true), (0x0301, 0, true, true),
   (0x0302, 1, true, true), (0x0303, 1, true, true), (0x0304, 0, true, true), (0x0310, 3, true, false),
   (0x0401, 1, true, true), (0x0402, 2, true, true), (0x0403, 0, true, false), (0x0501, 1, true, true),
   (0x0502, 1, true, true), (0x0503, 1, true, true), (0x0504, 0, true, true), (0x0601, 0, true, true),
   (0x0602, 2, true, true), (0x0603, 2, true, true), (0x0604, 0, true, true)] ++
  [(0x0701, 2, true, true), (0x0702, 4, false, true), (0x0703, 5, false, false), (0x0704, 2, true, true),
   (0x0801, 0, true, false), (0x0802, 1, true, true), (0x0803, 1, true, true), (0x0804, 0, true, false),
   (0x0805, 1, true, true), (0x0806, 2, true, true), (0x0807, 5, false, false), (0x0901, 0, true, true),
   (0x0A01, 0, false, false), (0x0A02, 0, true, false), (0x0B01, 0, true, false), (0x0C01, 0, true, false)]

def faultRow (code : Nat) : Option (Nat × Nat × Bool × Bool) := faultTable.find? (fun r => r.1 == code)

/-- The action in force for a code (R518, R519). -/
def faultAction (s : State) (code : Nat) : Nat :=
  match faultRow code with
  | none => 0
  | some (_, d, free, _) => if free && tget 0 code s.flt.policy != 0 then tget 0 code s.flt.policy - 1 else d

/-- An active fault has action HOLD (R46, R520). -/
def holdActive (s : State) : Bool := s.flt.active.any (fun a => a.action == 2 || a.action == 4)

/-- FAULT_SUMMARY (Table 16.3). -/
def faultSummary (s : State) : Nat :=
  let cls := fun c => b2n (s.flt.active.any (fun a => a.code / 256 == c && decide (1 ≤ a.action)))
  sumN ((List.range 8).map (fun i => cls (i + 1) * 2 ^ i)) + 256 * b2n (holdActive s)

/-- FAULT_LAST (Table 16.3). -/
def faultLast (s : State) : Nat := ((s.flt.log.getLast?).map LogEntry.number).getD (s.flt.next - 1)

end Sys2Proof.Machine
end

