-- ==== Sys2Proof/Machine/Operands.lean ====
section
/-! DEFINITION. The forms of a request: its fields and flags, the adjustment of its values, its LENGTH, and the error answers (R338 to R345, R358, R375). -/

namespace Sys2Proof.Machine

open Sys2Proof

/-- A latched request in service. src 0 to 3 is the mailbox, 4 the station master. -/
structure Req where
  src    : Nat
  seq    : Nat
  token  : Nat
  opcode : Nat
  flags  : Nat
  length : Nat
  params : List Byte
deriving DecidableEq, Repr

def Req.u8 (r : Req) (o : Nat) : Nat := field r.params o 1
def Req.u16 (r : Req) (o : Nat) : Nat := field r.params o 2
def Req.u32 (r : Req) (o : Nat) : Nat := field r.params o 4
def Req.u64 (r : Req) (o : Nat) : Nat := field r.params o 8
def Req.s8 (r : Req) (o : Nat) : Int := toS 8 (r.u8 o)
def Req.s16 (r : Req) (o : Nat) : Int := toS 16 (r.u16 o)
def Req.s32 (r : Req) (o : Nat) : Int := toS 32 (r.u32 o)
def Req.isRead (r : Req) : Bool := bit r.flags 0
def Req.isClear (r : Req) : Bool := bit r.flags 1
def Req.isStaged (r : Req) : Bool := bit r.flags 2

/-- A byte of range 0 to 1 whose values carry no names: a larger value takes the nearest, 1 (R344). -/
def Req.flag (r : Req) (o : Nat) : Nat := Nat.min (r.u8 o) 1

/-- An enumeration byte: codes below n are defined, any other takes the default (R345). -/
def Req.enum (r : Req) (o n d : Nat) : Nat := if r.u8 o < n then r.u8 o else d

/-- An error answer (Table 10.11) with the data of Table 11.12 where it carries any. -/
structure Err where
  status : Nat
  detail : Nat := 0
  index  : Nat := 0xFFFFFFFF
  code   : Nat := 0
  extra  : Nat := 0
deriving DecidableEq, Repr

def Err.badLength (d : Nat) : Err := { status := 0x11, detail := d }
def Err.tableFull (c : Nat) : Err := { status := 0x13, detail := c }
def Err.busy (family : Nat) : Err := { status := 0x14, detail := family * 256 }
def Err.wrongMode (m : Mode) (cond : Nat) : Err := { status := 0x12, detail := m.code + 256 * cond }
def Err.implausible (d : Nat) : Err := { status := 0x20, detail := d }
def Err.retired (i cause : Nat) : Err := { status := 0x30, detail := i, index := i, code := cause }
def Err.authFailed : Err := { status := 0x50 }

/-- IMPLAUSIBLE, RETIRED and JOB_FAILED carry 16 bytes of data (R375). -/
def Err.data (e : Err) : List Byte :=
  if e.status = 0x20 || e.status = 0x30 || e.status = 0x40 then layout 16 [(0, 4, e.index), (4, 4, e.code), (8, 8, e.extra)] else []

/-- A fixed LENGTH. -/
def fixedLen (n : Nat) (r : Req) : Option Nat := if r.length = n then none else some n

/-- A count of 1 to m entries of a size, and the LENGTH that it requires (R358). -/
def countLen (n m size want : Nat) (r : Req) : Option Nat := if n = 0 || m < n then some size else fixedLen want r

/-- The parameter bytes are those of LENGTH: what the Control Core checks of a latched request (R346, log 93). -/
def Req.sound (r : Req) : Bool := r.params.length == Nat.min r.length 4088

/-- A list of entries of e bytes after a fixed part, 1 to m entries (R358). -/
def listLen (fixed e m : Nat) (r : Req) : Option Nat :=
  if fixed < r.length && (r.length - fixed) % e = 0 && (r.length - fixed) / e ≤ m then none else some e

end Sys2Proof.Machine
end

