-- ==== Sys2Proof/Machine/Ops.lean ====
section
/-! DEFINITION. The operations every family shares: time, outputs, interrupts, events, faults, and the judging and serving of a request (chapters 10, 11, 16). -/

namespace Sys2Proof.Machine

open Sys2Proof

/-- A command happens at instant t: the time base never runs back (log 1). -/
def State.at (t : Nat) (s : State) : State := { s with now := Nat.max s.now t }

/-- Log an output (log 3). -/
def emit (o : Out) (s : State) : State := { s with out := o :: s.out }

/-- What a slew has corrected by instant t, at 500 ppm (R491, log 70). -/
def slewed (c : TimeSt) (t : Nat) : Int :=
  let n : Int := ((t - c.slewAt) / 2000 : Nat)
  if 0 ≤ c.slew then (if n < c.slew then n else c.slew) else (if -n > c.slew then -n else c.slew)

/-- Station time at an instant (R489), u64. -/
def stationAt (s : State) (t : Nat) : Nat := ofS 64 ((t : Int) + s.time.offset + slewed s.time t)

/-- The station time of this instant. -/
def stationTime (s : State) : Nat := stationAt s s.now

/-! ### Interrupts (R352) -/

/-- The message of a vector; every signal of the event queue's VECTOR clears ARMED, whatever raised it (R353). -/
def fire (v : Nat) (s : State) : State := emit (.msix v) { s with host.evq.armed := s.host.evq.armed && v != s.host.evq.vector }

/-- A vector signals, or sets its pending bit while its entry is masked; no message goes out while the device writes nothing to the host (R331, log 87). -/
def signal (v : Nat) (s : State) : State :=
  if (tget {} v s.host.msix).ctrl % 2 = 1 then { s with host.pba := setBit s.host.pba v true }
  else if hostUp s then fire v s else s

/-- A signal of the event queue's VECTOR clears ARMED (R353). -/
def signalEvq (s : State) : State :=
  signal s.host.evq.vector { s with host.evq.armed := false }

/-- In RESET the endpoint is reset and answers nothing (R332). -/
def onBar (f : State → State) (s : State) : State := if s.sys.mode = .reset then s else f s

/-! ### Events (R348 to R353) -/

/-- The 32 bytes of an entry (Table 10.15). -/
def entryBytes (q : Evq) (e : Event) : List Byte :=
  layout 16 [(0, 1, e.type), (1, 1, evqPhase q + 2 * b2n q.lostFlag + 4 * b2n e.unsync), (2, 2, e.source), (4, 4, e.eseq), (8, 8, e.time)]
    ++ slice e.payload 0 16

/-- Write one entry and signal as R353 states. -/
def writeEntry (e : Event) (s : State) : State :=
  let q := s.host.evq
  let s := emit (.hostWrite (q.base + 32 * (q.tail % 2 ^ q.log2)) (entryBytes q e)) s
  let q' := { q with tail := wrapInc 32 q.tail, lostFlag := false }
  let s := { s with host.evq := q' }
  if q.armed then
    let s := { s with host.evq.armed := false }
    if q.coalesce = 0 || 32 ≤ q'.unread then signalEvq { s with host.evq.due := [] }
    else { s with host.evq.due := q.due ++ [s.now + q.coalesce * 1000] }
  else if !q.due.isEmpty && 32 ≤ q'.unread then signalEvq { s with host.evq.due := [] }
  else s

/-! ### Station frames (R478 to R480) -/

/-- The device may send an NSP frame (R476, R481); it is silent while STN_LOST is active (Table 16.4). -/
def nspReady (s : State) : Bool := s.stn.up && s.stn.cfg.enable == 1 && s.sec.stationKey.isSome && !faultActive s 0x0901 0xFFFF

/-- TAG of R479 over the two addresses and the bytes from VERSION to the end of PAYLOAD. -/
def nspTag (key dst src : Nat) (body : List Byte) : List Byte := (cmac (leBytes 32 key) (leBytes 6 dst ++ leBytes 6 src ++ body)).take 8

/-- An Ethernet II frame from the station MAC address (R475, R478): both addresses, the EtherType in network order, the bytes from VERSION to TAG, and padding to 64 bytes with the 4 of the frame check sequence, which the MAC adds (log 93). -/
def stationFrame (s : State) (mac : Nat) (body : List Byte) : List Byte :=
  let f := leBytes 6 mac ++ leBytes 6 (Config.stationMac).toNat ++ beBytes 2 s.stn.cfg.etherType ++ body
  f ++ zeros (60 - f.length)

/-- Send an NSP frame (R478, Table 15.1). The collisions that it meets on the bus are counted (R477). -/
def nspSend (mac kind dst : Nat) (payload : List Byte) (s : State) : State :=
  if !nspReady s then s
  else
    let valid := b2n (s.time.state == 2 || s.time.state == 3)
    let head := layout 24 [(0, 1, 1), (1, 1, kind), (2, 1, s.stn.cfg.nodeId), (3, 1, dst), (4, 2, payload.length), (6, 2, valid), (8, 4, s.stn.boot), (12, 4, s.stn.seq), (16, 8, stationTime s)]
    let tag := nspTag (s.sec.stationKey.getD 0) mac (Config.stationMac).toNat (head ++ payload)
    let hits := (Config.collisions (s.stn.boot * 2 ^ 32 + s.stn.seq)).toNat
    emit (.station mac kind s.stn.seq (stationFrame s mac (head ++ payload ++ tag)))
      { s with stn.seq := wrapInc 32 s.stn.seq, stn.cnt := { s.stn.cnt with tx := satInc 32 s.stn.cnt.tx, coll := satInc 32 s.stn.cnt.coll hits } }

/-- To MASTER_MAC. -/
def nspMaster (kind : Nat) (payload : List Byte) (s : State) : State := nspSend s.stn.cfg.mac kind s.stn.cfg.master payload s

/-- Post an event: it takes the next ESEQ, goes to the station master where R488 says so, and is written, held or discarded (R350). -/
def post (type source : Nat) (payload : List Byte) (s : State) : State :=
  let q := s.host.evq
  let e : Event := { type := type, source := source, eseq := q.eseq, time := stationTime s, unsync := unsync s, payload := payload }
  let s := { s with host.evq.eseq := wrapInc 32 q.eseq }
  let s := if forwarded type source && s.stn.cfg.master != 255 then nspMaster 4 (entryBytes q e) s else s
  if !q.everOn && type != evCmdDone then s
  else if evqReady s && q.hold.isEmpty then writeEntry e s
  else if type = evCmdDone then { s with host.evq.hold := q.hold ++ [e] }
  else if (q.hold.filter (fun h => h.type != evCmdDone)).length < 256 then { s with host.evq.hold := q.hold ++ [e] }
  else { s with host.evq.lost := satInc 32 q.lost, host.evq.lostFlag := true }

/-- Post at most one event per key and interval in ns (R379). A suppressed event takes no ESEQ. -/
def postLimited (interval type source kind : Nat) (payload : List Byte) (s : State) : State :=
  let key := type * 2 ^ 24 + source * 2 ^ 8 + kind
  let last := tget 0 key s.host.evq.limited
  if last != 0 && s.now < last - 1 + interval then s
  else post type source payload { s with host.evq.limited := tset 0 key (s.now + 1) s.host.evq.limited }

/-- One held event is written once space appears (R350). -/
def drainOne (s : State) : State :=
  match s.host.evq.hold with
  | [] => s
  | e :: r => if evqReady s then writeEntry e { s with host.evq.hold := r } else s

/-! ### Faults (R517 to R529) -/

/-- A log entry as FAULT_LOG returns it (Table 11.11). -/
def logBytes (e : LogEntry) : List Byte := layout 20 [(0, 4, e.number), (4, 2, e.code), (6, 2, e.res), (8, 8, e.time), (16, 1, e.action)] ++ slice e.data 0 12

/-- Its 32-bit CMAC tag under the log key (R528). -/
def entryTag (e : LogEntry) : List Byte := (cmac (leBytes 32 (Config.logKey).toNat) (logBytes e)).take 4

/-- Append an entry to the fault log, dropping the oldest past 4096 (R528). -/
def logFault (code res action : Nat) (data : List Byte) (s : State) : State :=
  let e : LogEntry := { number := s.flt.next, code := code, res := res, time := stationTime s, action := action, data := slice data 0 12 }
  let l := s.flt.log ++ [{ e with tag := entryTag e }]
  { s with flt.log := if 4096 < l.length then l.drop 1 else l, flt.next := s.flt.next + 1, flt.sinceReset := s.flt.sinceReset + 1 }

/-- DATA of an entry: a count of 1, then the fault's own record (R528). -/
def faultData (count : Nat) (own : List Byte) : List Byte := leBytes 4 count ++ slice own 0 8

/-- Raise a fault (R517): log it, keep it active, and call for its action; a fault of action RESET is logged at the next boot (R528). groups names the safety groups of a GROUP_OFF, 0 for every group. -/
def raiseWith (code res : Nat) (data : List Byte) (groups : Nat) (s : State) : State :=
  let act := faultAction s code
  if act = 5 then { s with flt.resetReq := true, flt.atBoot := s.flt.atBoot ++ [(code, res)] } else
  let s := logFault code res act data s
  let stays := match faultRow code with | some (_, _, _, b) => b | none => false
  let s := if stays && !(s.flt.active.any (fun a => a.code == code && a.res == res)) then
      { s with flt.active := s.flt.active ++ [{ code := code, res := res, action := act }] } else s
  let s := if act = 2 || act = 4 then
      { s with flt.holdReq := some (match s.flt.holdReq with | none => code | some c => Nat.min c code) } else s
  if act = 3 || act = 4 then { s with flt.groupReq := s.flt.groupReq ++ [(if groups = 0 || act = 4 then 255 else groups, code, res)] } else s

def raise (code res : Nat) (s : State) : State := raiseWith code res (faultData 1 []) 0 s

/-- A fault's condition clears (R520). -/
def clearFault (code res : Nat) (s : State) : State :=
  { s with flt.active := s.flt.active.filter (fun a => !(a.code == code && a.res == res)) }

def clearFaults (code : Nat) (s : State) : State :=
  { s with flt.active := s.flt.active.filter (fun a => !(a.code == code)) }

/-! ### Requests (R338 to R347, R375) -/

/-- What a request that passes does: its response data, the resource of an ACCEPTED command, and its effect. -/
structure Done where
  data     : List Byte := []
  accepted : Option Nat := none
  act      : State → State := id
  /-- The response waits for the PENDING frames that the effect makes due (R397). -/
  waits    : State → Bool := fun _ => false
  /-- Status and DETAIL of the response: OK, but for a refusal that still acts (R243, R534). -/
  status   : Nat := 0
  detail   : Nat := 0

/-- A refusal that acts (R243, R534). -/
def Done.refused (e : Err) (act : State → State) : Done := { data := e.data, act := act, status := e.status, detail := e.detail }

/-- One command of the command set: opcode, LENGTH check (none is right, else the DETAIL), modes, and the checks and effect of the request. -/
structure Cmd where
  opcode  : Nat
  len     : Req → Option Nat
  modes   : Mode → Bool
  run     : Req → State → Except Err Done
  /-- The read form, where it has one: LENGTH and response data (R361). -/
  readLen : Option (Req → Option Nat) := none
  read    : Req → State → Except Err (List Byte) := fun _ _ => .ok []
  /-- What FLAGS.CLEAR of the read form clears (R361). -/
  clear   : Req → State → State := fun _ s => s
  /-- Legal in RECOVERY (R52). -/
  inRec   : Bool := false

/-- The request that source src has latched. -/
def latchedReq (s : State) (src : Nat) : Req :=
  let m := s.host.mbs.getD src {}
  { src := src, seq := m.seq, token := m.token, opcode := m.latched.opcode, flags := m.latched.flags, length := m.latched.length, params := m.latched.params }

/-- Write the response and enter DONE (R340), before anything the command causes (R351). -/
def respond (r : Req) (status detail : Nat) (data : List Byte) (s : State) : State :=
  let m := s.host.mbs.getD r.src {}
  let rsp := layout 16 [(0, 2, status), (2, 2, r.opcode), (4, 4, r.seq), (8, 4, r.token), (12, 2, data.length), (14, 2, detail)] ++ data
  let s := { s with host.mbs := s.host.mbs.set r.src { m with rsp := rsp, state := .done }, host.order := s.host.order.erase r.src, host.held := s.host.held.erase r.src }
  if m.rspIrq && r.src < 4 then signal (1 + r.src) s else s

/-- Accepted commands of one source not yet completed. -/
def outstandingOf (s : State) (src : Nat) : List Pend := s.host.outstanding.filter (fun p => p.src == src)

/-- EV_CMD_DONE entries of one source that wait in the hold: their commands are not yet completed (R350). -/
def heldDone (s : State) (src : Nat) : List Event := s.host.evq.hold.filter (fun e => e.type == evCmdDone && e.source == (if src = 4 then 0x10 else src))

/-- OUTSTANDING of a source (R341, R350). -/
def slotsUsed (s : State) (src : Nat) : Nat := (outstandingOf s src).length + (heldDone s src).length

/-- The opcode of the source's oldest accepted command not yet completed (R341): the one whose SEQ lies furthest back. -/
def oldestOpcode (r : Req) (s : State) : Nat :=
  (((heldDone s r.src).map (fun e => (field e.payload 4 4, field e.payload 0 2)) ++ (outstandingOf s r.src).map (fun p => (p.seq, p.opcode))).foldl
    (fun (acc : Option (Nat × Nat)) e => match acc with | some b => if mdist 32 b.1 r.seq < mdist 32 e.1 r.seq then some e else acc | none => some e) none).elim 0 Prod.snd

/-- Step 3 of R343 for a command or its read form. In RECOVERY the station master's commands are all refused (R485). -/
def legal (c : Cmd) (reading : Bool) (src : Nat) (m : Mode) : Bool :=
  if m = .recovery then c.inRec && src != 4 else if reading then m.all else c.modes m

/-- The judgement of R343 in its order. -/
def judge (c : Cmd) (r : Req) (s : State) : Except Err Done :=
  let reading := c.readLen.isSome && r.isRead
  match (if reading then (c.readLen.getD (fun _ => none)) r else c.len r) with
  | some d => .error (.badLength d)
  | none =>
    if !legal c reading r.src s.sys.mode then .error (.wrongMode s.sys.mode 0)
    else
      match (if reading then (c.read r s).map (fun d => { data := d, act := if r.isClear then c.clear r else id : Done }) else c.run r s) with
      | .error e => .error e
      | .ok d =>
        if d.accepted.isSome && 16 ≤ slotsUsed s r.src then .error { status := 0x14, detail := oldestOpcode r s / 256 * 256 + 1 }
        else .ok d

/-- INTERNAL: logged, with the entry's number in DETAIL (R346). -/
def answerInternal (r : Req) (s : State) : State := raise 0x0B01 r.opcode (respond r 0xFF (s.flt.next % 2 ^ 16) [] s)

/-- Keep the response of a request back; the mailbox stays BUSY. -/
def holdAnswer (r : Req) (status detail : Nat) (data : List Byte) (s : State) : State :=
  { s with host.mbs := s.host.mbs.set r.src { s.host.mbs.getD r.src {} with answer := some (status, detail, data) } }

/-- The response that a source's request waits for is written. -/
def giveAnswer (src : Nat) (s : State) : State :=
  let m := s.host.mbs.getD src {}
  match m.answer with
  | some (status, detail, data) => respond (latchedReq s src) status detail data { s with host.mbs := s.host.mbs.set src { m with answer := none } }
  | none => s

/-- Serve a latched request: response first, then its effect (R351), but for a response that waits (R397). -/
def serveReq (c : Cmd) (r : Req) (s : State) : State :=
  if !r.sound then answerInternal r s else
  match judge c r s with
  | .error e => respond r e.status e.detail e.data s
  | .ok d =>
    match d.accepted with
    | none => d.act (if d.waits s then holdAnswer r d.status d.detail d.data s else respond r d.status d.detail d.data s)
    | some res =>
      d.act { (respond r 1 0 d.data s) with host.outstanding := s.host.outstanding ++ [{ src := r.src, seq := r.seq, token := r.token, opcode := r.opcode, res := res }] }

/-- Update commands that R377 orders across the sources. -/
def updOpcode (op : Nat) : Bool := [0x0C10, 0x0C11, 0x0C13, 0x0C14, 0x0C15].contains op

/-- The request of a source is its turn to be served: it has not been served and waits for its response (R397), doorbells held before mailbox service go in doorbell order (R53), and update commands in order of arrival (R377). -/
def itsTurn (s : State) (src : Nat) : Bool :=
  let op := fun (i : Nat) => (s.host.mbs.getD i {}).latched.opcode
  (s.host.mbs.getD src {}).answer.isNone &&
  (!(s.host.held.contains src) || s.host.held.head? == some src) &&
  (!(updOpcode (op src)) || (s.host.order.filter (fun i => updOpcode (op i))).head? == some src)

/-- A request of this command is latched and BUSY at the source, and mailbox service runs. -/
def canServe (c : Cmd) (src : Nat) (s : State) : Bool :=
  let m := s.host.mbs.getD src {}
  s.sys.service && m.state == .busy && m.latched.opcode == c.opcode && itsTurn s src

/-- The service of a command row: nothing happens where its source holds no such request (log 16). -/
def serve (c : Cmd) (src : Nat) (s : State) : State :=
  if canServe c src s then serveReq c (latchedReq s src) s else s

/-- EV_CMD_DONE of an accepted command (Table 11.14); the station master's carries SOURCE 0x0010 (R378). -/
def postDone (p : Pend) (status detail result : Nat) (s : State) : State :=
  post evCmdDone (if p.src = 4 then 0x10 else p.src)
    (layout 16 [(0, 2, p.opcode), (2, 2, status), (4, 4, p.seq), (8, 4, p.token), (12, 2, detail), (14, 2, result)]) s

/-- Complete the oldest accepted command that f picks (R341, R377). -/
def complete (f : Pend → Bool) (status detail result : Nat) (s : State) : State :=
  match s.host.outstanding.find? f with
  | none => s
  | some p => postDone p status detail result { s with host.outstanding := s.host.outstanding.erase p }

/-- Complete every accepted command that f picks, oldest first. -/
def completeAll (f : Pend → Bool) (status detail : Nat) (s : State) : State :=
  (s.host.outstanding.filter f).foldl (fun s p => postDone p status detail 0 { s with host.outstanding := s.host.outstanding.erase p }) s

def ofOpcode (op : Nat) (p : Pend) : Bool := p.opcode == op
def ofOpRes (op res : Nat) (p : Pend) : Bool := p.opcode == op && p.res == res

/-- The key of a request among the accepted commands. -/
def reqKey (r : Req) : Nat := r.src * 2 ^ 32 + r.seq

/-- JOB_FAILED. -/
def jobFailed : Nat := 0x40

/-- A staged write is refused while the bank is armed or not yet released (R56, R59), or while a grade owns its table (R61). -/
def stagedBusy (owned : Bool) (s : State) : Option Err :=
  if owned && s.banks.grade then some (.busy 6)
  else if s.banks.armed || s.banks.old.isSome then some (.busy 1) else none

/-- A request to the HBM stack takes it out of self-refresh and starts the 100 µs of R25 anew. -/
def touchHbm (s : State) : State := { s with clk.refresh := false, clk.lastHbm := s.now }

/-- Memory bytes that BAR2 shows: an unlisted byte reads 0 (log 4). -/
def hbmRead (s : State) (a : Nat) : Byte := tget 0 (a % 2 ^ 34) s.hbm

def hbmWrite (a : Nat) (bs : List Byte) (s : State) : State :=
  { s with hbm := (withIdx' a bs).foldl (fun m e => tset 0 (e.1 % 2 ^ 34) e.2 m) s.hbm }
where
  withIdx' (i : Nat) : List Byte → List (Nat × Byte)
    | [] => []
    | b :: r => (i, b) :: withIdx' (i + 1) r

/-- The canonical form of the memory: addresses rising, no byte equal to what an unlisted one reads as (log 4). -/
def Memory.wf (m : List Host.Cell) : Bool := twf (0 : Byte) m

/-- n bytes from an offset of the host load area, read while the command runs: each 64-byte block holds what it held at the doorbell or what it holds now, freely (R337, R561, log 73). -/
def readLoad (was : List Host.Cell) (o n : Nat) (s : State) : List Byte :=
  (List.range n).map (fun i =>
    if (Config.freeValue (s.free + ((o + i) / 64 - o / 64))).toNat % 2 = 0 then tget 0 ((o + i) % 2 ^ 34) was else hbmRead s (o + i))

/-- The draws of a read of n bytes, and the request to the stack (R25). -/
def drewLoad (n : Nat) (s : State) : State := touchHbm { s with free := s.free + n / 64 + 2 }

/-- The load area at the doorbell of the request that a source holds. -/
def areaOf (s : State) (src : Nat) : List Host.Cell := (s.host.mbs.getD src {}).area

/-- The load-area check of R561: alignment and range within 64 MiB. -/
def areaOk (o n align : Nat) : Bool := o % align == 0 && decide (o + n ≤ 64 * 2 ^ 20)

end Sys2Proof.Machine
end

