-- ==== Sys2Proof/Machine/AuxOps.lean ====
section
/-! DEFINITION. Auxiliary sensing: ranges, polynomials, trims, the publication of results, visits, the cross-check and self-calibration (chapter 14, R252 to R256). -/

namespace Sys2Proof.Machine

/-- Auxiliary sensing runs (R450). -/
def anaOn (m : Mode) : Bool := m.all || m == .activate

def auxCh (s : State) (c : Nat) : AuxCh := s.aux.chs.getD c {}

def modAux (c : Nat) (f : AuxCh → AuxCh) (s : State) : State := { s with aux.chs := nmod {} s.aux.chs c f }

def auxConv (s : State) (x : Nat) : Converter := s.aux.convs.getD x {}

def modConv (x : Nat) (f : Converter → Converter) (s : State) : State := { s with aux.convs := nmod {} s.aux.convs x f }

def auxAmp (s : State) (m : Nat) : Amp := s.aux.amps.getD m {}

def modAmp (m : Nat) (f : Amp → Amp) (s : State) : State := { s with aux.amps := nmod {} s.aux.amps m f }

/-- AUXn_STATUS[15:0] (Table 14.3). -/
def auxStatus (a : AuxCh) : Nat :=
  b2n a.ovr + 2 * b2n a.open' + 4 * b2n a.suspect + 8 * b2n a.stale + 16 * b2n a.rangeStep + 32 * b2n a.valid + 256 * a.rseq

/-- AGE in 10 µs. -/
def auxAge (now : Nat) (a : AuxCh) : Nat :=
  match a.tEnd with
  | none => 0xFFFF
  | some t => Nat.min ((now - t) / 10000) 0xFFFF

/-- The most recent good result of a channel, and whether the channel is bad now (R467). -/
def auxGood (s : State) (c : Nat) : Option Int × Bool :=
  let a := auxCh s c
  (a.good, a.ovr || a.open' || a.suspect || a.stale)

/-- EV_AUX (R470): the channel as SOURCE, at most one per kind in 100 ms (R379). -/
def evAux (kind c : Nat) (s : State) : State :=
  let a := auxCh s c
  postLimited 100000000 11 c kind (layout 16 [(0, 1, kind), (4, 4, ofS 32 a.value), (8, 2, auxStatus a)]) s

/-! ### Ranges and full scale -/

/-- A CAIN source. -/
def isCain (src : Nat) : Bool := decide (0x20 ≤ src) && decide (src < 0x24)

/-- VEX source that a channel names, if any. -/
def vexOf (c : AuxCfg) : Option Nat := if c.excite = 0 then none else some ((c.excite - 1) / 2)

/-- GAIN in force (R449): an internal source converts at GAIN 1; a charge amplifier drives its own full scale. -/
def gainNow (c : AuxCfg) : Nat := if 0x20 ≤ c.source then 0 else c.gain

/-- Reference of a channel: 0 internal, 1 VEXS0, 2 VEXS1 (R451, R455). -/
def refNow (c : AuxCfg) : Nat :=
  if c.iex != 0 || isCain c.source then 0 else match vexOf c with | none => 0 | some v => v + 1

/-- The range of R463. -/
def rangeIx (c : AuxCfg) : Nat := gainNow c * 3 + refNow c

/-- log2 of a converter's full scale in codes. -/
def convBits (x : Nat) : Nat := if x = 2 then 15 else 23

/-- Enabled channels of a converter. -/
def chansOn (s : State) (x : Nat) : List Nat :=
  (List.range 16).filter (fun c => (auxCh s c).cfg.enable == 1 && (auxCh s c).cfg.conv == x)

/-- The SHARED channel, where it is enabled on AD0 or AD1 (R461). -/
def sharedCh (s : State) : Option Nat :=
  (List.range 16).find? (fun c => let a := auxCh s c; a.cfg.shared == 1 && a.cfg.enable == 1 && decide (a.cfg.conv < 2))

/-- Ranges in use on a converter, increasing (R252): its channels', the shared channel's on both, and AD2's own at GAIN 1. -/
def rangesOn (s : State) (x : Nat) : List Nat :=
  let own := (chansOn s x).map (fun c => rangeIx (auxCh s c).cfg)
  let more := if x = 2 then [0] else match sharedCh s with | some c => [rangeIx (auxCh s c).cfg] | none => []
  sortN (own ++ more).eraseDups

/-! ### From code to engineering units (R463 to R466) -/

/-- Default polynomial of a source (R465). -/
def defaultPoly (src : Nat) : List F32 :=
  if 0x40 ≤ src then (List.range 15).map (fun i => (Config.factoryPoly src i).toNat)
  else (List.range 15).map (fun i => if i = 3 then (if isCain src then 0x47435000 else 0x3F800000) else 0)

def polyOf (a : AuxCh) : List F32 := a.poly.getD (defaultPoly a.cfg.source)

/-- The polynomial of R464. -/
def evalPoly (c : List F32) (tau x : F32) : F32 :=
  let a := fun i => ieeeAdd (ieeeMul (ieeeAdd (ieeeMul (c.getD (3 * i + 2) 0) tau) (c.getD (3 * i + 1) 0)) tau) (c.getD (3 * i) 0)
  let step := fun (y : F32) i => ieeeAdd (ieeeMul y x) (a i)
  step (step (step (step (a 4) 3) 2) 1) 0

/-- τ of R464. -/
def tauOf (s : State) (tempCh : Nat) : F32 :=
  if tempCh = 0xFE then f32Sub (f32OfFix (sumI s.flt.temps) 19) f25
  else if tempCh < 16 then (match (auxCh s tempCh).good with | some v => f32Sub (f32OfFix v 16) f25 | none => 0)
  else 0

/-- K × (16·raw − O), the corrected code in units of 2^−34. -/
def correctedCode (raw o k : Int) : Int := k * (16 * raw - o)

/-- x of R463; range is CA_RANGE for a CAIN source. -/
def normX (x : Nat) (cain : Bool) (range : Nat) (c : Int) : F32 :=
  if cain then f32OfRat c (2 ^ 49 * 10 ^ (3 - range)) else f32Round (decide (c < 0)) c (-34 - (convBits x : Int))

/-- near(y × 2^16) with its OVR (R466). -/
def toQ16 (y : F32) : Int × Bool :=
  if f32IsNaN y then (0, true)
  else if f32IsInf y then ((if f32Neg y then -(2 ^ 31) else 2 ^ 31 - 1), true)
  else
    let v := f32ToFix y 16
    (satS 32 v, decide (satS 32 v ≠ v))

/-- Conversion j of a trim ramp (R255, R466). -/
def rampF (a b : F32) (j : Nat) : F32 := if 64 ≤ j then b else ieeeAdd a (ieeeMul (ieeeSub b a) (f32OfFix (j : Int) 6))

def trimAt (f t : AuxTrim) (j : Nat) : AuxTrim := { y0 := rampF f.y0 t.y0 j, v0 := rampF f.v0 t.v0 j, g := rampF f.g t.g j }

/-- Conversion j of a coefficient ramp (R255). -/
def rampI (a b : Int) (j : Nat) : Int := if 64 ≤ j then b else a + roundUpDiv ((b - a) * (j : Int)) 64

/-- The coefficients of the next conversion of a ramp toward r, and its number (R255). -/
def CoefRamp.next (w : CoefRamp) (r : RangeCoef) : CoefRamp :=
  let j := Nat.min (w.j + 1) 64
  { w with j := j, o := if w.j = 64 then r.o else rampI w.fromO r.o j, k := if w.j = 64 then r.k else rampI w.fromK r.k j }

/-- A result is accepted (R255): a ramp starts from the range's old coefficients, or from those of the last conversion of a ramp in progress. -/
def CoefRamp.restart (w : CoefRamp) (old : RangeCoef) : CoefRamp :=
  { w with fromO := if w.j = 64 then old.o else if w.j = 0 then w.fromO else w.o, fromK := if w.j = 64 then old.k else if w.j = 0 then w.fromK else w.k, j := 0 }

/-- The ramp of a channel. -/
def AuxCh.ramp (a : AuxCh) : CoefRamp := { fromO := a.fromO, fromK := a.fromK, j := a.rampJ, o := a.coefO, k := a.coefK }

/-- One result of an internal source at GAIN 1 on AD2, tau 0: Q16.16 and OVR. -/
def internalValue (s : State) (src : Nat) (raw : Int) : Int × Bool :=
  let r := tget {} 0 (auxConv s 2).coefs
  let lim := clampI raw (-32768) 32767
  let (v, sat) := toQ16 (evalPoly (defaultPoly src) 0 (normX 2 false 0 (correctedCode lim r.o r.k)))
  (v, sat || decide (lim ≠ raw))

/-! ### Publication (R456, R467, R470 to R473) -/

/-- Channels that convert CAIN m. -/
def chansOfCain (s : State) (m : Nat) : List Nat :=
  (List.range 16).filter (fun c => (auxCh s c).cfg.enable == 1 && (auxCh s c).cfg.source == 0x20 + m)

/-- A pending change of CA_RANGE is done before a conversion that started after it (R472). -/
def ampReset (m tStart : Nat) (s : State) : State :=
  let a := auxAmp s m
  match a.pend with
  | none => s
  | some (r, tq) =>
    if tStart < tq then s
    else
      let s := modAmp m (fun a => { a with range := r, xHeld := a.xLast, tReset := (ceilN tq 1000 + 1) * 1000, held := true, pend := none }) (emit (.ampReset m r) s)
      (chansOfCain s m).foldl (fun s c => modAux c (fun a => { a with stepNext := true, ovrNext := false }) s) s

/-- Half an LSB of a CA_RANGE in x, compared with a magnitude. -/
def belowHalfLsb (term : F32) (range : Nat) : Bool :=
  let (m, e) := f32Parts term
  decide (m.natAbs * 2 ^ (e + 200).toNat * 10 ^ (3 - range) < 2 ^ 184)

/-- x of a CAIN conversion with the held term (R472), and the state with the amplifier's record. -/
def cainX (m tStart : Nat) (code : Int) (s : State) : F32 × State :=
  let a := auxAmp s m
  let x := normX 2 true a.range code
  if !a.held then (x, modAmp m (fun a => { a with xLast := x }) s)
  else
    let term := f32Mul a.xHeld (decayF32 (tStart - a.tReset))
    if belowHalfLsb term a.range then (x, modAmp m (fun a => { a with xLast := x, held := false }) s)
    else let y := f32Add x term; (y, modAmp m (fun a => { a with xLast := y }) s)

/-- A channel whose results are discarded now: its converter is retired, or its VEX source is off at its limit (R454, Table 16.4). -/
def auxBlocked (s : State) (a : AuxCh) : Bool :=
  (auxConv s a.cfg.conv).retired || (match vexOf a.cfg with | some v => s.aux.overload.getD v false | none => false)

/-- Set STALE and hold the value. -/
def auxStale (c : Nat) (s : State) : State :=
  modAux c (fun a => { a with stale := true, staleSince := if a.stale then a.staleSince else s.now }) s

/-- The events of one result (R470): old is the channel before it. -/
def auxEvents (c : Nat) (old : AuxCh) (s : State) : State :=
  let a := auxCh s c
  let newOpen := a.open' && !old.open'
  let newOvr := a.ovr && !old.ovr
  let cleared := (bit old.raised 0 && !a.ovr) || (bit old.raised 1 && !a.open') || bit old.raised 3 || (bit old.raised 4 && !a.rangeStep)
  let keep := (if bit old.raised 0 && a.ovr || (newOvr && !newOpen) then 1 else 0) + (if bit old.raised 1 && a.open' || newOpen then 2 else 0) + 16 * b2n a.rangeStep
  let s := modAux c (fun a => { a with raised := keep }) s
  let s := if newOpen then evAux 2 c s else if newOvr then evAux 1 c s else s
  let s := if a.rangeStep then evAux 5 c s else s
  let s := if cleared then evAux 9 c s else s
  if old.open' && !a.open' then clearFault 0x0504 c s else s

/-- Publish the result of a conversion of channel c that ended now and started at tStart. The flag tells whether its code was clamped. -/
def publish (c : Nat) (raw : Int) (tStart : Nat) (s : State) : State :=
  let cain := isCain (auxCh s c).cfg.source
  let m := (auxCh s c).cfg.source - 0x20
  let s := if cain then ampReset m tStart s else s
  let a := auxCh s c
  let x := a.cfg.conv
  let full : Int := ((2 ^ convBits x : Nat) : Int)
  let code := clampI raw (-full) (full - 1)
  let clamped := decide (code ≠ raw)
  let r := tget {} (rangeIx a.cfg) (auxConv s x).coefs
  let w := a.ramp.next r
  let cc := correctedCode code w.o w.k
  let (xv, s) := if cain then cainX m tStart cc s else (normX x false 0 cc, s)
  let s := if cain && clamped && (auxAmp s m).pend.isNone then
      (chansOfCain s m).foldl (fun s c => modAux c (fun a => { a with ovrNext := true }) s) (emit (.ampReset m (auxAmp s m).range) s) else s
  if tStart < a.keepFrom || auxBlocked s a then s
  else
    let quiet := cain && (auxAmp s m).pend.isNone
    let y := evalPoly (polyOf a) (tauOf s a.tempCh) xv
    let tj := Nat.min (a.trimJ + 1) 64
    let tr := if a.trimJ = 64 then a.trimTo else trimAt a.trimFrom a.trimTo tj
    let (v, sat) := toQ16 (ieeeAdd tr.v0 (ieeeMul tr.g (ieeeSub y tr.y0)))
    let ovr := clamped || a.ovrNext || sat
    let run := if a.cfg.burnout != 0 && x != 2 && decide (full - 1 < raw) then a.openRun + 1 else 0
    let op := if !clamped then false else a.open' || decide (2 ≤ run)
    let sus := s.aux.suspect && x != 2
    let good := !ovr && !op && !sus
    let cal := a.cal.map (fun q => if q.samples ≤ q.ys.length then q else { q with ys := if good then y :: q.ys else [] })
    let a' : AuxCh :=
      { a with trim := tr, trimJ := tj, coefO := w.o, coefK := w.k, rampJ := w.j, ovr := ovr, open' := op, suspect := sus, stale := false,
               rangeStep := a.stepNext, valid := true, rseq := wrapInc 8 a.rseq, value := v, tEnd := some s.now,
               good := if good then some v else a.good, openRun := run,
               openSince := if op && !a.open' then s.now else a.openSince, stepNext := false,
               ovrNext := (clamped || sat) && quiet, cal := cal }
    let s := if quiet && sat && !clamped then (chansOfCain s m).foldl (fun s c => modAux c (fun a => { a with ovrNext := true }) s) (emit (.ampReset m (auxAmp s m).range) s) else s
    auxEvents c a (modAux c (fun _ => a') s)

/-! ### Visits of AD0 and AD1 (R452, R453, R458) -/

/-- L_f in ns (R458). -/
def filterLatency (c : AuxCfg) : Nat :=
  if c.conv = 2 then 1000
  else
    let m50 := if c.notch % 2 = 1 then c.rate * 20 / 1000000 else 0
    let m60 := if 2 ≤ c.notch then c.rate / 60000 else 0
    let n := b2n (c.notch % 2 == 1) + b2n (decide (2 ≤ c.notch))
    ((if c.filter = 0 then 3 else 4) + m50 + m60 - n) * 10 ^ 12 / c.rate

/-- 1 ÷ RATE in ns. -/
def ratePeriod (c : AuxCfg) : Nat := 10 ^ 12 / c.rate

/-- The order of a ΔΣ converter: visit id, channel, settling delay in ns. -/
def visits (s : State) (x : Nat) : List (Nat × Nat × Nat) :=
  if s.aux.seq.mode = 0 then (chansOn s x).map (fun c => (c, c, 100000))
  else
    ((List.range s.aux.seq.slots).map (fun i => let e := s.aux.seq.entries.getD i (0, 0); (i, e.1, e.2 * 10000))).filter
      (fun v => let a := auxCh s v.2.1; decide (v.2.1 < 16) && a.cfg.enable == 1 && a.cfg.conv == x)

/-- The order visits exactly one channel, which converts continuously (R453). -/
def oneChannel (vs : List (Nat × Nat × Nat)) : Bool := (vs.map (fun v => v.2.1)).eraseDups.length == 1

/-- The visit in progress. -/
def visitNow (s : State) (x : Nat) : Option (Nat × Nat × Nat) :=
  match (auxConv s x).visit with
  | none => none
  | some id => (visits s x).find? (fun v => v.1 == id)

/-- The visit after id, wrapping. -/
def visitAfter (vs : List (Nat × Nat × Nat)) (id : Nat) : Option Nat :=
  match vs.find? (fun v => decide (id < v.1)) with
  | some v => some v.1
  | none => vs.head?.map Prod.fst

/-- The source that a visit converts (R452): a single-ended AINm gives its pair in FIXED_PAIRS. -/
def visitSource (s : State) (c : AuxCfg) : Nat :=
  if s.aux.seq.mode = 0 && decide (0x10 ≤ c.source) && decide (c.source < 0x20) then (c.source - 0x10) / 2 else c.source

/-- What the multiplexer carries for a channel; with IEX off no pin is steered. -/
def muxOf (s : State) (c : Nat) : MuxSet :=
  let g := (auxCh s c).cfg
  { source := visitSource s g, gain := gainNow g, ref := refNow g, iex := g.iex, pinA := if g.iex = 0 then 0 else g.pinA, pinB := if g.iex = 0 then 0 else g.pinB, burnout := g.burnout }

/-- Where the current sources and the burn-out current flow: the burn-out into a source's inputs. -/
def MuxSet.currents (m : MuxSet) : Nat × Nat × Nat × Nat × Nat := (m.iex, m.pinA, m.pinB, m.burnout, if m.burnout = 0 then 0 else m.source + 1)

/-- The multiplexer of x switches (R453). -/
def setMux (x : Nat) (m : MuxSet) (s : State) : State :=
  emit (.mux x m.source m.gain m.ref m.iex m.pinA m.pinB m.burnout) (modConv x (fun k => { k with muxWas := k.mux, mux := m }) s)

/-- No visit follows: the current sources and the burn-out currents are off (R455, R456). -/
def muxOff (x : Nat) (s : State) : State :=
  let m := (auxConv s x).mux
  if m.iex = 0 && m.burnout = 0 then s else setMux x { m with iex := 0, pinA := 0, pinB := 0, burnout := 0 } s

/-- The effective settling delay (R453): the visit in progress switches a current where the multiplexer's last switch did. -/
def settleOf (s : State) (x : Nat) (settle : Nat) : Nat :=
  let k := auxConv s x
  Nat.max settle (Nat.max (if k.lastOvr then 20000 else 0) (if k.mux.currents = k.muxWas.currents then 0 else 500000))

/-- A check falls due at the conversion of the shared channel that its primary p starts now (R461, R462). -/
def checkDue (s : State) (p : Nat) : Bool :=
  match sharedCh s, visitNow s p with
  | some c, some (_, v, _) =>
    c == v && (auxCh s c).cfg.conv == p && (s.aux.suspect || decide ((auxCh s c).cfg.every ≤ s.aux.since + 1)) &&
      (auxConv s (1 - p)).running.isNone && !(auxConv s (1 - p)).retired && !(auxConv s p).retired
  | _, _ => false

/-- The multiplexer of x takes its visit's channel now, or carries no current where there is none. -/
def placeMux (x : Nat) (s : State) : State :=
  let s := modConv x (fun k => { k with tMux := s.now, converted := false }) s
  match visitNow s x with
  | some (_, c, _) => setMux x (muxOf s c) s
  | none => muxOff x s

/-- The primary starts a conversion: where a check falls due, the secondary ends its own and switches to the shared source, and both wait for the settling delay (R461). -/
def beginJoint (p : Nat) (s : State) : State :=
  match checkDue s p, sharedCh s with
  | true, some c =>
    let s := modConv p (fun k => { k with tMux := s.now, converted := false }) s
    let s := modConv (1 - p) (fun k => { k with tMux := s.now, converted := false, ending := none }) s
    setMux (1 - p) (muxOf s c) { s with aux.joint := some p }
  | _, _ => s

/-- A check in progress is given up: the secondary goes back to its visit. -/
def leaveJoint (s : State) : State :=
  match s.aux.joint with
  | some p => placeMux (1 - p) { s with aux.joint := none }
  | none => s

/-- The multiplexer switches now; the secondary of a check in progress does so when the check is over. -/
def switchTo (x : Nat) (v : Option Nat) (s : State) : State :=
  let s := modConv x (fun k => { k with visit := v, ending := none }) s
  match s.aux.joint with
  | some p => if p = x then beginJoint x (placeMux x (leaveJoint s)) else s
  | none => beginJoint x (placeMux x s)

/-- A visit whose channel is gone moves on, after a conversion in progress of it (R73); a converter with nothing to visit starts with its first. -/
def fixVisit (x : Nat) (s : State) : State :=
  if (auxConv s x).ending.isSome then s else
  match visitNow s x with
  | some _ => s
  | none =>
    match (auxConv s x).visit with
    | some id => switchTo x (visitAfter (visits s x) id) s
    | none => if (visits s x).isEmpty then s else switchTo x ((visits s x).head?.map Prod.fst) s

/-- Two x deviate (R461). -/
def deviate (a b : F32) (limit : Nat) : Bool :=
  let (ma, ea) := f32Parts a
  let (mb, eb) := f32Parts b
  let d := (ma * ((2 ^ (ea + 200).toNat : Nat) : Int) - mb * ((2 ^ (eb + 200).toNat : Nat) : Int)).natAbs
  decide (limit * 2 ^ 200 < d * 1000000)

/-- SUSPECT sets (R462). -/
def setSuspect (c p : Nat) (s : State) : State :=
  let s := { s with aux.suspect := true, aux.agreements := 0 }
  let s := (chansOn s 0 ++ chansOn s 1).foldl (fun s c => modAux c (fun a => { a with suspect := true }) s) s
  let s := modConv 0 (fun k => { k with suspectSince := s.now }) (modConv 1 (fun k => { k with suspectSince := s.now }) s)
  raise 0x0501 p (evAux 3 c s)

/-- SUSPECT clears (R462). -/
def clearSuspect (c : Nat) (s : State) : State :=
  let s := { s with aux.suspect := false, aux.deviations := 0, aux.agreements := 0 }
  let s := (List.range 16).foldl (fun s c => modAux c (fun a => { a with suspect := false }) s) s
  clearFaults 0x0501 (evAux 9 c s)

/-- The cross-check at a conversion of the shared channel c by its primary p (R461, R462); ovr tells whether the primary's result carries OVR. Both converters use the coefficients of their ramps (R255). -/
def crossCheck (c p : Nat) (raw sec : Int) (ovr : Bool) (s : State) : State :=
  let a := auxCh s c
  let full : Int := 2 ^ 23
  let ok := fun (r : Int) => decide (-full ≤ r) && decide (r < full)
  let co := fun x => tget {} (rangeIx a.cfg) (auxConv s x).coefs
  let w0 := a.ramp.next (co p)
  let w1 := s.aux.second.next (co (1 - p))
  let xv := fun x (r : Int) => let w := if x = p then w0 else w1; normX x false 0 (correctedCode r w.o w.k)
  let s := { s with aux.since := 0, aux.second := w1 }
  if ovr || !(ok raw && ok sec) then s
  else if deviate (xv p raw) (xv (1 - p) sec) a.cfg.limit then
    let n := s.aux.deviations + 1
    let s := { s with aux.deviations := n, aux.agreements := 0 }
    if decide (3 ≤ n) && !s.aux.suspect then setSuspect c p s else s
  else
    let n := s.aux.agreements + 1
    let s := { s with aux.deviations := 0, aux.agreements := n }
    if decide (8 ≤ n) && s.aux.suspect then clearSuspect c s else s

/-- The instant at which the conversion of a visit in progress may end at the earliest: the first of a visit follows its settling delay, both converters' in a check; the only channel of a converter converts continuously (R453, R461). -/
def readyAt (s : State) (x c settle : Nat) : Nat :=
  let k := auxConv s x
  let a := auxCh s c
  if s.aux.joint = some x then k.tMux + Nat.max (settleOf s x settle) (settleOf s (1 - x) settle) + filterLatency a.cfg
  else if oneChannel (visits s x) && k.converted then k.lastConv + ratePeriod a.cfg
  else k.tMux + settleOf s x settle + filterLatency a.cfg

/-- A conversion of AD0 or AD1 ends (R453, R461, R471). -/
def deltaSigma (x : Nat) (raw sec : Int) (s : State) : State :=
  let k := auxConv s x
  match visitNow s x with
  | none => s
  | some (id, c, settle) =>
    let a := auxCh s c
    let vs := visits s x
    let lf := filterLatency a.cfg
    if !(anaOn s.sys.mode) || decide (2 ≤ x) || k.running.isSome || k.ending.isSome || s.aux.joint == some (1 - x) || decide (s.now < readyAt s x c settle) then s
    else
      let full : Int := 2 ^ 23
      let clamp := fun (r : Int) => decide (r < -full) || decide (full ≤ r)
      let check := s.aux.joint == some x
      let s := if sharedCh s != some c then s else if check then crossCheck c x raw sec (auxCh (publish c raw (s.now - lf) s) c).ovr s else { s with aux.since := s.aux.since + 1 }
      let s := publish c raw (s.now - lf) s
      let s := modConv x (fun k => { k with lastConv := s.now, converted := true, lastOvr := clamp raw || ((auxCh s c).ovr && (auxCh s c).tEnd == some s.now) }) s
      let s := if check then leaveJoint (modConv (1 - x) (fun k => { k with lastOvr := clamp sec }) s) else s
      if oneChannel vs then beginJoint x (modConv x (fun k => { k with muxWas := k.mux }) s) else switchTo x (visitAfter vs id) s

/-! ### AD2 channels (R459, R460) -/

/-- The result channel bound to vibration. -/
def boundVib (s : State) : Option Nat :=
  if s.tr.cfg.vibChannel < 4 then
    (List.range 16).find? (fun c => (auxCh s c).cfg.enable == 1 && (auxCh s c).cfg.source == 0x20 + s.tr.cfg.vibChannel)
  else none

/-- When an AD2 channel is due: 1 ÷ RATE after its previous conversion (R459). -/
def auxDue (a : AuxCh) : Nat := if a.convAt = 0 then a.due else a.convAt - 1 + ratePeriod a.cfg

/-- The AD2 channel that is converted next: earliest due, ties to the lower number. -/
def nextAd2 (s : State) : Option Nat :=
  ((chansOn s 2).filter (fun c => boundVib s != some c)).foldl (fun b c =>
    match b with
    | none => some c
    | some d => if auxDue (auxCh s c) < auxDue (auxCh s d) then some c else some d) none

/-- An AD2 conversion of a channel ends. -/
def ad2Channel (c : Nat) (raw : Int) (s : State) : State :=
  publish c raw (s.now - 1000) (modAux c (fun a => { a with convAt := s.now + 1 }) s)

/-! ### Configuration (R448 to R460, R472, R473) -/

/-- VEX n is on, at the level of its EXCITE code; overloaded or unnamed it is off (R454). -/
def vexLevel (s : State) (n : Nat) : Nat :=
  if s.aux.overload.getD n false then 0
  else match (List.range 16).find? (fun c => (auxCh s c).cfg.enable == 1 && vexOf (auxCh s c).cfg == some n) with
    | some c => (auxCh s c).cfg.excite
    | none => 0

/-- An excitation change of a channel (R473). -/
def exciteHold (tx c : Nat) (s : State) : State :=
  modAux c (fun a => { a with keepFrom := Nat.max a.keepFrom (s.now + tx) }) (auxStale c s)

/-- Every channel that names a VEX source whose level differs from before is held. -/
def vexChanges (before : List Nat) (s : State) : State :=
  [0, 1].foldl (fun s n =>
    if vexLevel s n = before.getD n 0 then s
    else ((List.range 16).filter (fun c => (auxCh s c).cfg.enable == 1 && vexOf (auxCh s c).cfg == some n)).foldl (fun s c => exciteHold 2000000 c s) s) s

/-- What VEX n must carry: off where auxiliary sensing does not run (R450, R454). -/
def vexWanted (s : State) (n : Nat) : Nat := if anaOn s.sys.mode then vexLevel s n else 0

/-- The excitation sources follow the settings and the mode; a channel that names a source that changed holds (R473). -/
def vexStep (s : State) : State :=
  [0, 1].foldl (fun s n =>
    let w := vexWanted s n
    if w = s.aux.vex.getD n 0 then s
    else
      let s := emit (.vex n w) { s with aux.vex := s.aux.vex.set n w, aux.vexAt := s.aux.vexAt.set n (s.now + 1) }
      ((List.range 16).filter (fun c => (auxCh s c).cfg.enable == 1 && vexOf (auxCh s c).cfg == some n)).foldl (fun s c => exciteHold 2000000 c s) s) s

/-- RESET switches them off (R450). -/
def stopVex (s : State) : State := [0, 1].foldl (fun s n => if s.aux.vex.getD n 0 = 0 then s else emit (.vex n 0) s) s

/-- The notch's step of RATE in mS/s (R458); 0 for none. -/
def notchStep (n : Nat) : Nat := if n = 1 then 50000 else if n = 2 then 60000 else if n = 3 then 300000 else 0

/-- Sum of RATE over enabled AD2 channels but c and the bound one (R459). -/
def ad2Others (s : State) (c : Nat) : Nat :=
  sumN (((chansOn s 2).filter (fun i => i != c && boundVib s != some i)).map (fun i => (auxCh s i).cfg.rate))

/-- RATE as applied (R449, R458, R459); a channel that the request binds to vibration stands outside the sum. -/
def rateApplied (s : State) (c : Nat) (g : AuxCfg) (rate : Nat) : Nat :=
  if g.conv = 2 then
    let r := clampN rate 2500 1000000000
    let s := modAux c (fun a => { a with cfg := g }) s
    if g.enable = 1 && boundVib s != some c then Nat.max 2500 (Nat.min r (800000000 - ad2Others s c)) else r
  else
    let st := notchStep g.notch
    if st = 0 then clampN rate 2500 32000000 else clampN ((rate + st / 2) / st * st) st (32000000 / st * st)

/-- The values that an AUX_CFG applies (R449). -/
def auxCfgOf (s : State) (r : Req) : AuxCfg :=
  let src := let x := r.u8 3; if x < 8 || (decide (0x10 ≤ x) && decide (x < 0x24)) || (decide (0x40 ≤ x) && decide (x < 0x54)) then x else 0
  let conv := if isCain src then 2 else r.enum 2 3 0
  let g : AuxCfg :=
    { enable := r.flag 1, conv := conv, source := src, gain := if 0x40 ≤ src then 0 else Nat.min (r.u8 4) (if conv = 2 then 3 else 7), filter := r.enum 5 2 0,
      notch := r.enum 6 4 0, excite := r.enum 7 5 0, rate := 0, iex := r.enum 0x0C 7 0, pinA := Nat.min (r.u8 0x0D) 15,
      pinB := Nat.min (r.u8 0x0E) 15, burnout := r.enum 0x0F 4 0, caRange := r.enum 0x10 4 0, shared := r.flag 0x11,
      every := Nat.max 1 (r.u16 0x12), limit := r.u16 0x14 }
  { g with rate := rateApplied s (r.u8 0) g (r.u32 8) }

/-- The instant at which the conversion of a channel in progress on AD0 or AD1 ends; none where none runs. -/
def convEnds (s : State) (c : Nat) : Option Nat :=
  let x := (auxCh s c).cfg.conv
  let k := auxConv s x
  match visitNow s x with
  | some (_, v, settle) =>
    let started := if oneChannel (visits s x) && k.converted then k.lastConv else k.tMux + settleOf s x settle
    if v = c && decide (x < 2) && anaOn s.sys.mode && k.running.isNone && s.aux.joint != some (1 - x) && decide (started < s.now) && decide (s.now < readyAt s x c settle) then some (readyAt s x c settle) else none
  | none => none

/-- A channel that names a VEX source holds for 2 ms from the source's last change (R473). -/
def holdOnVex (c : Nat) (s : State) : State :=
  match vexOf (auxCh s c).cfg with
  | some n =>
    let t := s.aux.vexAt.getD n 0
    if (auxCh s c).cfg.enable = 1 && t != 0 && decide (s.now < t - 1 + 2000000) then exciteHold (t - 1 + 2000000 - s.now) c s else s
  | none => s

/-- Put a configuration in force (R448, R449, R454, R457, R472, R473). A conversion in progress of a channel that is disabled ends and is discarded (R73). -/
def applyAuxCfg (c : Nat) (g : AuxCfg) (s : State) : State :=
  let old := (auxCh s c).cfg
  let before := [vexLevel s 0, vexLevel s 1]
  let shared0 := sharedCh s
  let currents := fun (k : AuxCfg) => (k.iex, k.pinA, k.pinB, k.burnout)
  let steer := currents old != currents g && old.enable == 1 && g.enable == 1 && old.conv == g.conv && decide (g.conv < 2) && oneChannel (visits s g.conv)
  let moved := old.source != g.source || old.conv != g.conv
  let fresh := old.enable == 0 && g.enable == 1
  let stops := old.enable == 1 && g.enable == 0
  let ends := if stops then convEnds s c else none
  let s := if g.shared = 1 then (List.range 16).foldl (fun s i => modAux i (fun a => { a with cfg := { a.cfg with shared := 0 } }) s) s else s
  let s := match vexOf g with
    | none => s
    | some n =>
      let s := (List.range 16).foldl (fun s i => if vexOf (auxCh s i).cfg = some n then modAux i (fun a => { a with cfg := { a.cfg with excite := g.excite } }) s else s) s
      if s.aux.overload.getD n false then clearFault 0x0503 n { s with aux.overload := s.aux.overload.set n false } else s
  let prev := tget {} (rangeIx g) (auxConv s g.conv).prev
  let s := modAux c (fun a =>
    let a := { a with cfg := g, suspect := if g.conv = 2 then false else if fresh || old.conv = 2 then s.aux.suspect else a.suspect }
    let a := if old.conv != g.conv then { a with rampJ := 64 } else if rangeIx old != rangeIx g && a.rampJ < 64 then { a with fromO := prev.o, fromK := prev.k } else a
    let a := if moved then { a with poly := none, trim := {}, trimTo := {}, trimFrom := {}, trimJ := 64 } else a
    let a := if moved || fresh then { a with stepNext := false, ovrNext := false, convAt := 0, due := s.now } else a
    if stops then { a with valid := false } else a) s
  let s := if moved || old.enable != g.enable then auxStale c s else s
  let s := if fresh then modAux c (fun a => { a with rseq := 0, valid := false, openRun := 0, staleSince := s.now, keepFrom := s.now }) s else s
  let s := if isCain g.source && ((auxAmp s (g.source - 0x20)).range != g.caRange || (auxAmp s (g.source - 0x20)).pend.isSome) then
      modAmp (g.source - 0x20) (fun a => { a with pend := some (g.caRange, s.now) }) s else s
  let s := if fresh && isCain g.source && (auxAmp s (g.source - 0x20)).pend.isNone then emit (.ampReset (g.source - 0x20) (auxAmp s (g.source - 0x20)).range) s else s
  let s := holdOnVex c (vexChanges before s)
  let s := if steer then exciteHold 500000 c s else s
  let s := if sharedCh s = shared0 && (shared0 != some c || rangeIx old = rangeIx g) then s
    else if sharedCh s = shared0 then
      let w := tget {} (rangeIx g) (auxConv s (1 - g.conv)).prev
      { s with aux.second := { s.aux.second with fromO := w.o, fromK := w.k } }
    else { s with aux.since := 0, aux.deviations := 0, aux.agreements := 0, aux.second := {} }
  let s := if shared0 = some c && old != g then leaveJoint s else s
  let s := match ends with | some e => modConv old.conv (fun k => { k with ending := some (c, e) }) s | none => s
  let again := fun (x : Nat) (s : State) =>
    match visitNow s x with
    | some (id, v, _) => if v = c && old != g then switchTo x (some id) s else s
    | none => fixVisit x s
  again 1 (again 0 s)

/-- A channel that is being disabled still converts (R73). -/
def shuttingDown (s : State) (c : Nat) : Bool := s.aux.convs.any (fun k => k.ending.any (fun e => e.1 == c && decide (s.now < e.2)))

/-- Conversions of disabled channels end, and the requests that waited for them act and complete in their order (R73). -/
def auxStep (s : State) : State :=
  let ended := fun (x : Nat) (s : State) =>
    match (auxConv s x).ending with
    | some (_, e) => if e ≤ s.now then fixVisit x (modConv x (fun k => { k with ending := none }) s) else s
    | none => s
  let s := ended 1 (ended 0 s)
  s.aux.reopens.foldl (fun s e =>
    if shuttingDown s e.2.1 then s
    else complete (fun p => p.src * 2 ^ 32 + p.seq == e.1) 0 0 0 (applyAuxCfg e.2.1 e.2.2 { s with aux.reopens := s.aux.reopens.erase e })) s

/-- Auxiliary sensing starts again after BOOT (R450): each converter starts its order. -/
def startAna (s : State) : State :=
  [0, 1].foldl (fun s x => switchTo x ((visits s x).head?.map Prod.fst) s) (modConv 2 (fun k => { k with lastConv := s.now }) s)

/-- The currents that a RESET switches off (R450). -/
def stopMux (s : State) : State := muxOff 1 (muxOff 0 s)

/-- The reset that ends ACTIVATE switches every converter off (R450): visits, self-calibrations and checks end, and every enabled channel holds. DESIGN CHOICE (log 97): the CAL_RUN of such a self-calibration completes as failed. -/
def stopAna (s : State) : State :=
  let s := stopMux { s with aux.joint := none }
  let s := [0, 1, 2].foldl (fun s x =>
    let k := auxConv s x
    let s := modConv x (fun k => { k with visit := none, running := none, waiting := false, ending := none }) s
    if k.running.isSome || k.waiting then completeAll (ofOpRes 0x0601 (3 + x)) jobFailed 0 s else s) s
  (List.range 16).foldl (fun s c => if (auxCh s c).cfg.enable = 1 then auxStale c s else s) s

/-! ### Self-calibration (R252 to R256) -/

/-- A self-calibration may start: converter runs go one converter at a time (R222). -/
def calFree (s : State) : Bool := [0, 1, 2].all (fun x => (auxConv s x).running.isNone)

/-- It starts: a check in progress is given up, and the inputs of AD0 and AD1 carry no current (R253, R455). -/
def startSelfCal (x : Nat) (s : State) : State :=
  let s := if x < 2 then leaveJoint s else s
  let s := modConv x (fun k => { k with running := some (rangesOn s x), waiting := false, limits := s.cal.limits, lastRun := s.now, lastTemp := sumI s.flt.temps }) s
  if x = 2 then s else muxOff x ((chansOn s x).foldl (fun s c => auxStale c s) (modConv x (fun k => { k with ending := none }) s))

/-- It starts now, or when the calibration that stands in its way ends. -/
def askSelfCal (x : Nat) (s : State) : State :=
  if calFree s then startSelfCal x s else modConv x (fun k => { k with waiting := true }) s

/-- AUTO_PERIOD or AUTO_DT calls for a run (R256). -/
def autoDue (s : State) (x : Nat) : Bool :=
  let k := auxConv s x
  (k.autoPeriod != 0 && decide (k.lastRun + k.autoPeriod * 10 ^ 9 ≤ s.now)) ||
  (k.autoDt != 0 && decide ((k.autoDt * 524288 : Nat) < (sumI s.flt.temps - k.lastTemp).natAbs))

/-- Checks of one range (R252): AUX_OFFSET, AUX_GAIN, AUX_NOISE, and its new coefficients. -/
def rangeChecks (l : CalLimits) (x : Nat) (r : CalRange) : Nat × RangeCoef :=
  let fs : Int := ((2 ^ convBits x : Nat) : Int)
  let z := sumI r.zero
  let d := sumI r.ref - z
  let sq := sumI (r.zero.map (fun v => v * v))
  let k := if d ≤ 0 then 1073741824 else roundUpDiv (((Config.refTrue (x * 24 + r.range)).toNat : Int) * 16) d
  let noise : Nat := if x = 2 then l.auxNoise2 else l.auxNoise01
  let offBad := decide ((l.auxOff : Int) * fs * 16 < ((z.natAbs : Nat) : Int) * 1000000)
  let gainBad := decide (d ≤ 0) || decide ((l.auxGain : Int) * 1073741824 < (((k - 1073741824).natAbs : Nat) : Int) * 1000000)
  let noiseBad := decide (240 * ((noise : Int) * fs) * ((noise : Int) * fs) < (16 * sq - z * z) * 10 ^ 12)
  (512 * b2n offBad + 1024 * b2n gainBad + 2048 * b2n noiseBad, { o := z, k := k })

/-- Status of kind k after a result: acceptance counts (R257, R258). -/
def calResult (kind status checks : Nat) (s : State) : State :=
  let f := fun (c : CalKind) =>
    if status = 0 then { c with count := satInc 32 c.count, tLast := stationTime s, unsync := unsync s, status := 0, checks := 0 }
    else { c with status := status, checks := checks }
  { s with cal.kinds := nmod {} s.cal.kinds kind f }

/-- EV_CAL_DONE (Table 11.14). -/
def evCalDone (kind status checks state step steps side slot port out : Nat) (s : State) : State :=
  post 5 kind (layout 16 [(0, 2, status), (2, 2, checks), (4, 4, (s.cal.kinds.getD kind {}).count), (8, 1, state), (9, 1, step), (10, 1, steps),
    (11, 1, side), (12, 1, slot), (13, 1, port), (14, 2, out)]) s

/-- A converter retires (Table 16.4). -/
def retireConv (x : Nat) (s : State) : State :=
  if (auxConv s x).retired then s
  else
    let s := modConv x (fun k => { k with retired := true }) s
    raise 0x0502 x ((chansOn s x).foldl (fun s c => auxStale c s) s)

/-- Waiting self-calibrations start, AD0 first (R253, R256). -/
def kickSelfCal (s : State) : State :=
  [0, 1, 2].foldl (fun s x => if (auxConv s x).waiting && calFree s then startSelfCal x s else s) s

/-- A self-calibration of x ends with the conversions of its ranges (R252 to R256). -/
def endSelfCal (x : Nat) (rs : List CalRange) (s : State) : State :=
  match (auxConv s x).running with
  | none => s
  | some used =>
    let found := used.filterMap (fun i => rs.find? (fun r => r.range == i && r.zero.length == 16 && r.ref.length == 16))
    if found.length ≠ used.length then s
    else
      let res := found.map (fun r => (r.range, rangeChecks (auxConv s x).limits x r))
      let checks := res.foldl (fun n e => n ||| e.2.1) 0
      let chans := chansOn s x
      let s := modConv x (fun k => { k with running := none, lastRun := s.now }) s
      let s := if x = 2 then s else chans.foldl (fun s c => modAux c (fun a => { a with keepFrom := Nat.max a.keepFrom s.now, staleSince := s.now }) s) s
      let s := if x = 2 then s else switchTo x (auxConv s x).visit s
      let s :=
        if checks = 0 then
          let old := fun (a : AuxCh) => tget {} (rangeIx a.cfg) (auxConv s x).coefs
          let s := chans.foldl (fun s c => modAux c (fun a => let w := a.ramp.restart (old a); { a with fromO := w.fromO, fromK := w.fromK, rampJ := w.j }) s) s
          let s := match sharedCh s with
            | some c => if (auxCh s c).cfg.conv = x || x = 2 then s else { s with aux.second := s.aux.second.restart (old (auxCh s c)) }
            | none => s
          let s := modConv x (fun k => { k with prev := k.coefs, coefs := res.foldl (fun t e => tset {} e.1 e.2.2 t) k.coefs, refusals := 0 }) s
          let s := if (auxConv s x).retired then clearFault 0x0502 x (modConv x (fun k => { k with retired := false }) s) else s
          calResult (3 + x) 0 0 s
        else
          let bad := ((res.find? (fun e => e.2.1 != 0)).map Prod.fst).getD 255
          let s := calResult (3 + x) 0x20 checks { s with cal.kinds := nmod {} s.cal.kinds (3 + x) (fun c => { c with failRange := bad }) }
          let s := modConv x (fun k => { k with refusals := k.refusals + 1 }) s
          if 3 ≤ (auxConv s x).refusals then retireConv x s else s
      let s := evCalDone (3 + x) (if checks = 0 then 0 else 0x20) checks 0 0 0 0 0 0 0 s
      kickSelfCal (completeAll (ofOpRes 0x0601 (3 + x)) (if checks = 0 then 0 else 0x20) checks s)

/-! ### Trims (R466) -/

/-- Mean of binary32 values, exact and rounded once, and the sums that its noise needs: n, Σ and Σ² in units of 2^−149 and 2^−298. -/
def meanF (ys : List F32) : F32 × Int × Int :=
  let q := ys.map (fun y => let (m, e) := f32Parts y; m * ((2 ^ (e + 149).toNat : Nat) : Int))
  let s := sumI q
  (f32OfRat s (ys.length * 2 ^ 149), s, sumI (q.map (fun v => v * v)))

/-- A binary32 value in units of 2^−149. -/
def f32Units (b : F32) : Int := let (m, e) := f32Parts b; m * ((2 ^ (e + 149).toNat : Nat) : Int)

/-- The result of an AUX_CAL with its samples: its failed checks and the new trim. -/
def auxCalResult (l : CalLimits) (a : AuxCh) (q : AuxCal) : Nat × AuxTrim :=
  let (mean, sum, sq) := meanF q.ys
  let n : Int := (q.ys.length : Int)
  let span := (f32Units (f32Sub (evalPoly (polyOf a) 0 0x3F800000) (evalPoly (polyOf a) 0 0))).natAbs
  let noise : Nat := if a.cfg.conv = 2 then l.auxNoise2 else l.auxNoise01
  let noiseBad := decide (((noise * span * noise * span : Nat) : Int) * n * (n - 1) < (n * sq - sum * sum) * 10 ^ 12)
  let v := f32OfFix q.value 16
  if q.point = 0 then
    let off := (f32Units mean - q.value * ((2 ^ 133 : Nat) : Int)).natAbs
    let bad := decide (l.auxOff * span < off * 1000000)
    (512 * b2n bad + 2048 * b2n noiseBad, { a.trimTo with y0 := mean, v0 := v })
  else
    let den := f64Sub (f64OfF32 mean) (f64OfF32 a.trimTo.y0)
    if den.1 = 0 then (1024 + 2048 * b2n noiseBad, a.trimTo)
    else
      let num := f64Sub (f64Round q.value (-16)) (f64OfF32 a.trimTo.v0)
      let g := f32OfF64 (f64Div num den)
      let dev := (f32Units g - ((2 ^ 149 : Nat) : Int)).natAbs
      let bad := decide (l.auxGain * 2 ^ 149 < dev * 1000000)
      (1024 * b2n bad + 2048 * b2n noiseBad, { a.trimTo with g := g })

/-- A new trim starts its ramp (R466). -/
def startTrim (c : Nat) (t : AuxTrim) (s : State) : State :=
  let s := modAux c (fun a => { a with trimFrom := a.trim, trimTo := t, trimJ := 0 }) s
  calResult (3 + (auxCh s c).cfg.conv) 0 0 s

/-- AUX_CAL of channel c ends: by its samples, or by its bound (R466). -/
def endAuxCal (c : Nat) (s : State) : State :=
  let a := auxCh s c
  match a.cal with
  | none => s
  | some q =>
    let drop := modAux c (fun a => { a with cal := none }) s
    if q.samples ≤ q.ys.length then
      let (checks, t) := auxCalResult s.cal.limits a q
      if checks = 0 then complete (ofOpRes 0x0B05 c) 0 0 0 (startTrim c t drop)
      else complete (ofOpRes 0x0B05 c) 0x20 checks 0 drop
    else if q.deadline ≤ s.now then complete (ofOpRes 0x0B05 c) 0x40 1 0 drop
    else s

end Sys2Proof.Machine
end

