-- ==== Sys2Proof/Machine/PxMath.lean ====
section
/-! DEFINITION. Packets and the correction arithmetic of the pixel islands, to the bit (chapters 4 and 5). -/

namespace Sys2Proof.Machine

/-- One byte into the reflected CRC-32C (R132). -/
def crc32cByte (crc b : Nat) : Nat :=
  (List.range 8).foldl (fun c _ => if c % 2 = 1 then (c / 2) ^^^ 0x82F63B78 else c / 2) (crc ^^^ b)

/-- CRC-32C of bytes (R132). -/
def crc32c (bs : List Byte) : Nat := (bs.foldl (fun c b => crc32cByte c b.toNat) 0xFFFFFFFF) ^^^ 0xFFFFFFFF

/-- CRC-8/SMBUS (R136). -/
def crc8 (bs : List Byte) : Nat :=
  bs.foldl (fun c b => (List.range 8).foldl (fun c _ => if c < 128 then 2 * c else (2 * c - 256) ^^^ 7) (c ^^^ b.toNat)) 0

/-- A packet's fields (Table 4.4). -/
structure Packet where
  sync  : Nat
  tag   : Nat
  plane : Nat
  dark  : Bool
  inferred : Bool
  depth : Nat
  seg   : Nat
  last  : Bool
  firstCol : Nat
  count : Nat
  codes : List Nat
  sized : Bool
  crcOk : Bool
deriving DecidableEq, Repr

/-- Sample bits of a depth code; the reserved code 3 reads as 0. -/
def depthBits : Nat → Nat
  | 0 => 10 | 1 => 12 | 2 => 14 | _ => 0

/-- The packed codes of a bit stream (R131). -/
def unpackCodes (stream depth : Nat) : Nat → List Nat
  | 0 => []
  | n + 1 => stream % 2 ^ depth :: unpackCodes (stream >>> depth) depth n

/-- The number that 64-bit words spell, word 0 lowest. -/
def ofWords : List Word64 → Nat
  | [] => 0
  | w :: r => w.toNat + 2 ^ 64 * ofWords r

/-- The words of a packet as Table 4.4 lays them out. -/
def parsePacket (ws : List Word64) : Packet :=
  let w0 := (ws.getD 0 0).toNat
  let w1 := (ws.getD 1 0).toNat
  let d := depthBits (bits w0 52 2)
  let count := bits w1 16 13
  let s := ceilN (count * d) 64
  let body := ws.take (ws.length - 1)
  { sync := bits w0 0 32, tag := bits w0 32 16, plane := bits w0 48 2, dark := bit w0 50, inferred := bit w0 51,
    depth := d, seg := bits w0 54 3, last := bit w0 57, firstCol := bits w1 0 13, count := count,
    codes := unpackCodes (ofWords ((ws.drop 2).take s)) d count,
    sized := ws.length == 4 * ceilN (s + 3) 4,
    crcOk := crc32c (body.flatMap (fun w => leBytes 8 w.toNat)) == bits (ws.getLastD 0).toNat 0 32 }

/-- rnd(N, k) (R173). -/
def rnd (n k : Int) : Int := roundUpDiv n k

/-- Fields of a shading record (Table 5.1). -/
def recGain (r : Nat) : Nat := bits r 40 24
def recOffset (r : Nat) : Int := toS 20 (bits r 20 20)
def recTco (r : Nat) : Nat := bits r 12 8
def recDef (r : Nat) : Nat := bits r 10 2

/-- The dark reference D in U14.4 (R174). -/
def darkRef (codes : List Nat) : Nat :=
  let n := codes.length
  let sum := sumN codes
  if n = 0 then 0
  else if n ≤ 7 then (rnd (16 * (sum : Int)) (n : Int)).toNat
  else (rnd (16 * ((sum - maxN codes - minN 0 codes : Nat) : Int)) ((n - 2 : Nat) : Int)).toNat

/-- The collapse of one polynomial set at temperature T in Q16.16 °C (R170). -/
def collapse (set : List F32) (temp : Int) : List Int :=
  let k := fun i => set.getD i 0
  let tf := f32Sub (f32OfFix temp 16) f25
  let c0 := f32Add (f32Mul (f32Add (f32Mul (f32Add (f32Mul (k 9) tf) (k 7)) tf) (k 4)) tf) (k 0)
  let c1 := f32Add (f32Mul (f32Add (f32Mul (k 8) tf) (k 5)) tf) (k 1)
  let c2 := f32Add (f32Mul (k 6) tf) (k 2)
  [c0, c1, c2, k 3].map (fun c => satS 32 (f32ToFix c 28))

/-- The polynomial argument σ (R175). -/
def sigma (d : Nat) (b : Int) : Int :=
  clampI (if d = 10 then 4 * b else if d = 12 then b else rnd b 4) 0 65535

/-- The cubic p in S3.28 (R175). -/
def cubic (c : List Int) (s : Int) : Int :=
  let h3 := c.getD 3 0
  let h2 := satS 32 (rnd (h3 * s) (2 ^ 16) + c.getD 2 0)
  let h1 := satS 32 (rnd (h2 * s) (2 ^ 16) + c.getD 1 0)
  satS 32 (rnd (h1 * s) (2 ^ 16) + c.getD 0 0)

/-- Steps 1 to 3 for one sample (R174 to R176): code x, record r, coefficients c, term w, dark reference D. -/
def correct3 (d : Nat) (dark : Nat) (r : Nat) (c : List Int) (w : Nat) (x : Nat) : Int :=
  let b : Int := 16 * (x : Int) - (dark : Int) - recOffset r
  let p := cubic c (sigma d b)
  let g : Int := clampI (rnd ((recGain r : Int) * (w : Int)) (2 ^ 23)) 0 (2 ^ 24 - 1)
  let m := satS 32 (rnd (g * p) (2 ^ 24))
  rnd (m * b) ((2 ^ (14 + d) : Nat) : Int)

/-- The nearest good column at distance 1 to 8 from c toward lower (true) or higher device columns; cols pairs DEF and y by device order. -/
def nearGood (cols : List (Nat × Int)) (c : Nat) (left : Bool) : Option (Nat × Int) :=
  (List.range 8).findSome? (fun i =>
    let k := i + 1
    if left then (if k ≤ c then (match cols[c - k]? with | some (0, y) => some (k, y) | _ => none) else none)
    else (match cols[c + k]? with | some (0, y) => some (k, y) | _ => none))

/-- The repair of column c (R177): the new y, and whether it counts as repaired, as a fallback, as unrepaired. -/
def repairCol (cols : List (Nat × Int)) (c : Nat) (dy : Nat × Int) : Int × Nat × Nat × Nat :=
  let (df, y) := dy
  if df = 0 then (y, 0, 0, 0)
  else
    match df, nearGood cols c true, nearGood cols c false with
    | _, none, none => (y, 0, 0, 1)
    | 1, some (_, yl), _ => (yl, 1, 0, 0)
    | 1, none, some (_, yr) => (yr, 1, 1, 0)
    | 2, _, some (_, yr) => (yr, 1, 0, 0)
    | 2, some (_, yl), none => (yl, 1, 1, 0)
    | _, some (dl, yl), some (dr, yr) => (rnd (yl * (dr : Int) + yr * (dl : Int)) ((dl + dr : Nat) : Int), 1, 0, 0)
    | _, some (_, yl), none => (yl, 1, 1, 0)
    | _, none, some (_, yr) => (yr, 1, 1, 0)

/-- Pair every element with its index from i. -/
def withIdx {α : Type} (i : Nat) : List α → List (Nat × α)
  | [] => []
  | a :: r => (i, a) :: withIdx (i + 1) r

/-- Step 4 over a port's columns in device order, with the three counts. -/
def repairAll (cols : List (Nat × Int)) : List Int × Nat × Nat × Nat :=
  let rs := (withIdx 0 cols).map (fun (c, dy) => repairCol cols c dy)
  (rs.map (·.1), sumN (rs.map (·.2.1)), sumN (rs.map (·.2.2.1)), sumN (rs.map (·.2.2.2)))

/-- Device column of tile column c (R117). -/
def devCol (p : Nat) (cfg : PortCfg) (c : Nat) : Nat :=
  p * 5120 + (if cfg.reverse = 0 then c else cfg.columns - 1 - c)

/-- The TCO values that a port's records name (R163, R170); records not listed name set 0. -/
def tcosOf (t : Tbl Nat) (p : Nat) : List Nat :=
  let mine : Tbl Nat := t.filter (fun e => e.1 / 20480 == p)
  (mine.map (fun (e : Nat × Nat) => recTco e.2) ++ if mine.length < 20480 then [0] else []).eraseDups

/-- The coefficients of every set that the records of port p name, one collapse per TCO (R170, R190). DESIGN CHOICE (log 84): in increasing TCO, an order that the manual does not give. -/
def collapses (bank : Bank) (temp : Int) (p : Nat) : List (Nat × List Int) :=
  (sortN (tcosOf bank.shade p)).map (fun t => (t, collapse (tget polyReset t bank.poly) temp))

/-- The correction of one tile-plane-line (R156): corrected samples in device-column order, the counts of R177, and what R190 reports. -/
def correctLine (bank : Bank) (p q : Nat) (cfg : PortCfg) (temp : Int) (w : Nat) (dark codes : List Nat) :
    List Int × (Nat × Nat × Nat) × (Nat × List (Nat × List Int)) :=
  let dr := darkRef dark
  let recs := (List.range cfg.columns).map (fun i => tget shadeReset (4 * (p * 5120 + i) + q) bank.shade)
  let devCodes := if cfg.reverse = 0 then codes else codes.reverse
  let cs := collapses bank temp p
  let coef := fun t => ((cs.find? (fun e => e.1 == t)).map (·.2)).getD [0, 0, 0, 0]
  let ys := (recs.zip devCodes).map (fun (r, x) => (recDef r, correct3 cfg.depth dr r (coef (recTco r)) w x))
  let (out, rep, fb, un) := repairAll ys
  (out.map (satS 32), (rep, fb, un), (dr, cs))

/-- The running-white term of port p (R182) from the reference ports and terms of the two sides. DESIGN CHOICE (log 97): with both sides present and pL not below pR, the left term holds up to pL. -/
def rwTerm (l r : Option (Nat × Nat)) (p : Nat) : Nat :=
  match l, r with
  | none, none => 8388608
  | some (_, w), none => w
  | none, some (_, w) => w
  | some (pl, wl), some (pr, wr) =>
    if p ≤ pl then wl
    else if pr ≤ p then wr
    else (rnd ((wl : Int) * ((pr - p : Nat) : Int) + (wr : Int) * ((p - pl : Nat) : Int)) ((pr - pl : Nat) : Int)).toNat

end Sys2Proof.Machine
end

