-- ==== Sys2Proof/Machine/TransitMath.lean ====
section
/-! DEFINITION. The arithmetic of Transit: prediction, tracker, bar term and true position (chapter 3). Every right-hand side is computed exactly from the stored operands, rounded once to nearest with ties toward plus infinity, and saturated (R83). -/

namespace Sys2Proof.Machine

/-- The tracker's update at a measurement (R83): x̂, v̂, â after residual ε, for Δ > 0. -/
def trackUpdate (cfg : TransitCfg) (x v a : Int) (d : Nat) (z : Int) : Int × Int × Int :=
  let dd : Int := (d : Int)
  let xPre := satS 80 (sarRound (x * 2 ^ 41 + v * dd * 2 ^ 17 + a * dd * dd) 41)
  let vPre := satS 56 (sarRound (v * 2 ^ 16 + a * dd) 16)
  let eps := satS 48 (z - xPre)
  (satS 80 (sarRound (xPre * 2 ^ 15 + (cfg.alpha : Int) * eps) 15),
   satS 56 (roundUpDiv (vPre * dd + (cfg.beta : Int) * eps * 2 ^ 9) dd),
   satS 64 (roundUpDiv (a * dd * dd + 2 * (cfg.gamma : Int) * eps * 2 ^ 25) (dd * dd)))

/-- Δ = 0: the measurement updates the position only (R83). -/
def trackZero (cfg : TransitCfg) (x z : Int) : Int :=
  satS 80 (sarRound (x * 2 ^ 15 + (cfg.alpha : Int) * (z - x)) 15)

/-- The speed at the first measurement after STILL (R84). -/
def restartSpeed (z zPrev : Int) (d : Nat) : Int :=
  if d = 0 then 0 else satS 56 (roundUpDiv ((z - zPrev) * 2 ^ 24) (d : Int))

/-- x̂ extrapolated by τ ns, S63.16. -/
def extrapolate (tr : TransitSt) (tau : Int) : Int :=
  satS 80 (sarRound (tr.x * 2 ^ 41 + tr.v * tau * 2 ^ 17 + tr.a * tau * tau) 41)

/-- Δ as the tracker holds it: u32, saturating (Table 3.3). -/
def sinceLast (tr : TransitSt) (now : Nat) : Nat :=
  match tr.last with
  | none => 0
  | some m => Nat.min (now - m.t) 0xFFFFFFFF

/-- The tracked position at an instant; a report of the virtual encoder may carry a later timestamp than the instant (R81). -/
def trackedAt (tr : TransitSt) (now : Nat) : Int :=
  extrapolate tr (match tr.last with | none => 0 | some m => if m.t ≤ now then (sinceLast tr now : Int) else (now : Int) - (m.t : Int))

/-- The bar displacement at an instant (R85): d_b + v_b × τ since the last sample; 0 with no channel named. -/
def barAt (tr : TransitSt) (now : Nat) : Int :=
  if tr.cfg.vibChannel = 255 then 0
  else satS 32 (sarRound (tr.dB * 2 ^ 24 + tr.vB * ((now : Int) - (tr.tVib : Int))) 24)

/-- The corrected position x_c at an instant (Table 3.1). -/
def correctedAt (tr : TransitSt) (now : Nat) : Int := trackedAt tr now - barAt tr now

/-- A S63.16 position as a reported position (Table 3.1): nearest tick, ties toward plus infinity. -/
def reported (x : Int) : Int := sarRound x 16

/-- Grid position X_k, S63.16 (R75). -/
def gridPos (tr : TransitSt) (k : Nat) : Int := tr.x0 + (k : Int) * (tr.cfg.pitch : Int)

/-- One Newton step on A τ² + B τ + C at τ = n ÷ d (R88). -/
def newton (a b c : Int) (nd : Int × Int) : Option (Int × Int) :=
  let (n, d) := nd
  let den := d * (2 * a * n + b * d)
  let num := a * n * n - c * d * d
  if den = 0 then none else if den < 0 then some (-num, -den) else some (num, den)

/-- The bar term of the last measurement's time, kept for the predictions that follow from it (R88). -/
def keepBar (tr : TransitSt) : TransitSt :=
  match tr.last with
  | none => { tr with pD := 0, pV := 0 }
  | some m => { tr with pD := barAt tr m.t, pV := if tr.cfg.vibChannel = 255 then 0 else tr.vB }

/-- The predicted crossing time t_c of line k: two Newton steps from τ0, to the nearest ns with ties upward (R88). None while v̂ − v_b ≤ 0. It follows from the last measurement alone: a later sample of the bar does not move it. -/
def crossing (tr : TransitSt) (k : Nat) : Option Int :=
  match tr.last with
  | none => none
  | some m =>
    let dB := tr.pD
    let dv := tr.v - tr.pV
    if dv ≤ 0 then none
    else
      let c := (tr.x - dB - gridPos tr k) * 2 ^ 41
      let b := dv * 2 ^ 17
      match (newton tr.a b c (-c, b)).bind (newton tr.a b c) with
      | none => none
      | some (n, d) => some ((m.t : Int) + roundUpDiv n d)

/-- T_pred = pitch ÷ v̂ in ns, floor of half of it as R96 uses it; none for v̂ ≤ 0. -/
def halfPeriod (tr : TransitSt) : Option Nat :=
  if tr.v ≤ 0 then none else some (((tr.cfg.pitch : Int) * 2 ^ 24).fdiv (2 * tr.v)).toNat

/-- The deadline of R96 for centre t_p. -/
def deadlineOf (tr : TransitSt) (tp : Nat) : Nat :=
  tp + (match halfPeriod tr with | none => 1000000 | some h => Nat.min h 1000000)

/-- min(HORIZON_LINES × T_pred, HORIZON_TIME) in ns, T_pred rounded down (R89); 0 for v̂ ≤ 0. -/
def horizonSpan (tr : TransitSt) : Nat :=
  if tr.v ≤ 0 then 0
  else Nat.min (((tr.cfg.horizonLines : Int) * (tr.cfg.pitch : Int) * 2 ^ 24).fdiv tr.v).toNat tr.cfg.horizonTime

/-- The predicted start t_c − floor(E/2) of a line lies inside the horizon (R89). -/
def inHorizon (tr : TransitSt) (now : Nat) (ts : Int) : Bool := decide (ts ≤ (now : Int) + (horizonSpan tr : Int))

/-- Measurements that a verdict can still need: from the last one before the instant on (R97). -/
def keepMeas (before : Nat) : List Meas → List Meas
  | [] => []
  | m :: r => if m.t < before then [m] else m :: keepMeas before r

/-- The last measurement before t_p and the first at or after it (R96, R97), of a list with the newest first. -/
def bracket (tp : Nat) (l : List Meas) : Option Meas × Option Meas :=
  (l.find? (fun m => decide (m.t < tp)), (l.filter (fun m => decide (tp ≤ m.t))).getLast?)

/-- v̂ × 10^9 ÷ pitch ≥ f × V_MIN ÷ 4 in lines/s (R106). -/
def atLeastSpeed (tr : TransitSt) (quarters : Nat) : Bool :=
  decide ((quarters : Int) * (tr.cfg.vMin : Int) * (tr.cfg.pitch : Int) * 2 ^ 24 ≤ 4 * tr.v * 1000000000)

/-- One bar-acceleration sample a_b in Q16.16 m/s² (R85), with lam = 2π × VIB_HP × 10^−5 as a fraction. -/
def barUpdate (cfg : TransitCfg) (dB vB aB : Int) : Int × Int :=
  let den : Int := 2 ^ 640 * 100000
  let keep : Int := den - 2 * piNum * (cfg.vibHp : Int)
  let aT := satS 64 (roundUpDiv (cfg.vibSign * aB * (cfg.ticksPerM : Int) * 2 ^ 40) (10 ^ 18))
  let vB' := satS 56 (roundUpDiv (vB * keep * 2 ^ 16 + aT * 10000 * den) (den * 2 ^ 16))
  (satS 32 (roundUpDiv (dB * keep * 2 ^ 24 + vB' * 10000 * den) (den * 2 ^ 24)), vB')

/-- True position at measurement b with a the last measurement before t_p (R97), S63.16, without the bar term. -/
def interpolate (ma mb : Meas) (tp : Nat) : Int :=
  if ma.span != 0 && ma.edge = mb.edge && ma.down != mb.down then ma.z
  else roundUpDiv (ma.z * ((mb.t - ma.t : Nat) : Int) + (mb.z - ma.z) * ((tp - ma.t : Nat) : Int)) ((mb.t - ma.t : Nat) : Int)

/-- The count interval after the last measurement in the direction of travel: 256 ticks of a physical encoder (R97). -/
def clampAfter (m : Meas) (v x : Int) : Int :=
  if m.span = 0 then x else if 0 ≤ v then clampI x m.z (m.z + m.span) else clampI x (m.z - m.span) m.z

/-- The count interval that ends at z_b. -/
def clampBefore (m : Meas) (x : Int) : Int :=
  if m.span = 0 then x else if m.down then clampI x (m.z - m.span) m.z else clampI x m.z (m.z + m.span)

/-- The verdict of Table 3.6 for δ in S63.16. -/
def judgeDelta (cfg : TransitCfg) (regime : Regime) (delta : Int) : Verdict :=
  let p : Int := (cfg.pitch : Int)
  let mag : Int := (delta.natAbs : Int)
  if 256 * mag ≤ (cfg.tol : Int) * p then .commit
  else if 2 * mag ≤ p then .offcentre
  else if delta < 0 && regime != .spec then .withdraw
  else .squash

/-- O(p, q) in 1/64 pitch (R191); STAGGER is 0 for a trail-row port. -/
def offset64 (row : Nat) (b : BaseRec) (q : Nat) : Nat :=
  ((if row = 1 then b.stagger else 0) + b.dInt.getD q 0) * 64 + b.dFrac.getD q 0

/-- Seen position s = x + O(p, q) in 1/2^22 tick. -/
def seen22 (cfg : TransitCfg) (x : Int) (o64 : Nat) : Int := x * 64 + (o64 : Int) * (cfg.pitch : Int)

/-- A tile-plane-line of exposure L at seen position s lies at or beyond a Datum (R64, R102). -/
def reaches (d : Datum) (line : Nat) (o64 : Nat) (s22 : Int) : Bool :=
  if d.byPos then decide (d.pos * 2 ^ 22 ≤ s22) else decide (d.line ≤ line + o64 / 64)

/-- The repeat of a tile-plane-line: the id of the last Datum that it reaches, the first of the list where it reaches none. -/
def repeatOf (ds : List Datum) (line o64 : Nat) (s22 : Int) : Nat :=
  ds.foldl (fun r d => if reaches d line o64 s22 then d.id else r) ((ds.head?.map Datum.id).getD 0)

/-- The cue position C (R80): the corrected position at the cue's timestamp, nearest tick. -/
def cuePos (tr : TransitSt) (t : Nat) : Int := reported (correctedAt tr t)

/-- The WINDOW clamp of Table 2.6 with the PITCH in force. -/
def windowClamp (cfg : DatumCfg) (pitch : Nat) (w : Nat) : Nat :=
  Nat.min w (Nat.min (cfg.nominal / 4) ((cfg.cueOffset * 65536 - 8 * pitch) / 65536))

end Sys2Proof.Machine
end

