-- ==== Sys2Proof/Machine/AlnMath.lean ====
section
/-! DEFINITION. The along-web and cross-web kernels, stitching, the Selvedge scan, bins and codes (chapter 6). -/

namespace Sys2Proof.Machine

/-- A kernel tap: position u in S7.16, rank (later exposure or higher column), and the sample list it stands for; none where absent. -/
structure Tap where
  u    : Int
  rank : Int
  y    : Option Int
deriving DecidableEq, Repr

/-- Order taps by a key, ascending. -/
def insertTap (lt : Tap → Tap → Bool) (a : Tap) : List Tap → List Tap
  | [] => [a]
  | b :: r => if lt a b then a :: b :: r else b :: insertTap lt a r

def sortTaps (lt : Tap → Tap → Bool) (l : List Tap) : List Tap := l.foldr (insertTap lt) []

/-- Nearer to 0 first, the later exposure first among equals (R198). -/
def nearer (a b : Tap) : Bool :=
  decide (a.u.natAbs < b.u.natAbs) || (decide (a.u.natAbs = b.u.natAbs) && decide (b.rank < a.rank))

/-- Of two candidates with the same u the later exposure is kept (R197). -/
def dropSameU (l : List Tap) : List Tap :=
  l.filter (fun a => !(l.any (fun b => decide (b.u = a.u) && decide (a.rank < b.rank))))

/-- The taps of R198. -/
def selectTaps (cands : List Tap) : List Tap :=
  let l := sortTaps nearer (dropSameU cands)
  let neg := (l.filter (fun t => decide (t.u < 0))).take 2
  let pos := (l.filter (fun t => decide (0 ≤ t.u))).take 2
  let chosen := neg ++ pos
  let rest := l.filter (fun t => !chosen.contains t)
  sortTaps nearer (chosen ++ rest.take (4 - chosen.length))

/-- The raw Lagrange factor of tap i in S3.30 (R199): exact, rounded once with ties toward plus infinity. DESIGN CHOICE (log 97): a factor beyond the range of S3.30 is kept as it is. -/
def lagrange (ts : List Tap) (t : Tap) : Int :=
  let others := ts.filter (fun s => !(s == t))
  let num := others.foldl (fun r s => r * (-s.u)) 1
  let den := others.foldl (fun r s => r * (t.u - s.u)) 1
  if den < 0 then roundUpDiv (-num * 2 ^ 30) (-den) else if den = 0 then 0 else roundUpDiv (num * 2 ^ 30) den

/-- The final weights: the residual goes to the tap nearest to 0, which stands first (R199). -/
def weights (ts : List Tap) : List (Tap × Int) :=
  let ws := ts.map (lagrange ts)
  let res := 2 ^ 30 - sumI ws
  match ts, ws with
  | t :: tr, w :: wr => (t, if ts.length = 1 then 2 ^ 30 else w + res) :: tr.zip wr
  | _, _ => []

/-- The kernel's outcome at one sample (R199, R200). -/
inductive Kern where
  | value (y : Int)
  | absent
  | none
deriving DecidableEq, Repr

/-- The value of weighted taps; an absent drawn tap makes it absent. -/
def combine (ws : List (Tap × Int)) : Kern :=
  let drawn := ws.filter (fun tw => !(tw.2 == 0))
  if ws.isEmpty then .none
  else if drawn.any (fun tw => tw.1.y.isNone) then .absent
  else .value (satS 32 (rnd (sumI (drawn.map (fun tw => tw.2 * tw.1.y.getD 0))) (2 ^ 30)))

/-- The tap position u of candidate L for output line k (R197). -/
def tapPos (tr : TransitSt) (k o64 : Nat) (x : Int) : Int :=
  let p : Int := (tr.cfg.pitch : Int)
  satS 24 (roundUpDiv (((x - gridPos tr k) * 64 + (o64 : Int) * p) * 2 ^ 16) (64 * p))

/-- The candidates of port p and slot q for output line k of repeat rid (R196). -/
def candidates (win : List WinTpl) (p q k o64 rid : Nat) : List WinTpl :=
  let j := o64 / 64
  win.filter (fun w => w.port == p && w.slot == q && w.rid == rid
    && decide (k ≤ w.line + j + 3) && decide (w.line + j ≤ k + 2))

/-- One port and plane of an output line through the along-web kernel (R196 to R200): its samples, or why it is out. -/
inductive PlaneOut where
  | present (ys : List Int)
  | absent
  | uncovered
  | notEnabled
deriving DecidableEq, Repr

/-- Apply fixed weights to every column. -/
def weighColumns (ws : List (Int × List Int)) : Nat → List Int
  | 0 => []
  | n + 1 =>
    satS 32 (rnd (sumI (ws.map (fun (w, ys) => w * ys.headD 0))) (2 ^ 30))
      :: weighColumns (ws.map (fun (w, ys) => (w, ys.tail))) n

/-- The along-web kernel of one port and plane slot. -/
def alongWeb (tr : TransitSt) (win : List WinTpl) (p q k o64 rid columns : Nat) : PlaneOut :=
  let cs := candidates win p q k o64 rid
  let taps := cs.map (fun w => ({ u := tapPos tr k o64 w.x, rank := (w.line : Int), y := if w.absent then none else some 0 } : Tap))
  let ws := (weights (selectTaps taps)).filter (fun tw => !(tw.2 == 0))
  if cs.isEmpty then .uncovered
  else if ws.any (fun tw => tw.1.y.isNone) then .absent
  else .present (weighColumns (ws.map (fun (t, w) => (w, ((cs.find? (fun c => (c.line : Int) == t.rank)).map WinTpl.y).getD []))) columns)

/-- One enabled port on the stitched grid (R203): its start A in 1/64 column and its column count. -/
structure Placed where
  port : Nat
  a64  : Int
  cols : Nat
deriving DecidableEq, Repr

/-- The seam clamp of Table 6.3 under the columns of the two ports (R202). -/
def clampSeam (s : SeamRec) (c1 c2 : Nat) : SeamRec :=
  let ov := clampN s.overlap 16 (Nat.min 256 (Nat.min (c1 / 3) (c2 / 3)))
  { overlap := ov, offset := clampI s.offset (-(16 * (ov : Int))) (16 * (ov : Int) - 1), blend := Nat.min s.blend 252 }

/-- The enabled ports on the grid, in port order (R203). -/
def place (seams : Tbl SeamRec) : List (Nat × Nat) → List Placed
  | [] => []
  | (p, c) :: rest => go [] p c 0 rest
where
  go (acc : List Placed) (p c : Nat) (a : Int) : List (Nat × Nat) → List Placed
    | [] => acc ++ [⟨p, a, c⟩]
    | (p', c') :: rest =>
      let s := clampSeam (tget {} p seams) c c'
      go (acc ++ [⟨p, a, c⟩]) p' c' (a + ((c : Int) - (s.overlap : Int)) * 64 + s.offset) rest

/-- The stitched width W_S (R203). -/
def stitchedWidth (ps : List Placed) : Nat :=
  match ps.getLast? with
  | none => 0
  | some l => ((l.a64 + ((l.cols : Int) - 1) * 64).fdiv 64 + 1).toNat

/-- v_p(n) for a covering port (R204). -/
def portValue (pl : Placed) (ys : List Int) (n : Nat) : Int :=
  let c64 := (n : Int) * 64 - pl.a64
  let c := c64.fdiv 64
  if c * 64 = c64 then ys.getD c.toNat 0
  else
    let taps := [c - 1, c, c + 1, c + 2].filter (fun t => decide (0 ≤ t) && decide (t < (pl.cols : Int)))
    match combine (weights (selectTaps (taps.map (fun t => ({ u := (t * 64 - c64) * 2 ^ 10, rank := t, y := some (ys.getD t.toNat 0) } : Tap))))) with
    | .value y => y
    | _ => 0

/-- The left weight α(n) of a seam in Q0.16 (R205). -/
def seamAlpha (l r : Placed) (blend n : Nat) : Nat :=
  let os := ceilDiv r.a64 64
  let oe := (l.a64 + ((l.cols : Int) - 1) * 64).fdiv 64
  let v := oe - os + 1
  let b := clampI (blend : Int) 0 (if v < 4 then 0 else v - 4)
  let nr := os + (v - b).fdiv 2
  let x : Int := (n : Int)
  if x < nr then 65536 else if nr + b ≤ x then 0
  else (rnd ((2 * (nr + b - x) - 1) * 2 ^ 15) b).toNat

def covers (pl : Placed) (n : Nat) : Bool :=
  decide (pl.a64 ≤ (n : Int) * 64) && decide ((n : Int) * 64 ≤ pl.a64 + ((pl.cols : Int) - 1) * 64)

/-- The owner of a stitched column (R205). -/
def ownerOf (seams : Tbl SeamRec) (ps : List Placed) (n : Nat) : Nat :=
  match ps.filter (fun p => covers p n) with
  | [] => ((ps.getLast?).map Placed.port).getD 0
  | [p] => p.port
  | p :: r :: _ => if 2 ^ 15 ≤ seamAlpha p r (clampSeam (tget {} p.port seams) p.cols r.cols).blend n then p.port else r.port

/-- One stitched column of one plane (R205, R206); outs gives the present ports' samples. -/
def stitchCol (seams : Tbl SeamRec) (ps : List Placed) (outs : Nat → Option (List Int)) (n : Nat) : Smp :=
  match ps.filter (fun p => covers p n) with
  | [] => .fill (ownerOf seams ps n)
  | [p] => match outs p.port with | some ys => .v (portValue p ys n) | none => .fill p.port
  | p :: r :: _ =>
    match outs p.port, outs r.port with
    | some ys, some zs =>
      let al : Int := (seamAlpha p r (clampSeam (tget {} p.port seams) p.cols r.cols).blend n : Nat)
      .v (rnd (al * portValue p ys n + (2 ^ 16 - al) * portValue r zs n) (2 ^ 16))
    | some ys, none => .v (portValue p ys n)
    | none, some zs => .v (portValue r zs n)
    | none, none => .fill (ownerOf seams ps n)

/-- The seams at which a present port covers an out neighbour's share (SEAM_WIDENED). -/
def widenedSeams (ps : List Placed) (here : Nat → Bool) : Nat :=
  match ps with
  | [] => 0
  | a :: rest => go a rest
where
  go (a : Placed) : List Placed → Nat
    | [] => 0
    | b :: rest => (if here a.port != here b.port then 1 else 0) + go b rest

/-- A column enters, and holds (R208). -/
def svEnters (c : SvCfg) (s : Smp) : Bool :=
  match s with
  | .fill _ => false
  | .v y => if c.polarity = 0 then decide (c.hi ≤ y) else decide (y ≤ c.lo)

def svHolds (c : SvCfg) (s : Smp) : Bool :=
  match s with
  | .fill _ => false
  | .v y => if c.polarity = 0 then decide (c.lo ≤ y) else decide (y ≤ c.hi)

/-- The candidate in a scan order of columns: the first that enters and whose next SV_MIN_RUN − 1 columns hold. -/
def svScan (c : SvCfg) (row : List Smp) (up : Bool) (cols : List Nat) : Option Nat :=
  cols.find? (fun n =>
    svEnters c (row.getD n (.fill 0)) &&
    (List.range (c.minRun - 1)).all (fun i =>
      if up then svHolds c (row.getD (n + i + 1) (.fill 0))
      else decide (i + 1 ≤ n) && svHolds c (row.getD (n - i - 1) (.fill 0))))

/-- Left and right candidates of a stitched row of width W_S (R208). -/
def svCandidates (c : SvCfg) (row : List Smp) : Option Nat × Option Nat :=
  let top := row.length - 1
  let lf := Nat.min c.lFrom top
  let lt := Nat.min c.lTo top
  let rf := Nat.min c.rFrom top
  let rt := Nat.min c.rTo top
  (svScan c row true ((List.range (lt + 1 - lf)).map (lf + ·)),
   svScan c row false (((List.range (rf + 1 - rt)).map (rt + ·)).reverse))

/-- One measured line on one side (R209): the new side, and counts of miss, loss, acquisition. -/
def svStep (c : SvCfg) (s : SvSide) (cand : Option Nat) : SvSide × Nat × Nat × Nat :=
  let near := fun (a b : Nat) => decide (a ≤ b + c.jump) && decide (b ≤ a + c.jump)
  if s.locked then
    match cand with
    | some n => if near n s.edge then ({ s with edge := n, misses := 0 }, 0, 0, 0) else miss s
    | none => miss s
  else
    match cand with
    | none => ({ s with cand := none, count := 0 }, 0, 0, 0)
    | some n =>
      let k := match s.cand with | some m => if near n m then s.count + 1 else 1 | none => 1
      if c.acq ≤ k then ({ locked := true, edge := n, misses := 0, cand := none, count := 0 }, 0, 0, 1)
      else ({ s with cand := some n, count := k }, 0, 0, 0)
where
  miss (s : SvSide) : SvSide × Nat × Nat × Nat :=
    if c.loss ≤ s.misses + 1 then ({ s with locked := false, misses := 0, cand := none, count := 0 }, 1, 1, 0)
    else ({ s with misses := s.misses + 1 }, 1, 0, 0)

/-- The device-column form of an edge (R210). -/
def devEdge (seams : Tbl SeamRec) (ps : List Placed) (n : Nat) : Nat :=
  let p := ownerOf seams ps n
  match ps.find? (fun x => x.port == p) with
  | none => 0
  | some pl => p * 5120 + (clampI (rnd ((n : Int) * 64 - pl.a64) 64) 0 ((pl.cols : Int) - 1)).toNat

/-- The region clamp at receipt (R211, Table 6.6). -/
def clampRegion (r : Region) : Region :=
  let bin := fun b => if b = 2 ∨ b = 4 then b else 1
  let bx := bin r.binX
  let cf := Nat.min r.colFirst 163839
  let cl := clampN r.colLast cf 163839
  let w := cl - cf + 1
  let (cf, cl) :=
    if w < bx then (if 163839 < cf + bx - 1 then (163840 - bx, 163839) else (cf, cf + bx - 1))
    else (cf, cf + w / bx * bx - 1)
  { enable := Nat.min r.enable 1, colFirst := cf, colLast := cl, lineFirst := r.lineFirst,
    lineLast := Nat.max r.lineLast r.lineFirst, binX := bx, binY := bin r.binY,
    edgeMask := Nat.min r.edgeMask 1, margin := Nat.min r.margin 4096, maskCode := r.maskCode }

/-- Bins of a region after clipping to W_S in whole bins. -/
def regionBins (r : Region) (ws : Nat) : Nat :=
  if ws ≤ r.colFirst then 0 else (Nat.min (r.colLast + 1) ws - r.colFirst) / r.binX

/-- FILL or MASK_CODE at depth d (R120, R216). -/
def codeAt (c d : Nat) : Nat := bits c (16 - d) d

/-- The output code of a bin value (R216). -/
def quantise (black white : Int) (d : Nat) (y : Int) : Nat :=
  let w := if white ≤ black then black + 1 else white
  (clampI (rnd ((y - black) * ((2 ^ d - 1 : Nat) : Int)) (w - black)) 0 ((2 ^ d - 1 : Nat) : Int)).toNat

/-- One bin over the group's rows (R214): the first fill code in column order then line order, else the mean. -/
def binValue (rows : List (List Smp)) (c0 bx : Nat) : Smp :=
  let ss := (List.range bx).flatMap (fun i => rows.map (fun r => r.getD (c0 + i) (.fill 0)))
  match ss.find? (fun s => match s with | .fill _ => true | _ => false) with
  | some f => f
  | none => .v (rnd (sumI (ss.map (fun s => match s with | .v y => y | .fill _ => 0))) (ss.length : Int))

end Sys2Proof.Machine
end

