-- ==== Sys2Proof/Machine/Couplings.lean ====
section
/-! DEFINITION. What one subsystem asks of another (R21, Table 1.3), so that each chapter's operations stay in one file. -/

namespace Sys2Proof.Machine

/-- Port p of the state. -/
def portOf (s : State) (p : Nat) : Port := s.ports.list.getD p {}

def setPort (p : Nat) (x : Port) (s : State) : State := { s with ports.list := s.ports.list.set p x }

def modPort (p : Nat) (f : Port → Port) (s : State) : State := setPort p (f (portOf s p)) s

/-- Raise a counter of Table 4.14 by its index in table order. -/
def portCount (p i : Nat) (s : State) : State :=
  modPort p (fun x => { x with counters := nmod 0 x.counters i (satInc 32) }) s

def enabledPort (s : State) (p : Nat) : Bool := (portOf s p).cfg.enable == 1

def enabledPorts (s : State) : List Nat := (List.range 32).filter (enabledPort s)

/-- An enabled port that drives SYNC (R122): trained and not in an error event. -/
def inService (s : State) (p : Nat) : Bool := enabledPort s p && (portOf s p).state == .ready

/-- The enabled plane slots of a port, increasing. -/
def slotsOf (c : PortCfg) : List Nat := maskIdx 4 c.planes

/-- T_TILE in force at a port since its last training (R144). -/
def tTileOf (s : State) (p : Nat) : Nat := (portOf s p).tTile

/-- L_s of R90. -/
def leadTime (s : State) : Nat := 200 + maxN ((enabledPorts s).map (tTileOf s))

/-- The Baseline values of a port in force (R191, R192). -/
def baseOf (s : State) (p : Nat) : BaseRec := tget {} p s.banks.live.base

/-- O(p, q) in 1/64 pitch. -/
def offs (s : State) (p q : Nat) : Nat := offset64 (portOf s p).cfg.row (baseOf s p) q

/-- The look-ahead Λ: the largest O(p, q) of the enabled tile-planes in whole pitches, rounded up. -/
def lookAhead (s : State) : Nat :=
  maxN ((enabledPorts s).flatMap (fun p => (slotsOf (portOf s p).cfg).map (fun q => ceilN (offs s p q) 64)))

/-- A fixed Datum by id. -/
def datumById (s : State) (id : Nat) : Option Datum := s.datum.list.find? (fun d => d.id == id)

/-- The bank of a repeat (R58): live, the old one during an overlap, or the staged one of a Datum not yet passed. -/
def bankOf (s : State) (rid : Nat) : Bank :=
  match datumById s rid with
  | none => s.banks.live
  | some d =>
    if d.passed then (if d.gen = s.banks.gen then s.banks.live else s.banks.old.getD s.banks.live)
    else if d.holds then s.banks.staged else s.banks.live

/-- Repeat a line or tile-plane-line belongs to, by exposure, offset and position S63.16. -/
def ridAt (s : State) (line o64 : Nat) (x : Int) : Nat := repeatOf s.datum.list line o64 (seen22 s.tr.cfg x o64)

/-- Raise a counter of Table 3.13 by its index in table order. -/
def trCount (i n : Nat) (s : State) : State :=
  { s with tr.counters := nmod 0 s.tr.counters i (fun x => satInc 32 x n) }

/-- The encoder that Transit follows in the present mode (R87, R416): 4 is the virtual encoder. -/
def transitSource (s : State) : Nat :=
  match s.sys.mode with
  | .proof => s.proof.proofSource
  | .bench => s.proof.benchSource
  | _ => s.tr.cfg.source

/-- The modes in which Transit tracks position (Table 2.2). -/
def transitOn (m : Mode) : Bool :=
  match m with
  | .ready | .bench | .inline | .proof | .replay | .service | .hold => true
  | _ => false

/-- 48-bit line index as LINE_NO and EPOCH (R109). -/
def lineNo (k : Nat) : Nat := k % 2 ^ 32
def epochOf (k : Nat) : Nat := (k / 2 ^ 32) % 2 ^ 16

/-- The ports of the stitched grid under a bank: the enabled ports and their columns (R202, R203). -/
def gridOf (s : State) (b : Bank) : List Placed :=
  place b.seams ((enabledPorts s).map (fun p => (p, (portOf s p).cfg.columns)))

/-- A plane slot's colour-independent reference ports of running white under a settings record (R181). -/
def rwPort (first : Nat) : Option Nat := if first = 0xFFFFFFFF then none else some (first / 5120)

/-- The running-white terms and generations as a tile-plane-line latches them (R158, R189): without a change of this same instant. -/
def rwSeen (s : State) : List Nat × List Nat := if s.px.rwT = some s.now then (s.px.rwWas, s.px.genWas) else (s.px.rw.map RwState.w, s.px.rwGen)

/-- The running-white term of port p and slot q as a tile-plane-line latches it now (R182). DESIGN CHOICE (log 97): a strip whose last column lies below its first is present all the same, with no column to measure. -/
def rwNow (s : State) (c : SvCfg) (p q : Nat) : Nat :=
  if c.rwEnable = 0 || !bit c.rwPlanes q then 8388608
  else
    let side := fun (i : Nat) (first : Nat) => (rwPort first).map (fun rp => (rp, (rwSeen s).1.getD (4 * i + q) 8388608))
    rwTerm (side 0 c.rwLFirst) (side 1 c.rwRFirst) p

/-- The Baseline line store would exceed 9 175 040 samples under these port settings and delays (R193). -/
def baselineOver (cfg : Nat → PortCfg) (base : Tbl BaseRec) : Bool :=
  decide (9175040 < sumN ((List.range 32).map (fun p =>
    if (cfg p).enable = 1 then sumN ((slotsOf (cfg p)).map (fun q => ((tget {} p base).dInt.getD q 0 + 6) * (cfg p).columns)) else 0)))

/-- The repeat and exposure that line k would have now (R92). -/
def predictLine (s : State) (k : Nat) (x : Int) : Nat × Nat :=
  let rid := ridAt s k 0 x
  (rid, (bankOf s rid).expo)

/-- Half the exposure that line k would have now. -/
def halfExpo (s : State) (k : Nat) : Nat := (predictLine s k (gridPos s.tr k)).2 / 2

end Sys2Proof.Machine
end

