-- ==== Sys2Proof/Machine/LampMath.lean ====
section
/-! DEFINITION. Lamp curves, derating, line-synchronous on-times and bus frames (R383, R394, R396, R399). -/

namespace Sys2Proof.Machine

/-! ### Powers of two to 2^−120, for the curves of R394 -/

/-- 2^(2^−k) × 2^128 for k = 1, 2, … -/
def rootsOf2 : Nat → Nat → List Nat
  | 0, _ => []
  | n + 1, r => let q := isqrt (r * 2 ^ 128); q :: rootsOf2 n q

def rootTable : List Nat := rootsOf2 96 (2 ^ 129)

/-- 2^(f ÷ 2^96) × 2^128 for f < 2^96. -/
def exp2 (f : Nat) : Nat :=
  ((List.range 96).zip rootTable).foldl (fun acc e => if f.testBit (95 - e.1) then acc * e.2 / 2 ^ 128 else acc) (2 ^ 128)

/-- n bits of log2 of m ÷ 2^128 for 2^128 ≤ m < 2^129. -/
def log2Bits : Nat → Nat → Nat → Nat
  | 0, _, acc => acc
  | n + 1, m, acc =>
    let q := m * m / 2 ^ 128
    if 2 ^ 129 ≤ q then log2Bits n (q / 2) (2 * acc + 1) else log2Bits n q (2 * acc)

/-- 65 535 × 2^(−e ÷ 2^96) to the nearest integer, ties upward. -/
def scaled2 (e : Nat) : Nat :=
  let w := e / 2 ^ 96
  let f := e % 2 ^ 96
  if 40 < w then 0
  else
    let p := if f = 0 then 2 ^ 129 else exp2 (2 ^ 96 - f)
    (65535 * p + 2 ^ (128 + w)) / 2 ^ (129 + w)

/-- y_i of the LOG curve, i ≥ 1. -/
def logPoint (x : Nat) : Nat := scaled2 (16 * (65535 - x) * 2 ^ 96 / 65535)

/-- y_i of the GAMMA curve with γ in Q2.14, x ≥ 1. -/
def gammaPoint (gamma x : Nat) : Nat :=
  if x = 65535 then 65535
  else
    let sh := 16 - (Nat.log2 x + 1)
    let m := x * 2 ^ (128 + sh + 1) / 65536
    let lg := log2Bits 96 m 0
    let l1 := log2Bits 96 (65535 * 2 ^ 128 / 32768) 0
    let e := (sh * 2 ^ 96 + l1) - lg
    scaled2 (e * gamma / 16384)

/-- y_i of a string's curve (R394). -/
def curvePoint (t : LampStr) (i : Nat) : Nat :=
  if t.curve = 2 then t.table.getD (Nat.min i 1023) 0
  else if i = 0 then 0
  else
    let x := Nat.min (64 * i) 65535
    if t.curve = 1 then gammaPoint t.gamma x else logPoint x

/-- D = curve(L). -/
def curveAt (t : LampStr) (l : Nat) : Nat :=
  let j := l / 64
  let y0 : Int := (curvePoint t j : Int)
  let y1 : Int := (curvePoint t (j + 1) : Int)
  (y0 + roundUpDiv ((y1 - y0) * ((l - 64 * j : Nat) : Int)) 64).toNat

/-- D by the curve in force: a change acts from the next round (R394). -/
def curveNow (t : LampStr) (l : Nat) : Nat :=
  match t.before with
  | some (c, g, tb) => curveAt { t with curve := c, gamma := g, table := tb } l
  | none => curveAt t l

/-- k of R396 at temperature T below or at OFF_TEMP. -/
def derateAt (t : LampStr) (temp : Int) : Nat :=
  if temp ≤ t.knee then 65536
  else if temp < t.floorT then (65536 - roundUpDiv ((65536 - (t.floor : Int)) * (temp - t.knee)) (t.floorT - t.knee)).toNat
  else t.floor

/-- The effective target of R393 step 1. -/
def lampTarget (target trim : Nat) : Nat := Nat.min ((target * trim + 16384) / 32768) 0xFFFF

/-- N_on of R399 for a line period of N_p counts. -/
def onCounts (d np : Nat) : Nat :=
  if d = 0xFFFF then np
  else
    let b := clampN (Nat.log2 np) 8 16
    (d >>> (16 - b)) * np / 2 ^ b

/-- Width of a pulse in LB_CLK periods (Table 12.8). -/
def pulseWidth (kind : Nat) : Nat := if kind < 2 then 4 + 4 * kind else 16 + 4 * (kind - 2)

/-! ### Frames (R382 to R384) -/

/-- CRC-16/CCITT, most significant bit first (R383). -/
def crcBit (c : Nat) : Nat := let d := c * 2; if 65536 ≤ d then (d - 65536) ^^^ 0x1021 else d

def crc16 (bs : List Byte) : Nat :=
  bs.foldl (fun c b => (List.range 8).foldl (fun c _ => crcBit c) (c ^^^ (b.toNat * 256))) 0xFFFF

/-- A frame of Table 12.2. -/
def lampFrame (sd addr cmd : Nat) (pay : List Byte) : List Byte :=
  let body := leBytes 2 (addr + 64 * cmd + 1024 * pay.length) ++ pay
  leBytes 1 sd ++ body ++ leBytes 2 (crc16 body)

def LampTx.cmd : LampTx → Nat
  | .poll => 0 | .read _ => 1 | .write _ _ => 2 | .level _ => 3 | .pending _ _ => 4

/-- The request frame of a transaction. -/
def txFrame (addr : Nat) : LampTx → List Byte
  | .poll => lampFrame 0x4E addr 0 []
  | .read g => lampFrame 0x4E addr 1 (leBytes 1 g)
  | .write g d => lampFrame 0x4E addr 2 (leBytes 1 g ++ leBytes 4 d)
  | .level ds => lampFrame 0x4E addr 3 (ds.flatMap (leBytes 2))
  | .pending ds m => lampFrame 0x4E addr 4 (ds.flatMap (leBytes 2) ++ leBytes 1 m)

/-- The payload of a good reply to a transaction: delimiter, address, command, length and CRC all right. -/
def replyPayload (addr : Nat) (x : LampTx) (f : List Byte) : Option (List Byte) :=
  let n := match x with | .read _ => 12 | _ => 8
  let hdr := field f 1 2
  let body := slice f 1 (2 + n)
  if f.length = n + 5 && field f 0 1 == 0x72 && hdr == addr + 64 * x.cmd + 1024 * n && field f (n + 3) 2 == crc16 body then some (slice f 3 n) else none

end Sys2Proof.Machine
end

