-- ==== Sys2Proof/Machine/LampOps.lean ====
section
/-! DEFINITION. The Lamp Bus: duties, fades, transactions, replies, safety groups, line pulses and diagnosis (chapter 12). -/

namespace Sys2Proof.Machine

def lampStr (s : State) (i : Nat) : LampStr := tget {} i s.lamp.strs

def modStr (i : Nat) (f : LampStr → LampStr) (s : State) : State := { s with lamp.strs := tset {} i (f (lampStr s i)) s.lamp.strs }

def lampSlice (s : State) (n : Nat) : LSlice := tget {} n s.lamp.slices

def modSlice (n : Nat) (f : LSlice → LSlice) (s : State) : State := { s with lamp.slices := tset {} n (f (lampSlice s n)) s.lamp.slices }

/-- Strings of a slice: 8n to 8n + 7 (R9, R381). -/
def slStrings (n : Nat) : List Nat := (List.range 8).map (fun k => 8 * n + k)

/-- The strings that have left their reset values. -/
def knownStrings (s : State) : List Nat := s.lamp.strs.map Prod.fst

/-- Strings of a group. -/
def groupStrings (s : State) (g : Nat) : List Nat := (s.lamp.strs.filter (fun e => e.2.group == g)).map Prod.fst

/-- A string's group is a safety group. -/
def inSafety (s : State) (i : Nat) : Bool := let g := (lampStr s i).group; decide (g < 8) && bit s.lamp.safety g

/-- The bus runs its rounds (Table 12.11). -/
def busOn (m : Mode) : Bool := m != .reset

/-! ### From target to duty (R393) -/

/-- L, or the calibration override (R393 step 2). -/
def levelOf (t : LampStr) : Nat := t.override.getD t.l

/-- Step 5 of R393: what holds D′ at 0. -/
def heldOff (s : State) (i : Nat) : Bool :=
  let t := lampStr s i
  t.latched || t.retired || t.overTemp || t.slot == 255 || s.lamp.dark || (decide (t.group < 8) && bit s.lamp.off t.group) || !(lampSlice s (i / 8)).running

/-- D for a level, by the points kept for it where they are at hand; a change of curve acts from the next round on (R394). -/
def dutyFor (t : LampStr) (l : Nat) : Nat := if t.dAt = l then t.d else curveNow t l

/-- A pulse on LB_SYNC. -/
def emitPulse (kind : Nat) (s : State) : State := emit (.pulse kind (pulseWidth kind)) s

/-- A frame on LB_DAT. -/
def emitFrame (n : Nat) (f : List Byte) (s : State) : State := emit (.lamp n (wireBits f)) s

/-- D′ at a level. -/
def dutyAt (s : State) (i l : Nat) : Nat :=
  if heldOff s i then 0 else (roundUpDiv ((dutyFor (lampStr s i) l * (lampStr s i).k : Nat) : Int) 65536).toNat

/-- D′ of a string. -/
def duty (s : State) (i : Nat) : Nat := dutyAt s i (levelOf (lampStr s i))

/-- N of R395. -/
def fadeSteps (ms : Nat) : Nat := Nat.max 1 (ceilN (10 * ms) 8)

/-- A fade to the target starts from the present L, with its origin at an instant (R395). -/
def startFade (i lt ms origin : Nat) (s : State) : State :=
  modStr i (fun t => { t with l0 := t.l, lt := lt, steps := fadeSteps ms, j := 0, origin := origin }) s

/-- The string fades up from 0 (R396, R408, R412). -/
def fadeUp (i : Nat) (s : State) : State :=
  startFade i (lampStr s i).lt (lampStr s i).fadeMs s.now (modStr i (fun t => { t with l := 0 }) s)

/-- The L_t that a bank gives a string. -/
def targetIn (b : Bank) (i : Nat) : Nat := lampTarget (tget 0 i b.lamps) (tget 32768 i b.trims)

/-- The lamps take the live bank's targets and trims without a line: the values of a boot (R55, R393). -/
def loadTargets (s : State) : State :=
  let b := s.banks.live
  ((b.lamps ++ b.trims).map Prod.fst).eraseDups.foldl (fun s i => modStr i (fun t => { t with lt := targetIn b i }) s) { s with lamp.tgt := b.lamps, lamp.trim := b.trims }

/-! ### Events -/

/-- The slice's temperature or the channel's, in 1/16 °C, where it is good. -/
def lampTemp (s : State) (i : Nat) : Option Int :=
  let t := lampStr s i
  if t.temp = 254 then (lampSlice s (i / 8)).temp
  else match auxGood s t.temp with | (some v, false) => some (sarRound v 12) | _ => none

/-- Line number that a lamp event names: the last line committed (log 60). -/
def lampLine (s : State) : Nat := lineNo (s.tr.mark - 1)

/-- EV_LAMP_FAULT (R379, Table 11.14): at most one per source and kind in 100 ms. -/
def evLamp (kind i : Nat) (s : State) : State :=
  let t := lampStr s i
  postLimited 100000000 8 i kind (layout 16 [(0, 1, kind), (1, 1, t.group), (2, 2, ofS 16 ((lampTemp s i).getD (-32768))), (4, 4, lampLine s), (8, 2, t.sent)]) s

/-! ### Safety groups (R406, R414) -/

/-- A GROUP_OFF broadcast goes out as two copies (R387). -/
def sendCast (g : Nat) (s : State) : State :=
  let f := lampFrame 0x4E 0 0xE (leBytes 1 (2 ^ g))
  { emitFrame 64 f (emitFrame 64 f s) with lamp.casts := s.lamp.casts + 1 }

/-- Pending duties of the strings that f names are discarded (R414). -/
def dropPending (f : Nat → Bool) (s : State) : State :=
  let keep := fun (n m : Nat) => sumN ((maskIdx 8 m).map (fun k => if f (8 * n + k) then 0 else 2 ^ k))
  { s with lamp.slices := s.lamp.slices.map (fun e =>
      let a := e.2
      (e.1, { a with placed := keep e.1 a.placed, pend := a.pend.map (fun p => (p.1, keep e.1 p.2)) })) }

/-- Switch a group off (R406): delay counts the broadcasts that this cause has already sent. -/
def shutOff (g cause string delay : Nat) (s : State) : State :=
  if bit s.lamp.off g then s
  else
    let s := sendCast g { s with lamp.off := setBit s.lamp.off g true, lamp.abort := true }
    let s := dropPending (fun i => (lampStr s i).group == g) s
    raiseWith 0x0304 g (faultData 1 []) (2 ^ g) (post 9 g (layout 16 [(0, 1, cause), (2, 2, string), (4, 4, lampLine s), (8, 2, delay)]) s)

/-- A repeat of a broadcast for a slice that missed both copies: at most 16 in a round, the rest wait (R387). -/
def repeatCast (g : Nat) (s : State) : State :=
  if s.lamp.casts < 16 then sendCast g s
  else if s.lamp.casting.contains g then s
  else { s with lamp.casting := s.lamp.casting ++ [g] }

/-- A string retires (R407, R408). -/
def retireString (i : Nat) (s : State) : State :=
  raise 0x0301 i (evLamp 8 i (modStr i (fun t => { t with retired := true, retryAt := none }) s))

/-- DELAY_US of a broadcast at the end of the slot: 12 µs and 3.92 µs, and 4 µs for each before it. -/
def castDelay (c0 : Nat) (s : State) : Nat := 16 + 4 * (s.lamp.casts - c0)

/-- A new open or short of a string (R405 to R408): c0 broadcasts had gone out before this reply. -/
def stringFault (i c0 : Nat) (opened : Bool) (s : State) : State :=
  let t := lampStr s i
  let s := evLamp (if opened then 1 else 2) i (modStr i (fun t => { t with faults := satInc 16 t.faults, latched := true }) { s with lamp.abort := true })
  if t.retired then s
  else if inSafety s i then
    let r := s.lamp.rearm.getD t.group 0
    let s := if r != 0 && decide (s.now ≤ r - 1 + 60000000000) then retireString i s else s
    shutOff t.group 1 i (castDelay c0 s) s
  else if t.retried != 0 && decide (s.now ≤ t.retried - 1 + 60000000000) then retireString i s
  else modStr i (fun t => { t with retryAt := some (s.now + 1000000000) }) s

/-! ### Slices (R410, R411) -/

/-- Retire a slice (R410, R411). -/
def retireSlice (n c0 : Nat) (s : State) : State :=
  if (lampSlice s n).retired then s
  else
    let s := modSlice n (fun a => { a with retired := true, running := false, step := 0, cfgDue := true, tx := none, pend := none, placed := 0 }) s
    let s := (slStrings n).foldl (fun s i => if (lampStr s i).slot = 255 then s else modStr i (fun t => { t with retired := true, retryAt := none }) s) s
    let s := raise 0x0302 n (evLamp 9 (8 * n) s)
    ((List.range 8).filter (fun g => bit s.lamp.safety g && (slStrings n).any (fun i => (lampStr s i).group == g && (lampStr s i).slot != 255))).foldl
      (fun s g => shutOff g 3 (8 * n) (castDelay c0 s) s) s

/-- CONFIG of a slice (Table 12.6); RUN is 0 in BOOT and RECOVERY (Table 12.11). -/
def configWord (s : State) (n : Nat) : Nat :=
  let a := lampSlice s n
  if a.enable = 0 || a.retired then 0
  else (if s.sys.mode == .boot || s.sys.mode == .recovery then 0 else 65536) + sumN ((List.range 8).map (fun k =>
    let t := lampStr s (8 * n + k)
    if t.slot = 255 then 0 else 2 ^ (8 + k) + t.pwm * 2 ^ k))

/-- GROUP_MAP of a slice (Table 12.7). -/
def groupWord (s : State) (n : Nat) : Nat :=
  sumN ((List.range 8).map (fun k =>
    let g := (lampStr s (8 * n + k)).group
    if g < 8 then (g + 8 * b2n (bit s.lamp.safety g)) * 16 ^ k else 0))

/-- Nanoseconds between the last two references; none after 41.94 ms without one, until two have come (R399, R402). -/
def lineGap (s : State) : Option Nat :=
  match s.lamp.refs with
  | [r1, r0] => if r0 = 0 || r1 - r0 = 0 || 41943040 < r1 - r0 || r1 + 41943040 < s.now then none else some (r1 - r0)
  | _ => none

/-- Counts between them. -/
def linePeriod (s : State) : Option Nat := (lineGap s).map (fun g => g * 2 / 5)

/-- On-time of a lit string in counts (R398, R399). -/
def onTime (s : State) (i : Nat) : Nat :=
  let t := lampStr s i
  match t.pwm, linePeriod s with
  | 1, some np => if t.drives = 0 then 0 else onCounts t.drives np
  | _, _ => t.drives

/-- A string is lit: its slice drives it at a duty above 0. -/
def lit (s : State) (i : Nat) : Bool := decide (0 < (lampStr s i).drives) && !(heldOff s i)

/-- DIAG_MASK that a slice should hold (R401). -/
def wantMask (s : State) (n : Nat) : Nat :=
  sumN ((List.range 8).map (fun k => if lit s (8 * n + k) && decide (onTime s (8 * n + k) < 600) then 2 ^ k else 0))

/-- The duties of a slice. -/
def sliceDuties (s : State) (n : Nat) : List Nat := (slStrings n).map (duty s)

/-- The transaction of a slot (R386): W1C writes of R407 and R408 follow a CONFIG write (log 61). -/
def chooseTx (s : State) (n : Nat) : Option LampTx :=
  let a := lampSlice s n
  if a.cfgDue then some (.write 0x10 (configWord s n))
  else if a.retired || a.enable = 0 then none
  else if a.clrLatch ≠ 0 then some (.write 0x1C a.clrLatch)
  else if a.clrFault ≠ 0 then some (.write 0x20 (a.clrFault * 257))
  else if a.pend.isSome then a.pend.map (fun p => .pending p.1 p.2)
  else if sliceDuties s n != (slStrings n).map (fun i => (lampStr s i).leveled) then some (.level (sliceDuties s n))
  else if a.diagDue || (a.running && wantMask s n != a.diagMask) then some (.write 0x18 (wantMask s n))
  else if a.mapDue then some (.write 0x14 (groupWord s n))
  else if a.step = 1 then some (.read 0x00)
  else if a.step = 2 then some (.read 0x04)
  else if a.step = 3 then some (.read 0x08)
  else some .poll

/-- Broadcasts that wait for a round of their own go at the end of its first slot (R387). -/
def sendWaiting (s : State) : State :=
  let l := s.lamp.casting
  l.foldl (fun s g => if bit s.lamp.off g then repeatCast g s else s) { s with lamp.casting := [] }

/-- Slot n of this round has begun: 12 n µs after the round's start, 4 µs later for each broadcast before it, once a round (R386, R387). -/
def slotDue (n : Nat) (s : State) : Bool :=
  match s.lamp.roundAt with
  | some r => decide (s.lamp.nextSlot ≤ n) && decide (n < 64) && decide (r + 12000 * n + 4000 * s.lamp.casts ≤ s.now)
  | none => false

/-- The strings of a slice that missed its PENDING take their new duty in its first slot after the Datum (R397). -/
def takeLate (n : Nat) (s : State) : State :=
  (slStrings n).foldl (fun s i =>
    match (lampStr s i).late with
    | some t => if s.now < t then s else modStr i (fun x => { x with late := none, l := x.lt, j := x.steps, dAt := x.lt, d := curveNow x x.lt }) s
    | none => s) s

/-- A W1C write that has had no good reply is due again, with what has come due since (R386, R407, R408). -/
def dueAgain (n : Nat) (s : State) : State :=
  modSlice n (fun a => match a.tx with
    | some (.write 0x1C d) => { a with tx := none, clrLatch := a.clrLatch ||| d }
    | some (.write 0x20 d) => { a with tx := none, clrFault := a.clrFault ||| d % 256 }
    | _ => a) s

/-- A transaction of a slot begins: what it carries counts as sent. -/
def beginTx (n : Nat) (x : LampTx) (s : State) : State :=
  let s := match x with
    | .level ds => (List.range 8).foldl (fun s k => modStr (8 * n + k) (fun t => { t with sent := ds.getD k 0 }) s) s
    | _ => s
  modSlice n (fun a =>
    let a := { a with tx := some x, slotAt := s.now }
    match x with
    | .write 0x1C _ => { a with clrLatch := 0 }
    | .write 0x20 _ => { a with clrFault := 0 }
    | .pending _ _ => { a with written := true }
    | _ => a) s

/-- LAMP_SLOT (R386): one transaction. A retired slice's CONFIG write goes once (R410). -/
def lampSlot (n : Nat) (s : State) : State :=
  if !(busOn s.sys.mode) || !slotDue n s then s
  else
    let s := takeLate n (dueAgain n { s with lamp.nextSlot := n + 1 })
    let s := match chooseTx s n with
      | none => modSlice n (fun a => { a with tx := none }) s
      | some x =>
        let s := emitFrame n (txFrame n x) s
        if (lampSlice s n).retired then modSlice n (fun a => { a with tx := none, cfgDue := false, slotAt := s.now }) s
        else beginTx n x s
    sendWaiting s

/-- The slice drives a string at a duty from now on. -/
def driveAt (now v : Nat) (t : LampStr) : LampStr := { t with drives := v, litAt := if t.drives = 0 && v != 0 then now else t.litAt }

/-- A good reply completes its transaction. -/
def doneTx (n : Nat) (x : LampTx) (pay : List Byte) (c0 : Nat) (s : State) : State :=
  let a := lampSlice s n
  match x with
  | .poll => s
  | .read r =>
    let d := field pay 8 4
    let mapped := sumN ((List.range 8).map (fun k => if (lampStr s (8 * n + k)).slot = 255 then 0 else 2 ^ k))
    if r = 0 then modSlice n (fun a => { a with step := if a.step = 1 then 2 else a.step }) s
    else if r = 4 then
      if d % 256 != 1 || (mapped &&& bits d 8 8) != mapped then retireSlice n c0 s
      else modSlice n (fun a => { a with present := bits d 8 8, step := if a.step = 2 then 3 else a.step }) s
    else if 400 < d % 512 then retireSlice n c0 s
    else modSlice n (fun a => { a with step := if a.step = 3 then 4 else a.step, mapDue := true, diagDue := true }) s
  | .write r d =>
    let s := modSlice n (fun a =>
      if r = 0x10 then { a with cfgDue := decide (configWord s n ≠ d), running := bit d 16, step := if a.step = 5 then 0 else a.step }
      else if r = 0x14 then { a with mapDue := decide (groupWord s n ≠ d) }
      else if r = 0x18 then { a with diagDue := false, diagMask := d }
      else a) s
    let s := modSlice n (fun a => if a.step = 4 && !a.mapDue && !a.diagDue then { a with step := 5, cfgDue := true } else a) s
    if r = 0x10 && bit d 16 && !a.running then clearFault 0x0302 n s else s
  | .level ds =>
    (List.range 8).foldl (fun s k => modStr (8 * n + k) (fun t => { driveAt s.now (ds.getD k 0) t with leveled := ds.getD k 0 }) s) s
  | .pending ds m => modSlice n (fun a => { a with placed := m, duties := ds, pend := none }) s

/-- STATUS of a good reply (Table 12.4). -/
def takeStatus (n c0 : Nat) (pay : List Byte) (s : State) : State :=
  let op := field pay 0 1
  let sh := field pay 1 1
  let meas := field pay 2 1
  let latched := field pay 3 1
  let tempRaw := field pay 4 2
  let fresh := maskIdx 8 ((op ||| sh) &&& (255 - ((lampSlice s n).known &&& 255)))
  let s := modSlice n (fun a => { a with known := op ||| sh, temp := if tempRaw = 0x8000 then none else some (toS 16 tempRaw), cfgDue := a.cfgDue || (bit (field pay 6 1) 0 && a.running) }) s
  let s := fresh.foldl (fun s k => stringFault (8 * n + k) c0 (bit op k) s) s
  let s := (maskIdx 8 meas).foldl (fun s k =>
    let i := 8 * n + k
    let was := (lampStr s i).undiag
    let s := modStr i (fun t => { t with lastGood := s.now, undiag := false }) s
    clearFault 0x0303 i (if was then evLamp 4 i s else s)) s
  let missed := ((List.range 8).filter (fun k => let t := lampStr s (8 * n + k); t.slot != 255 && decide (t.group < 8) && bit s.lamp.off t.group && !(bit latched k))).map
    (fun k => (lampStr s (8 * n + k)).group)
  (missed.eraseDups).foldl (fun s g => if fresh.any (fun k => (lampStr s (8 * n + k)).group == g) then s else repeatCast g s) s

/-- A reply that is missing or bad (R410, R411). -/
def badReply (n : Nat) (missing : Bool) (s : State) : State :=
  let a := lampSlice s n
  match a.tx with
  | none => s
  | some x =>
    let s := dueAgain n s
    let c0 := s.lamp.casts
    let s := modSlice n (fun a => { a with tx := none, missRun := if missing then a.missRun + 1 else 0, crcRun := if missing then 0 else a.crcRun + 1, badRun := a.badRun + 1 }) s
    let a := lampSlice s n
    let s := if missing && a.missRun = 2 then evLamp 6 (8 * n) s else if !missing && a.crcRun = 2 then evLamp 7 (8 * n) s else s
    let unread := missing && (match x with | .read _ => true | _ => false)
    if (4 ≤ a.badRun || unread) && a.enable = 1 then retireSlice n c0 s else s

/-- LAMP_REPLY_MISSING (R385): no delimiter by the fourth bit boundary after the request. -/
def replyMissing (n : Nat) (s : State) : State :=
  match (lampSlice s n).tx with
  | none => s
  | some x => if (lampSlice s n).slotAt + 320 * (txFrame n x).length + 160 ≤ s.now then badReply n true s else s

/-- LAMP_REPLY (R382 to R384, R410): the bits of a frame, sampled from its start delimiter on. -/
def lampReply (n : Nat) (levels : List Bool) (s : State) : State :=
  match (lampSlice s n).tx with
  | none => s
  | some x =>
    match (if levels.length % 8 = 0 then replyPayload n x (wireBytes levels) else none) with
    | none => badReply n false s
    | some pay =>
      let c0 := s.lamp.casts
      let s := modSlice n (fun a => { a with tx := none, missRun := 0, crcRun := 0, badRun := 0 }) s
      takeStatus n c0 pay (doneTx n x pay c0 s)

/-! ### Rounds (R386, R395, R396) -/

/-- Derating and over-temperature of one string, with T taken once per round (R396). -/
def stepDerate (i : Nat) (s : State) : State :=
  let t := lampStr s i
  let good := lampTemp s i
  let temp := good.getD t.knee
  let s := if good.isNone && !t.held then
      (if t.temp < 16 then evAux 8 t.temp s
       else postLimited 100000000 11 0xFFFF 8 (layout 16 [(0, 1, 8)]) s) else s
  let s := modStr i (fun t => { t with held := good.isNone, k := if t.offT < temp then t.k else derateAt t temp }) s
  if !t.overTemp && decide (t.offT < temp) then evLamp 3 i (modStr i (fun t => { t with overTemp := true }) s)
  else if t.overTemp && decide (temp < t.onT) then fadeUp i (modStr i (fun t => { t with overTemp := false }) s)
  else s

/-- One step of a fade, and D for the level that results (R394, R395). -/
def stepFade (i : Nat) (s : State) : State :=
  let f := fun (t : LampStr) =>
    if t.j < t.steps && decide (t.origin ≤ s.now) then
      let j := t.j + 1
      { t with j := j, l := ((t.l0 : Int) + roundUpDiv (((t.lt : Int) - (t.l0 : Int)) * (j : Int)) (t.steps : Int)).toNat }
    else t
  let keep := fun (t : LampStr) => if t.dAt = levelOf t && t.before.isNone then t else { t with dAt := levelOf t, d := curveAt t (levelOf t), before := none }
  modStr i (fun t => keep (f t)) s

/-- The present round has lasted 800 µs, and 4 µs more for each broadcast past the eighth (R387). -/
def roundOver (s : State) : Bool :=
  match s.lamp.roundAt with
  | some r => decide (r + 800000 + 4000 * (s.lamp.casts - 8) ≤ s.now)
  | none => true

/-- LAMP_ROUND: a round starts. -/
def lampRound (s : State) : State :=
  if !(busOn s.sys.mode) || !roundOver s then s
  else
    let s := { s with lamp.casts := 0, lamp.roundAt := some s.now, lamp.nextSlot := 0 }
    (knownStrings s).foldl (fun s i => if (lampStr s i).slot = 255 then s else stepFade i (stepDerate i s)) s

/-! ### Lamps and the line (R60, R391, R397, R401) -/

/-- The banks differ in what the lamps take from them. -/
def lampsDiffer (a b : Bank) : Bool := a.lamps != b.lamps || a.trims != b.trims

/-- Strings whose target differs. -/
def changedStrings (a b : Bank) : List Nat :=
  ((a.lamps ++ b.lamps ++ a.trims ++ b.trims).map Prod.fst).eraseDups.filter (fun i => targetIn a i != targetIn b i)

/-- The PENDING frames for an arming of the staged bank (R397): the slices in service with a changed string of FADE_MS 0. -/
def armPendings (s : State) : List (Nat × List Nat × Nat) :=
  let zero := (changedStrings s.banks.live s.banks.staged).filter (fun i => (lampStr s i).fadeMs == 0)
  (((zero.map (fun i => i / 8)).eraseDups).filter (fun n => (lampSlice s n).running)).map (fun n =>
    (n, (slStrings n).map (fun i => if zero.contains i then dutyAt s i (targetIn s.banks.staged i) else duty s i),
     sumN ((List.range 8).map (fun k => if zero.contains (8 * n + k) then 2 ^ k else 0))))

/-- A bank is armed (R397): the fade times are latched, and fade-0 strings are due a PENDING until it has a good reply. -/
def armLamps (s : State) : State :=
  let l := armPendings s
  let s := (changedStrings s.banks.live s.banks.staged).foldl (fun s i => modStr i (fun t => { t with armFade := some t.fadeMs }) s) s
  l.foldl (fun s e => modSlice e.1 (fun a => { a with pend := some e.2, written := false }) s) s

/-- New targets and trims act from an exposure that starts at ts (R60, R395, R397). A string whose PENDING was placed waits for the pulse. -/
def takeTargets (b : Bank) (ts : Nat) (s : State) : State :=
  let old : Bank := { lamps := s.lamp.tgt, trims := s.lamp.trim }
  let ch := changedStrings old b
  let s := { s with lamp.tgt := b.lamps, lamp.trim := b.trims }
  ch.foldl (fun s i =>
    let t := lampStr s i
    let ms := t.armFade.getD t.fadeMs
    let lt := targetIn b i
    let s := modStr i (fun t => { t with armFade := none }) s
    if ms = 0 && bit (lampSlice s (i / 8)).placed (i % 8) then modStr i (fun t => { t with lt := lt, j := t.steps }) s
    else if ms = 0 then modStr i (fun t => { t with late := some ts }) (startFade i lt ms ts s)
    else startFade i lt ms ts s) s

/-- Windows whose first exposure with room has passed without a marker have none (R401): consecutive exposures, newest first. -/
def passMarkers (now : Nat) : List (Nat × Nat × Nat) → Nat → Nat
  | e1 :: e0 :: r, m =>
    let m := passMarkers now (e0 :: r) m
    if e0.2.2 < now + 1000 && e1.1 == (e0.1 + 1) % 2 ^ 32 && e0.2.2 + 1500 ≤ e1.2.1 then e0.1 / 128 + 1 else m
  | _, m => m

/-- An exposure is frozen: its pulse, unless it went before the freeze, and the targets of a new repeat (R391, R397). -/
def lampFreeze (b : Bank) (expo ts te : Nat) (s : State) : State :=
  let gone := s.lamp.early == some expo
  let swap := !gone && lampsDiffer { lamps := s.lamp.tgt, trims := s.lamp.trim } b
  let s := if swap then takeTargets b ts s else s
  let expos := ((expo, ts, te) :: s.lamp.expos).take 4
  { s with lamp.early := none, lamp.pulses := if gone then s.lamp.pulses else s.lamp.pulses ++ [(Nat.max s.now (ts - 1000), b2n swap)], lamp.expos := expos, lamp.marked := passMarkers s.now expos s.lamp.marked }

/-- LINE_SWAP: the pending duties become live as the frame carried them (R390, R397). -/
def swapDuties (s : State) : State :=
  (s.lamp.slices.map Prod.fst).foldl (fun s n =>
    let a := lampSlice s n
    let s := (maskIdx 8 a.placed).foldl (fun s k =>
      let v := a.duties.getD k 0
      modStr (8 * n + k) (fun t => { driveAt s.now v t with l := t.lt, dAt := t.lt, d := curveNow t t.lt, sent := v }) s) s
    modSlice n (fun a => { a with placed := 0, pend := none }) s) s

/-- LINE_PULSE (R391, R443): the next pulse that is due. -/
def linePulse (s : State) : State :=
  match s.lamp.pulses with
  | (t, k) :: r =>
    if !s.sys.mode.cap then { s with lamp.pulses := [] }
    else if s.now < t then s
    else
      let s := emitPulse k { s with lamp.pulses := r, lamp.refs := [s.now, s.lamp.refs.headD 0] }
      if k = 1 then swapDuties s else s
  | [] =>
    match s.mot.cycle with
    | none => s
    | some cy =>
      match cy.phase, cy.pulses with
      | .approach, k :: r =>
        (match crossing { s.tr with nextK := k } k with
         | some tc => if ((s.now : Int) + 1000 < tc - (halfExpo s k : Int)) then s
           else emitPulse 0 { s with mot.cycle := some { cy with pulses := r }, lamp.refs := [s.now, s.lamp.refs.headD 0] }
         | none => s)
      | _, _ => s

/-- The exposure whose marker may be due now: its t_e lies within 1 µs ahead. -/
def markerExpo (s : State) : Option (Nat × Nat × Nat) :=
  s.lamp.expos.find? (fun e => decide (e.2.2 ≤ s.now + 1000) && decide (s.now ≤ e.2.2))

/-- Predicted or frozen start of the exposure after n (R401). -/
def nextStart (s : State) (n : Nat) : Option Int :=
  match s.lamp.expos.find? (fun (e : Nat × Nat × Nat) => e.1 == (n + 1) % 2 ^ 32) with
  | some e => some (e.2.1 : Int)
  | none => (crossing s.tr s.tr.nextK).map (fun tc => tc - (halfExpo s s.tr.nextK : Int))

/-- DIAG_MARKER (R392, R401): the first exposure of its window with room, where a string at that position needs it; no later one of the window has a marker. -/
def diagMarker (s : State) : State :=
  match markerExpo s with
  | none => s
  | some (n, _, te) =>
    let w := n / 128 + 1
    let k := n % 1024 / 128
    let room := match nextStart s n with | some t => decide ((te : Int) + 1500 ≤ t) | none => true
    let need := s.lamp.slices.any (fun e => bit e.2.diagMask k && lit s (8 * e.1 + k))
    if s.lamp.marked = w || !room then s
    else if need then emitPulse (2 + k) { s with lamp.marked := w, tr.diagEnd := te + 1500 }
    else { s with lamp.marked := w }

/-! ### Diagnosis, retries and modes (R403, R404, R407, R412) -/

/-- Instant of the last good measurement of a string; its lighting where it has had none since RESET (log 62). -/
def diagFrom (t : LampStr) : Nat := if t.lastGood = 0 then t.litAt else t.lastGood

/-- The age from which a lit string is undiagnosed. -/
def diagLimit (s : State) : Nat := Nat.max 400000000 (2048 * (lineGap s).getD 0)

/-- A string is undiagnosed (R403). -/
def undiagnosed (s : State) (i : Nat) : Bool := lit s i && decide (diagFrom (lampStr s i) + diagLimit s < s.now)

/-- STRING_UNDIAGNOSED (R403): a string becomes undiagnosed, once while it stays lit. -/
def stringUndiagnosed (i : Nat) (s : State) : State :=
  let t := lampStr s i
  if i < 512 && undiagnosed s i && !(t.undiag && decide (t.litAt ≤ t.undiagAt)) then
    evLamp 5 i (modStr i (fun t => { t with undiag := true, undiagAt := s.now }) s)
  else s

/-- LAMP_UNDIAGNOSED (R404). -/
def lampUndiagnosed (i : Nat) (s : State) : State :=
  let t := lampStr s i
  if i < 512 && t.undiag && decide (t.litAt ≤ t.undiagAt) && undiagnosed s i && inSafety s i && decide (t.undiagAt + 10000000000 ≤ s.now) && !faultActive s 0x0303 i then
    raiseWith 0x0303 i (faultData 1 []) (2 ^ t.group) s
  else s

/-- STRING_RETRY (R407). -/
def stringRetry (i : Nat) (s : State) : State :=
  match (lampStr s i).retryAt with
  | none => s
  | some t =>
    if s.now < t then s
    else
      let s := modStr i (fun t => { t with latched := false, retryAt := none, retried := s.now + 1 }) s
      modSlice (i / 8) (fun a => { a with clrLatch := setBit a.clrLatch (i % 8) true, clrFault := setBit a.clrFault (i % 8) true }) s

/-- A line carries LAMP_UNDIAGNOSED when any string is undiagnosed at its freeze (R403). -/
def lampUndiag (s : State) : Bool := s.lamp.strs.any (fun e => undiagnosed s e.1)

/-- Strings are lit in a mode (Table 12.11). -/
def lampMode (m : Mode) : Bool := m == .ready || m == .replay || m == .service || m.cap

/-- The slices in service take another CONFIG: RUN changes at the entry to BOOT and at its end (Table 12.11). -/
def configAll (s : State) : State :=
  { s with lamp.slices := s.lamp.slices.map (fun e => (e.1, { e.2 with cfgDue := e.2.cfgDue || (e.2.enable == 1 && !e.2.retired && e.2.step == 0) })) }

/-- Lamps at a mode change (R412, R519). -/
def lampsEnter (old new : Mode) (s : State) : State :=
  let s := if old = .boot && new = .standby then configAll s else s
  let keep := tget 0 0x0310 s.flt.policy
  let lamps := fun (s : State) (up : Bool) => if up then (knownStrings s).foldl (fun s i => fadeUp i s) { s with lamp.dark := false } else s
  if new = .hold then
    if keep = 1 || keep = 2 || s.lamp.dark then s
    else
      let litGroups := (List.range 8).filter (fun g => bit s.lamp.safety g && (groupStrings s g).any (lit s))
      let s := { s with lamp.dark := true }
      litGroups.foldl (fun s g =>
        post 9 g (layout 16 [(0, 1, 4), (2, 2, 0xFFFF), (4, 4, lampLine s), (8, 2, (Config.freeValue s.free).toNat)]) { s with free := s.free + 1 }) s
  else if lampMode new then lamps s (s.lamp.dark || old = .hold || old = .standby)
  else { s with lamp.dark := true }

/-- Groups that faults switched off in this step (R518). The manual names no CAUSE for a fault of another chapter under GROUP_OFF: it is free (log 63). -/
def shutGroups (s : State) : State :=
  let l := s.flt.groupReq
  let s := { s with flt.groupReq := [] }
  l.foldl (fun s e =>
    let (m, code, res) := e
    let (cause, s) := if code = 0x0303 then (2, s) else if code = 0x0302 then (3, s) else if code = 0x0301 then (1, s) else if code = 0x0702 then (4, s)
      else ((Config.freeValue s.free).toNat % 256, { s with free := s.free + 1 })
    let string := if code = 0x0303 || code = 0x0301 then res else if code = 0x0302 then 8 * res else 0xFFFF
    let c0 := s.lamp.casts
    ((maskIdx 8 m).filter (fun g => bit s.lamp.safety g)).foldl (fun s g => shutOff g cause string (castDelay c0 s) s) s) s

end Sys2Proof.Machine
end

