-- ==== Sys2Proof/Machine/CalOps.lean ====
section
/-! DEFINITION. Calibration: accumulation, results, plausibility, grades, and the running white's blocks (chapter 7, R184 to R186). -/

namespace Sys2Proof.Machine

/-- Checks of Table 7.4. -/
def chkBasis : Nat := 64
def chkAborted : Nat := 128
def chkTrim : Nat := 256
def chkRange : Nat := 4096

/-- A shading or lamp run is in progress, so a frozen line carries SHADING_STALE (R237). -/
def calStale (s : State) : Bool := s.cal.run.isSome

def setRun (f : CalRun → CalRun) (s : State) : State := { s with cal.run := s.cal.run.map f }

/-- The kind's STATE, STEP and STEPS (Table 7.7). -/
def calState (s : State) (kind : Nat) : Nat × Nat × Nat :=
  if kind < 2 then
    if s.cal.run.any (fun r => r.kind == kind) then (1, 0, 0)
    else
      match kind, s.cal.grade with
      | 0, some g => (3, g.live, g.steps)
      | 0, none => if s.cal.pendShade.isSome then (2, 0, 0) else (0, 0, 0)
      | _, _ => if s.cal.pendLamp.isSome then (2, 0, 0) else (0, 0, 0)
  else if 3 ≤ kind && (auxConv s (kind - 3)).running.isSome then (1, 0, 0)
  else (0, 0, 0)

/-- EV_CAL_DONE of a kind with its state as it stands now. -/
def calDone (kind status checks side slot port out : Nat) (s : State) : State :=
  let (st, step, steps) := calState s kind
  evCalDone kind status checks st step steps side slot port out s

/-! ### Lamp levels of a run (R228) -/

/-- Strings that LAMP_MAP assigns. -/
def mappedStrings (s : State) : List Nat := (s.lamp.strs.filter (fun e => e.2.slot != 255)).map Prod.fst

/-- Every mapped string takes the level that f gives it. -/
def overrideLamps (f : Nat → Nat) (s : State) : State :=
  setRun (fun r => { r with tLevel := s.now }) ((mappedStrings s).foldl (fun s i => modStr i (fun t => { t with override := some (f i) }) s) s)

/-- The override ends and the strings fade to the live bank's targets. -/
def endOverride (s : State) : State :=
  (knownStrings s).foldl (fun s i =>
    match (lampStr s i).override with
    | none => s
    | some l => startFade i (lampStr s i).lt (lampStr s i).fadeMs s.now (modStr i (fun t => { t with override := none, l := l }) s)) s

/-! ### Ends of a run -/

/-- A run ends at once, and its result is refused (R238, R239). -/
def abortCal (checks : Nat) (s : State) : State :=
  match s.cal.run with
  | none => s
  | some r =>
    let s := endOverride { s with cal.run := none }
    complete (ofOpRes 0x0601 r.kind) jobFailed checks 0 (calDone r.kind jobFailed checks 0 0 255 0 (calResult r.kind jobFailed checks s))

/-! ### Accumulation (R226 to R229, R247) -/

/-- Ticks of a microstep of the Bench axis, 16.16 (R226): VE_SCALE, or what the Bench encoder counts where PROOF_CFG names one (log 109). -/
def benchRatio (s : State) : Nat :=
  if s.proof.benchSource = 4 then s.proof.benchScale else (Config.encoderRatio s.proof.benchSource s.proof.benchAxis).toNat

/-- A Bench position as a position of Transit, S63.16 (R226, log 109). -/
def benchPos (s : State) (r : CalRun) (p : Int) : Int :=
  let start := if r.kind = 0 then r.shade.runStart else r.lamp.runStart
  if s.proof.benchSource = 4 then p * (benchRatio s : Int) else r.xStart + (p - start) * (benchRatio s : Int)

def addCols : List Int → List Int → List Int
  | [], b => b
  | a :: r, b => match b with | [] => a :: r | c :: t => (a + c) :: addCols r t

/-- One tile-plane-line joins its sums; a = 16x − D in device-column order. -/
def accTpl (reverse : Nat) (t : Tpl) (c : CalAcc) : CalAcc :=
  let codes := if reverse = 0 then t.codes else t.codes.reverse
  let a := codes.map (fun (x : Nat) => 16 * (x : Int) - (darkRef t.dark : Int))
  { n := c.n + 1, s := addCols c.s a, s2 := (addCols (c.s2.map (fun (x : Nat) => (x : Int))) (a.map (fun x => x * x))).map Int.toNat }

/-- A line joins the sums of a pass. -/
def accLine (s : State) (g : Slot) (planes ports : Nat) (acc : Tbl CalAcc) : Tbl CalAcc :=
  (g.tpls.filter (fun t => !t.absent && !t.discard && t.complete && bit planes t.slot && bit ports t.port)).foldl
    (fun m t => tmod {} (t.port * 4 + t.slot) (accTpl (portOf s t.port).cfg.reverse t) m) acc

/-- A line of a shading run (R227). -/
def shadeLine (g : Slot) (x : Int) (r : CalRun) (s : State) : State :=
  let p := r.shade
  let at' := benchPos s r
  let settled := decide (r.tLevel + p.settle * 1000000 ≤ g.ts)
  if decide (r.tDark + p.settle * 1000000 ≤ g.ts) && decide (at' p.darkStart ≤ x) && decide (x < at' p.darkEnd) && decide (r.nDark < p.nDark) then
    setRun (fun r => { r with dark := accLine s g p.planes r.ports r.dark, nDark := r.nDark + 1 }) s
  else if r.white && settled && decide (at' p.whiteStart ≤ x) && decide (x < at' p.whiteEnd) && decide (r.nWhite < p.nWhite) then
    let temps := (maskIdx 32 r.ports).foldl (fun m q => match g.temps.find? (fun e => e.1 == q) with
      | some e => tmod ((0 : Int), 0) q (fun v => (v.1 + e.2, v.2 + 1)) m
      | none => m) r.temps
    setRun (fun r => { r with whiteA := accLine s g p.planes r.ports r.whiteA, nWhite := r.nWhite + 1, temps := temps }) s
  else if decide (at' p.clearPos ≤ x) && decide (x ≤ at' p.parkPos) && decide (r.nStrip < 4096) then
    setRun (fun r => { r with strip := accLine s g p.planes r.ports r.strip, nStrip := r.nStrip + 1 }) s
  else s

/-- A string that a lamp run leaves out (R249). -/
def skipString (s : State) (i : Nat) : Bool :=
  let t := lampStr s i
  t.retired || (lampSlice s (i / 8)).retired || (decide (t.group < 8) && bit s.lamp.off t.group)

/-- The level of a string under measurement (R247). -/
def probeLevel (s : State) (r : CalRun) (i : Nat) : Nat := lampTarget r.lamp.probe (tget 32768 i s.lamp.trim)

/-- Start the next measurement of a lamp run; none left ends the series. -/
def nextMeas : Nat → State → State
  | 0, s => s
  | n + 1, s =>
    match s.cal.run with
    | none => s
    | some r =>
      match r.todo with
      | i :: rest =>
        if skipString s i then nextMeas n (setRun (fun r => { r with todo := rest, skipped := r.skipped ++ [i] }) s)
        else overrideLamps (fun j => if j = i then probeLevel s r i else 0) (setRun (fun r => { r with todo := rest, meas := some { string := i } }) s)
      | [] =>
        if r.again.isEmpty || r.second then setRun (fun r => { r with meas := none }) s
        else nextMeas n (setRun (fun r => { r with todo := r.again, again := [], second := true }) s)

/-- A measurement has its lines. -/
def endMeas (m : LampMeas) (s : State) : State :=
  let s := setRun (fun r =>
    if m.string = 512 then { r with sweepDark := some m }
    else if skipString s m.string then { r with skipped := r.skipped ++ [m.string] }
    else if m.derated then (if r.second then { r with skipped := r.skipped ++ [m.string] } else { r with again := r.again ++ [m.string] })
    else match r.sweepDark with | some d => { r with dones := r.dones ++ [(m, d)] } | none => r) s
  nextMeas 1100 s

/-- A line of a lamp run (R247). -/
def lampLineAcc (g : Slot) (x : Int) (r : CalRun) (s : State) : State :=
  match r.meas with
  | none => s
  | some m =>
    let p := r.lamp
    if decide (r.tLevel + p.settle * 1000000 ≤ g.ts) && decide (benchPos s r p.whiteStart ≤ x) && decide (x < benchPos s r p.whiteEnd) then
      let m' := { m with n := m.n + 1, accs := accLine s g 15 r.ports m.accs, derated := m.derated || (decide (m.string < 512) && (decide ((lampStr s m.string).k < 65536) || (lampStr s m.string).overTemp)) }
      let s := setRun (fun r => { r with meas := some m' }) s
      if p.lines ≤ m'.n then endMeas m' s else s
    else s

/-- A judged exposure leaves the Gate (R229): SYNTH, squashed and withdrawn ones add nothing. -/
def calLine (g : Slot) (s : State) : State :=
  match s.cal.run with
  | none => s
  | some r =>
    if r.phase != .sweep && r.phase != .compute then s
    else if r.kind = 0 then shadeLine g (gridPos s.tr g.line) r s
    else lampLineAcc g (gridPos s.tr g.line) r s

/-! ### The shading result (R230 to R234) -/

/-- What one column gives. -/
structure ColCal where
  col    : Nat
  checks : Nat
  record : Nat

/-- P in binary64 at σ and temperature T (R230). -/
def polyP (set : List F32) (temp : Int) (sw : Int) : F64 :=
  let t := f64OfF32 (f32Sub (f32OfFix temp 16) f25)
  let k := fun i => f64OfF32 (set.getD i 0)
  let c0 := f64Add (f64Mul (f64Add (f64Mul (f64Add (f64Mul (k 9) t) (k 7)) t) (k 4)) t) (k 0)
  let c1 := f64Add (f64Mul (f64Add (f64Mul (k 8) t) (k 5)) t) (k 1)
  let c2 := f64Add (f64Mul (k 6) t) (k 2)
  let x := f64Round sw (-16)
  f64Add (f64Mul (f64Add (f64Mul (f64Add (f64Mul (k 3) x) c2) x) c1) x) c0

/-- O, b_w and the new GAIN of a column, where it is defined (R230). -/
def columnGain (d : Nat) (set : List F32) (temp : Int) (sd : Int) (nd : Nat) (sw : Int) (nw : Nat) : Int × Int × Option Nat :=
  let o := clampI (rnd sd (nd : Int)) (-(2 ^ 19)) (2 ^ 19 - 1)
  let bw := rnd sw (nw : Int) - o
  let p := polyP set temp (sigma d bw)
  if bw ≤ 0 || p.1 ≤ 0 then (o, bw, none)
  else
    let g := f64Div (f64OfInt ((2 ^ (d + 4) : Nat) : Int)) (f64Mul p (f64OfInt bw))
    (o, bw, some (clampI (f64ToFix g 22) 0 (2 ^ 24 - 1)).toNat)

/-- The relative white noise exceeds NOISE_MAX, in ppm (R232). -/
def tooNoisy (limit : Nat) (s : Int) (s2 : Nat) (n : Nat) (bw : Int) : Bool :=
  if n ≤ 1 || bw ≤ 0 then false
  else
    let nn := f64OfInt (n : Int)
    let v := f64Div (f64Sub (f64OfInt (s2 : Int)) (f64Div (f64Mul (f64OfInt s) (f64OfInt s)) nn)) (f64OfInt ((n - 1 : Nat) : Int))
    if v.1 ≤ 0 then false
    else f64Lt (f64Div (f64OfInt (limit : Int)) (f64OfInt 1000000)) (f64Div (f64Sqrt v) (f64OfInt bw))

/-- GAIN and OFFSET of a record replaced. -/
def recWith (r gain : Nat) (o : Int) : Nat := gain * 2 ^ 40 + ofS 20 o * 2 ^ 20 + r % 2 ^ 20

/-- The columns of one tile-plane, in device order: gains first, then the step to the good neighbour (R232). -/
def tileColumns (l : CalLimits) (b : Bank) (p q d cols : Nat) (temp : Int) (dark white : CalAcc) : List ColCal :=
  let raw := (List.range cols).map (fun i =>
    let r := tget shadeReset (4 * (p * 5120 + i) + q) b.shade
    (i, r, columnGain d (tget polyReset (recTco r) b.poly) temp (dark.s.getD i 0) dark.n (white.s.getD i 0) white.n))
  let good := raw.filter (fun e => recDef e.2.1 == 0)
  let nbr := fun (i : Nat) => match (good.filter (fun e => decide (e.1 < i))).getLast? with | some e => some e | none => good.find? (fun e => decide (i < e.1))
  good.map (fun e =>
    let (i, r, o, bw, g) := e
    let gainBad := match g with | none => true | some v => decide (v < l.gainMin) || decide (l.gainMax < v)
    let offBad := decide (o < l.offMin) || decide (l.offMax < o)
    let stepBad := match g, nbr i with
      | some v, some m => let gn := m.2.2.2.2.getD 0; decide (l.step * gn < ((v : Int) - (gn : Int)).natAbs * 1000000)
      | _, _ => false
    let noisy := tooNoisy l.noise (white.s.getD i 0) (white.s2.getD i 0) white.n bw
    { col := i, checks := b2n gainBad + 2 * b2n offBad + 4 * b2n stepBad + 8 * b2n noisy, record := recWith r (g.getD (recGain r)) o })

/-- T_mean of a port: the mean over the white pass's lines, Q16.16. -/
def meanTemp (r : CalRun) (p : Nat) : Int := let v := tget ((0 : Int), 0) p r.temps; if v.2 = 0 then 0 else rnd v.1 (v.2 : Int)

/-- Tile-planes that a run checks (R259). -/
def calTiles (s : State) (r : CalRun) : List (Nat × Nat) :=
  ((enabledPorts s).filter (bit r.ports)).flatMap (fun p => ((slotsOf (portOf s p).cfg).filter (bit r.shade.planes)).map (fun q => (p, q)))

/-- The result of one tile-plane: its columns and its failed checks, 0 for none. -/
def tileResult (s : State) (r : CalRun) (p q : Nat) : List ColCal × Nat :=
  let c := (portOf s p).cfg
  let dark := tget {} (p * 4 + q) r.dark
  let white := tget {} (p * 4 + q) r.whiteA
  if dark.n = 0 || white.n = 0 then ([], 32)
  else
    let cols := tileColumns r.limits s.banks.live p q c.depth c.columns (meanTemp r p) dark white
    let out := (cols.filter (fun x => x.checks != 0)).length
    let count := decide (r.limits.outMax < out)
    let cover := decide (2 * white.n < r.shade.nWhite) || decide (2 * dark.n < r.shade.nDark)
    (cols, if count || cover then (cols.foldl (fun m x => m ||| x.checks) 0) ||| (16 * b2n count + 32 * b2n cover) else 0)

/-- A corrected strip sample from its mean less OFFSET, with w = 1.0 (R231). -/
def stripSample (d r : Nat) (c : List Int) (b : Int) : Int :=
  let p := cubic c (sigma d b)
  let m := satS 32 (rnd ((recGain r : Int) * p) (2 ^ 24))
  satS 32 (rnd (m * b) ((2 ^ (14 + d) : Nat) : Int))

/-- The strip value of a side and plane slot (R231). -/
def stripValue (s : State) (r : CalRun) (recs : Tbl Nat) (side q : Nat) : Int :=
  let sv := s.banks.live.sv
  let (f, l) := if side = 0 then (sv.rwLFirst, sv.rwLLast) else (sv.rwRFirst, sv.rwRLast)
  match rwPort f with
  | none => 0
  | some p =>
    let c := (portOf s p).cfg
    let acc := tget {} (p * 4 + q) r.strip
    if acc.n < 64 || !(bit (r.shade.planes &&& sv.rwPlanes) q) then 0
    else
      let l := Nat.min l (p * 5120 + c.columns - 1)
      let ys := ((List.range (l + 1 - f)).map (f + ·)).map (fun col =>
        let rec' := tget (tget shadeReset (4 * col + q) s.banks.live.shade) (4 * col + q) recs
        stripSample c.depth rec' (collapse (tget polyReset (recTco rec') s.banks.live.poly) (meanTemp r p)) (rnd (acc.s.getD (col - p * 5120) 0) (acc.n : Int) - recOffset rec'))
      if ys.isEmpty then 0 else rnd (sumI ys) (ys.length : Int)

/-- The basis of a run (R227, R243): exposure, TCO of every record of its plane slots that is not the reset one (256 marks a defective one), and the sets that good records name: set 0 where a record has its reset value. -/
def basisOf (planes : Nat) (b : Bank) (gen : Nat) : CalBasis :=
  let used := b.shade.filter (fun e => bit planes (e.1 % 4))
  let good := used.filter (fun e => recDef e.2 == 0)
  { gen := gen, expo := b.expo, tcos := used.map (fun e => (e.1, if recDef e.2 = 0 then recTco e.2 else 256)),
    polys := ((if used.length < 163840 * popCount 4 planes then [0] else []) ++ good.map (fun (e : Nat × Nat) => recTco e.2)).eraseDups.map (fun t => (t, tget polyReset t b.poly)) }

/-- A bank still has the basis of a result (R243). -/
def basisHolds (c : CalBasis) (planes : Nat) (b : Bank) : Bool :=
  let was := fun (i : Nat) => ((c.tcos.find? (fun e => e.1 == i)).map Prod.snd).getD 0
  let keys := (c.tcos.map Prod.fst) ++ ((b.shade.map Prod.fst).filter (fun i => bit planes (i % 4)))
  c.expo == b.expo && keys.all (fun i => was i == 256 || was i == recTco (tget shadeReset i b.shade)) && c.polys.all (fun e => tget polyReset e.1 b.poly == e.2)

/-! ### The lamp result (R248, R249) -/

/-- R_s of a measurement, over the ports that take part in the run (R259). -/
def response (s : State) (ports : Nat) (m d : LampMeas) : Int :=
  let q := (lampStr s m.string).slot
  sumI (((enabledPorts s).filter (bit ports)).map (fun p =>
    let a := tget {} (p * 4 + q) m.accs
    let k := tget {} (p * 4 + q) d.accs
    if a.n = 0 || k.n = 0 then 0
    else sumI ((List.range a.s.length).map (fun i => rnd (a.s.getD i 0) (a.n : Int) - rnd (k.s.getD i 0) (k.n : Int)))))

/-- The lower median. -/
def lowerMedian (l : List Int) : Int := (sortI l).getD ((l.length - 1) / 2) 0

/-- New trims of the measured strings, and whether each is in limit; a string that R249 skips by now keeps its trim. -/
def lampTrims (s : State) (r : CalRun) : List (Nat × Nat × Bool) :=
  let rs := (r.dones.filter (fun e => !(skipString s e.1.string))).map (fun e => (e.1.string, (lampStr s e.1.string).slot, response s r.ports e.1 e.2))
  rs.map (fun e =>
    let ref := lowerMedian ((rs.filter (fun x => x.2.1 == e.2.1)).map (fun x => x.2.2))
    if e.2.2 ≤ 0 then (e.1, 32768, false)
    else
      let old := f64Round ((tget 32768 e.1 s.banks.live.trims : Nat) : Int) (-15)
      let v := f64Div (f64Mul old (f64OfInt ref)) (f64OfInt e.2.2)
      let t := (clampI (f64ToFix v 15) 0 65535).toNat
      (e.1, t, decide (r.limits.trimMin ≤ t) && decide (t ≤ r.limits.trimMax)))

/-! ### Grades (R241 to R245) -/

/-- Step j of N of one record (R244): GAIN and OFFSET move, the rest is the staged record's. -/
def gradeRec (v0 v1 staged j n : Nat) : Nat :=
  let mix := fun (a b : Int) => a + rnd ((b - a) * (j : Int)) (n : Int)
  recWith staged (mix (recGain v0 : Int) (recGain v1 : Int)).toNat (mix (recOffset v0) (recOffset v1))

/-- The staged bank takes writes (R56, R59). -/
def bankFree (s : State) : Bool := !s.banks.armed && s.banks.old.isNone

/-- A grade has a step to place: the last one placed is live (R244). -/
def gradeDue (s : State) : Bool := s.cal.grade.any (fun g => g.placed == g.live && decide (g.live < g.steps))

/-- Place the next step in the staged bank as soon as that is writable, and at START into an armed one too (R59, R244, Table 7.8). The host may write the bank's other settings until it is armed (R61). -/
def placeStep (s : State) : State :=
  match s.cal.grade with
  | none => s
  | some g =>
    if !gradeDue s || s.banks.old.isSome then s
    else
      let j := if g.finish then g.steps else g.placed + 1
      let shade := g.result.records.foldl (fun t e => 
        tset shadeReset e.1 (gradeRec (((g.v0.find? (fun v => v.1 == e.1)).map Prod.snd).getD shadeReset) e.2 (tget shadeReset e.1 t) j g.steps) t) s.banks.staged.shade
      { s with banks.staged := { s.banks.staged with shade := shade }, cal.grade := some { g with placed := j } }

/-- A step is placed and not yet live. -/
def gradePlaced (s : State) : Bool := s.cal.grade.any (fun g => decide (g.live < g.placed))

/-- At a Datum of the grade the bank that holds its step is armed, without STAGE_COMMIT (R61). -/
def gradeArm (s : State) : State :=
  if gradePlaced s && !s.banks.armed && s.banks.old.isNone then armLamps { s with banks.armed := true } else s

/-- CAL_APPLY START of a shading result (R242 to R244): the failed checks, or the state with its grade. -/
def startGrade (steps : Nat) (s : State) : Except Nat State :=
  match s.cal.pendShade with
  | none => .error 0
  | some p =>
    if !(basisHolds p.basis p.planes s.banks.staged) then .error chkBasis
    else
      let n := if steps = 0 then p.steps else clampN steps 1 16
      let g : Grade := { result := p, v0 := p.records.map (fun e => (e.1, tget shadeReset e.1 s.banks.live.shade)), steps := n, placed := 0, live := 0, finish := false }
      let s := { s with cal.grade := some g, cal.pendShade := none, banks.grade := true }
      .ok (placeStep s)

/-- The trims of a lamp result in the staged bank, armed (R249). -/
def stageTrims (ts : List (Nat × Nat)) (s : State) : State :=
  { s with banks.staged := { s.banks.staged with trims := ts.foldl (fun t e => tset 32768 e.1 e.2 t) s.banks.staged.trims }, banks.armed := true, cal.pendLamp := none }

/-- CAL_APPLY START of a lamp result (R249). -/
def applyTrims (ts : List (Nat × Nat)) (s : State) : State := armLamps (stageTrims ts s)

/-! ### Running white at Datums and block ends (R184 to R186, R245) -/

/-- Discard the open blocks (R185). DESIGN CHOICE (log 97): a block that is complete and whose row has not come yet is discarded with the open ones. -/
def dropBlocks (s : State) : State := { s with px.rw := s.px.rw.map (fun r => { r with lines := 0, n := 0, sum := 0, ready := [] }) }

/-- A change of running white at this instant: tile-plane-lines of the same instant keep what held before it (R158). -/
def keepRw (s : State) : State := { s with px.rwWas := (rwSeen s).1, px.genWas := (rwSeen s).2, px.rwT := some s.now }

def bumpGen (q : Nat) (s : State) : State := { s with px.rwGen := nmod 0 s.px.rwGen q (wrapInc 8) }

/-- A grade holds the tracking of a plane slot: from the Datum of its step 1 to that of its last (R186). DESIGN CHOICE (log 84): a plane slot outside the result's PLANES, which the grade does not touch, keeps tracking. -/
def gradeStops (s : State) (q : Nat) : Bool := s.cal.grade.any (fun g => decide (0 < g.live) && decide (g.live < g.steps) && bit g.result.planes q)

/-- W and RW_REF at the Datum of step j of N (R186, R245). DESIGN CHOICE (log 97): the Datum of a step moves the terms in every mode, as R186 says of it, in BENCH too. -/
def gradeWhite (g : Grade) (j : Nat) (s : State) : State :=
  let final := decide (g.steps ≤ j)
  let s := (List.range 8).foldl (fun s i =>
    if !(bit g.result.planes (i % 4)) then s
    else
      let f := fun (r : RwState) =>
        let w0 := if g.live = 0 then r.w else r.w0
        { r with w0 := w0, w := ((w0 : Int) + rnd ((8388608 - (w0 : Int)) * (j : Int)) (g.steps : Int)).toNat,
                 ref := if final && g.result.strips.getD i 0 != 0 then g.result.strips.getD i 0 else if final then 0 else r.ref }
      { s with px.rw := nmod {} s.px.rw i f }) (keepRw s)
  dropBlocks ((List.range 4).foldl (fun s q => if bit g.result.planes q then bumpGen q s else s) s)

/-- The grade step that goes live at this Datum, 0 for none (R244). -/
def gradeStepAt (d : Datum) (s : State) : Nat × State :=
  match s.cal.grade with
  | some g =>
    if d.holds && decide (g.live < g.placed) then
      let s := gradeWhite g g.placed s
      (g.placed, { s with cal.grade := some { g with live := g.placed } })
    else (0, s)
  | none => (0, s)

/-- The strip ranges or RW_PLANES differ (R185). -/
def stripsDiffer (a b : SvCfg) : Bool :=
  a.rwLFirst != b.rwLFirst || a.rwLLast != b.rwLLast || a.rwRFirst != b.rwRFirst || a.rwRLast != b.rwRLast || a.rwPlanes != b.rwPlanes

/-- The streams that STREAM_OPEN wrote restart at this repeat (R263); the format goes live. -/
def openFresh (d : Datum) (s : State) : State :=
  let b := s.banks.live
  let ns := (b.streams.filter (fun e => e.2.fresh && e.2.opened)).map Prod.fst
  let s := { s with dlv.streams := ((List.range 8).zip s.dlv.streams).map (fun (e : Nat × Stream) => if ns.contains e.1 then { e.2 with opening := some d.repeatNo } else e.2) }
  { s with banks.live := { b with streams := b.streams.map (fun (e : Nat × StreamFmt) => (e.1, { e.2 with fresh := false })) } }

/-- What a swap of banks does beyond the bank itself (R185, R186, R245, R263). -/
def onSwap (d : Datum) (old : Bank) (s : State) : State :=
  let b := s.banks.live
  let lamps := lampsDiffer old b
  let s := if stripsDiffer old.sv b.sv then dropBlocks s else s
  let s := if lamps || old.expo != b.expo then
      dropBlocks { s with px.rw := s.px.rw.map (fun r => { r with reref := true, wait := r.wait || lamps }) } else s
  let s := openFresh d s
  match s.cal.grade with
  | some g =>
    if g.steps ≤ g.live then
      let s := { s with cal.grade := none, banks.grade := false, cal.liveCount := satInc 32 s.cal.liveCount }
      calDone 0 0 0 0 0 255 0 s
    else s
  | none => s

/-- The fades of a Datum have ended, so the next blocks open (R185). -/
def fadesDone (s : State) : State :=
  if lampsDiffer { lamps := s.lamp.tgt, trims := s.lamp.trim } s.banks.live || s.lamp.strs.any (fun e => decide (e.2.j < e.2.steps)) then s
  else { s with px.rw := s.px.rw.map (fun r => { r with wait := false }) }

/-- A rejected block is reported (R251). -/
def rwRejected (side q : Nat) (s : State) : State :=
  let s := calResult 2 0x20 chkRange { s with cal.kinds := nmod {} s.cal.kinds 2 (fun c => { c with side := side, slot := q }) }
  if s.cal.rwRejecting && decide (s.now < s.cal.rwPosted - 1 + 1000000000) then s
  else calDone 2 0x20 chkRange side q 255 0 { s with cal.rwRejecting := true, cal.rwPosted := s.now + 1 }

/-- RUNNING_WHITE_BLOCK (R184): what the end of a complete block does, in the modes in which running white operates (R180). -/
def rwBlock (side q : Nat) (s : State) : State :=
  let c := s.banks.live.sv
  let i := 4 * side + q
  let r := s.px.rw.getD i {}
  match r.ready with
  | [] => s
  | (n, sum) :: rest =>
    if 2 ≤ side || 4 ≤ q || !(s.sys.mode = .inline || s.sys.mode = .proof) then s
    else
    let m := rnd sum (n : Int)
    let up := fun (k : Nat) (s : State) => { s with px.counters := nmod 0 s.px.counters k (satInc 32) }
    let put := fun (f : RwState → RwState) (s : State) => { s with px.rw := nmod {} s.px.rw i (fun r => f { r with ready := rest }) }
    let s := up 4 s
    if r.ref = 0 || r.reref then up 7 { put (fun r => { r with ref := m, reref := false }) s with cal.rwRejecting := false }
    else
      let wt := rnd ((r.w : Int) * r.ref) (if m < 1 then 1 else m)
      if wt < (c.rwMin : Int) || (c.rwMax : Int) < wt then rwRejected side q (up 6 (put id s))
      else
        let step := clampI (wt - (r.w : Int)) (-(c.rwStep : Int)) (c.rwStep : Int)
        let w := ((r.w : Int) + step).toNat
        let s := put (fun r => { r with w := w }) (if w = r.w then s else keepRw s)
        let s := if w = r.w then s else bumpGen q s
        let s := if step = wt - (r.w : Int) then s else up 5 s
        calDone 2 0 0 side q 255 0 (calResult 2 0 0 { s with cal.rwRejecting := false })

/-! ### Datums during a run (R227, R238, R247) -/

/-- Ports that a calibration run takes (R259): enabled and not retired. One that only retrains has absent tile-plane-lines, which add nothing (R229). -/
def runPorts (s : State) : Nat := sumN (((enabledPorts s).filter (fun p => !(bit s.ports.retired p))).map (fun p => 2 ^ p))

/-- A Datum passes: one that changes BANK_GEN ends the run (R238); the session's first one latches the basis and starts the sweep. -/
def onRepeat (d : Datum) (s : State) : State :=
  match s.cal.run with
  | none => s
  | some r =>
    if d.holds then abortCal chkBasis s
    else match r.basis with
    | some _ => if r.phase == .armed && bit d.flags 5 then setRun (fun r => { r with phase := .sweep, meas := some { string := 512 }, sweepDark := none }) s else s
    | none =>
      if r.phase == .armed && bit d.flags 5 then
        let planes := if r.kind = 0 then r.shade.planes else 15
        setRun (fun r => { r with phase := .sweep, basis := some (basisOf planes s.banks.live d.gen), meas := if r.kind = 1 then some { string := 512 } else none }) s
      else s

end Sys2Proof.Machine
end

