-- ==== Sys2Proof/Machine/DatumOps.lean ====
section
/-! DEFINITION. Fixing Datums, qualifying cues, and what happens when a Datum's first line is ticketed (R56 to R72). -/

namespace Sys2Proof.Machine

/-- First line whose grid centre lies at or beyond a position (R64). -/
def firstLineAt (tr : TransitSt) (pos : Int) : Int := ceilDiv (pos * 65536 - tr.x0) (tr.cfg.pitch : Int)

/-- The line boundary a Datum falls on, as predicted. -/
def datumLine (tr : TransitSt) (d : Datum) : Int := if d.byPos then firstLineAt tr d.pos else (d.line : Int)

/-- Two Datums on one boundary make one that lists both sources and is fixed by position if either is (R63). -/
def mergeDatum (a b : Datum) : Datum :=
  let p := if a.byPos then a else b
  { a with flags := a.flags ||| b.flags, byPos := a.byPos || b.byPos, pos := p.pos, deviation := p.deviation,
           holds := a.holds || b.holds, tFixed := Nat.min a.tFixed b.tFixed }

/-- Place a Datum in the order of the bar, merging on the same boundary. -/
def insertDatum (tr : TransitSt) (d : Datum) : List Datum → List Datum
  | [] => [d]
  | a :: r =>
    if a.passed then a :: insertDatum tr d r
    else if datumLine tr a = datumLine tr d then mergeDatum a d :: r
    else if datumLine tr d < datumLine tr a then d :: a :: r
    else a :: insertDatum tr d r

/-- Datums that already lie on the boundary of d and are not passed. -/
def sameBoundary (s : State) (d : Datum) : Bool :=
  s.datum.list.any (fun a => !a.passed && datumLine s.tr a == datumLine s.tr d)

/-- A tile-plane-line of an exposure in flight without verdict lies at or beyond a Datum (R64). -/
def splitBy (s : State) (d : Datum) (g : Slot) : Bool :=
  g.verdict.isNone && g.tpls.any (fun t => !t.discard && reaches d g.line (offs s t.port t.slot) (seen22 s.tr.cfg g.x (offs s t.port t.slot)))

/-- The collapses with the armed bank that exposures already frozen now need (R189): those made with a held temperature count in TEMP_HELD (R190). -/
def lateCollapse (d : Datum) (s : State) : State :=
  let n := sumN ((s.gate.filter (splitBy s d)).flatMap (fun g => g.held.map (fun p => (tcosOf s.banks.staged.shade p).length)))
  { s with px.counters := nmod 0 s.px.counters 3 (fun x => satInc 32 x n) }

/-- A grade arms the bank at the fixing of a Datum of its own (R61): sources that join a Datum fixed earlier are none. -/
def gradeAtFix (d : Datum) (s : State) : State := if sameBoundary s d || s.banks.bound.isSome then s else gradeArm s

/-- Fix a Datum now (R57): the armed bank is bound to the first Datum fixed after it is armed. A source that joins a Datum fixed earlier binds nothing. -/
def fixDatum (flags : Nat) (byPos : Bool) (pos : Int) (line : Nat) (dev : Int) (s : State) : State :=
  let d0 : Datum := { id := s.datum.nextId, flags := flags, byPos := byPos, pos := pos, line := line, deviation := dev,
                      holds := false, passed := false, repeatNo := 0, gen := 0, first := 0, tFixed := s.now }
  let s := gradeAtFix d0 s
  let binds := s.banks.armed && s.banks.bound.isNone && !sameBoundary s d0
  let d := { d0 with holds := binds }
  let s := if binds then lateCollapse d s else s
  { s with datum.list := insertDatum s.tr d s.datum.list, datum.nextId := s.datum.nextId + 1,
           banks.bound := if binds then some d.id else s.banks.bound }

/-- Fixed Datum positions that the bar has not yet reached (R67). -/
def heldPositions (s : State) : Nat :=
  (s.datum.list.filter (fun d => d.byPos && decide (correctedAt s.tr s.now < d.pos * 65536))).length

/-- The WINDOW in force (Table 2.6). -/
def windowNow (s : State) : Nat := windowClamp s.datum.cfg s.tr.cfg.pitch s.datum.cfg.window

/-- (Λ + 8) × pitch in S63.16. -/
def aheadNeeded (s : State) : Int := ((lookAhead s + 8 : Nat) : Int) * (s.tr.cfg.pitch : Int)

/-- Judge a cue candidate at C (R65, R67): none rejects it, else its deviation. DESIGN CHOICE (log 84): CUE_DEVIATION of an acquisition cue, which has no expected position, is measured from the previous Datum plus REPEAT_NOMINAL, and is 0 with no previous Datum. -/
def judgeCue (s : State) (cand : Int) : Option Int :=
  let c := s.datum.cfg
  if (c.cueOffset : Int) * 65536 < aheadNeeded s then none
  else if 8 ≤ heldPositions s then none
  else
    let spaced := match s.datum.prevPos with | none => true | some p => decide (p + (c.minSpacing : Int) ≤ cand)
    if !spaced then none
    else
      match s.datum.expected with
      | some e => if decide (e - (windowNow s : Int) ≤ cand) && decide (cand ≤ e + (windowNow s : Int)) then some (cand - e) else none
      | none => some (match s.datum.prevPos with | none => 0 | some p => cand - (p + (c.nominal : Int)))

/-- Offer a cue candidate at position C (R65, R66). -/
def offerCue (c : Int) (s : State) : State :=
  let cand := c + (s.datum.cfg.cueOffset : Int)
  match judgeCue s cand with
  | none => trCount 9 1 s
  | some dev =>
    let s := fixDatum 1 true cand 0 dev s
    { s with datum.prevPos := some cand, datum.expected := some (cand + (s.datum.cfg.nominal : Int)) }

/-- A sheet start in PROOF (R70): MIN_SPACING applies, and the look-ahead of R104. -/
def offerSheet (c : Int) (s : State) : State :=
  let cand := c + (s.datum.cfg.cueOffset : Int)
  let spaced := match s.datum.prevPos with | none => true | some p => decide (p + (s.datum.cfg.minSpacing : Int) ≤ cand)
  if !spaced || 8 ≤ heldPositions s || decide ((s.datum.cfg.cueOffset : Int) * 65536 < aheadNeeded s) then trCount 9 1 s
  else { fixDatum 8 true cand 0 0 s with datum.prevPos := some cand }

/-- Lines whose line ticket is not yet issued begin here (R105). -/
def nextTicketLine (s : State) : Nat := s.tr.nextK + lookAhead s

/-- The window closes without a cue (R66, R104). DESIGN CHOICE (log 84): a FLYWHEEL Datum that would be a ninth held position is dropped and counts in CUE_REJECT. -/
def closeWindow (e : Int) (s : State) : State :=
  let c := s.datum.cfg
  let moved := { s with datum.expected := some (e + (c.nominal : Int)) }
  if c.flywheel = 0 then moved
  else if 8 ≤ heldPositions s then trCount 9 1 moved
  else if ((c.cueOffset : Int) - (windowNow s : Int)) * 65536 < aheadNeeded s then
    { trCount 9 1 (fixDatum 16 false e (nextTicketLine s) 0 moved) with datum.prevPos := some e }
  else { fixDatum 16 true e 0 0 moved with datum.prevPos := some e }

/-- The settings of Table 6.1 stay behind at a swap inside a session (R192). -/
def swapBanks (sessionStart : Bool) (s : State) : State :=
  let live := s.banks.live
  { s with banks.live := { s.banks.staged with base := if sessionStart then s.banks.staged.base else live.base },
           mem.latentShade := s.mem.latentShade.map (fun e => (0, e.2)), banks.old := some live, banks.gen := wrapInc 16 s.banks.gen, banks.armed := false, banks.bound := none }

/-- The old bank is released: the staged bank becomes equal to the live bank, but for Table 6.1 (R59, R192), and takes the next step of a grade (R244). -/
def releaseBank (s : State) : State :=
  placeStep { s with banks.old := none, banks.staged := { s.banks.live with base := s.banks.staged.base } }

/-- Passed Datums that no line in flight can reach are dropped, keeping the last passed one. -/
def pruneDatums (l : List Datum) (needed : Datum → Bool) : List Datum :=
  match l with
  | a :: b :: r => if a.passed && b.passed && !needed a then pruneDatums (b :: r) needed else a :: b :: r
  | x => x

/-- The previous Datum position once a Datum fixed by line number falls at line n (R65): its grid position, but for a position already fixed further along the web (R70 too). -/
def lineMark (s : State) (n : Nat) : Int :=
  (s.datum.list.filter (fun d => d.byPos && !d.passed)).foldl (fun x d => max x d.pos) (reported (gridPos s.tr n))

/-- The ticket of a Datum's first line n is issued (R57, R71, R72). -/
def passDatum (d : Datum) (n : Nat) (s : State) : State :=
  let sessionStart := bit d.flags 5
  let holds := d.holds
  let old := s.banks.live
  let s := if holds then swapBanks sessionStart s else s
  let rep := wrapInc 32 s.datum.repeatNo
  let d' := { d with holds := holds, passed := true, repeatNo := rep, gen := s.banks.gen, first := n }
  let s := { s with datum.list := s.datum.list.map (fun x => if x.id = d.id then d' else x), datum.repeatNo := rep,
                    datum.prevPos := if d.byPos || bit d.flags 4 then s.datum.prevPos else some (lineMark s n),
                    datum.expected := if d.byPos || bit d.flags 4 || sessionStart then s.datum.expected
                                      else if s.datum.cfg.source = 0 then none else some (lineMark s n + (s.datum.cfg.nominal : Int)) }
  let (step, s) := gradeStepAt d' s
  let s := post 2 0xFFFF (layout 16 [(0, 4, rep), (4, 4, lineNo n), (8, 2, epochOf n), (10, 2, s.banks.gen), (12, 1, (d.flags ||| (64 * b2n (unsync s)))), (13, 1, step)]) s
  let s := if holds then onSwap d' old s else s
  let s := (List.range 32).foldl (fun s p =>
    let x := portOf s p
    if x.readmit = 2 && decide (x.readmitT ≤ d.tFixed) then
      complete (ofOpRes 0x0203 p) 0 0 0 (clearFault 0x0101 p (clearFaults 0x0102 (setPort p { x with readmit := 3, readmitAt := some n } s)))
    else s) s
  let s := { s with datum.list := s.datum.list.map (fun x => if x.id = d.id then { x with cals := s.cal.liveCount } else x) }
  onRepeat d' s

/-- A modulus Datum is due before line n (R68). -/
def modulusDue (s : State) (n : Nat) : Bool :=
  s.datum.cfg.source == 1 &&
  (match ((s.datum.list.filter Datum.passed).getLast?) with
   | none => false
   | some d => decide (n = d.first + s.datum.cfg.modulus))

/-- No Datum of this session has passed: its first line ticket gives the session-start Datum (R63, R105). -/
def sessionDue (s : State) : Bool := s.tr.session && !s.datum.list.any Datum.passed

/-- The staged values of Table 6.1 go live with the session-start Datum (R192), so its look-ahead counts already. -/
def sessionAhead (s : State) : Nat :=
  let takes := (s.banks.armed || (gradePlaced s && s.banks.old.isNone)) && (s.banks.bound.isNone || s.datum.list.any (fun d => d.holds && !d.byPos))
  if takes then lookAhead { s with banks.live := { s.banks.live with base := s.banks.staged.base } } else lookAhead s

/-- The first line ticket of a session: its start acts as DATUM_FORCE there (R63). -/
def sessionTicket (s : State) : State :=
  let n := s.tr.nextK + sessionAhead s
  let s := { s with dlv.nextOut := n, datum.list := s.datum.list.map (fun d => if d.byPos then d else { d with line := Nat.max d.line n }) }
  let s := fixDatum 32 false 0 n 0 s
  match s.datum.list.find? (fun d => bit d.flags 5) with
  | none => s
  | some d => passDatum d n s

/-- Issue the line ticket of line n: a modulus Datum is fixed, and every Datum whose first line it is passes. -/
def ticketLine (n : Nat) (s : State) : State :=
  if sessionDue s then sessionTicket s else
  let s := if modulusDue s n then fixDatum 2 false 0 n 0 s else s
  match s.datum.list.find? (fun d => !d.passed && decide (datumLine s.tr d ≤ (n : Int))) with
  | none => s
  | some d => passDatum d n s

end Sys2Proof.Machine
end

