-- ==== Sys2Proof/Machine/GateOps.lean ====
section
/-! DEFINITION. Exposures in flight: the freeze, tile-plane-lines, correction, verdicts, replays and withdrawals (chapters 3 and 5). -/

namespace Sys2Proof.Machine

/-- The temperature of a port at a freeze (R169), which collapses with every bank that may be its own (R58, R171): value in Q16.16 °C, and the state with what it counts and keeps. -/
def portTemp (p : Nat) (s : State) : Int × State :=
  let b := tget {} p s.px.binds
  let hold := fun (h : Bool) (s : State) => { s with px.binds := tset {} p { b with held := h } s.px.binds }
  if b.source = 255 then (b.fixed * 4096, s)
  else
    match auxGood s b.source with
    | (none, _) => (b.fixed * 4096, s)
    | (some v, bad) =>
      let t := clampI v (-55 * 65536) (150 * 65536)
      if !bad then (t, if b.held then hold false s else s)
      else
        let sets := fun (b : Bank) => (tcosOf b.shade p).length
        let n := sets s.banks.live + (if s.banks.bound.isSome then sets s.banks.staged else 0) + (s.banks.old.map sets).getD 0
        let told := s.px.binds.any (fun e => e.2.held && e.2.source == b.source)
        let s := { s with px.counters := nmod 0 s.px.counters 3 (fun x => satInc 32 x n) }
        (t, hold true (if told then s else evAux 7 b.source s))

/-- Rows a freeze exposes (R47, R105): the lead row stops with the stop, and a row waits until one of its tile-plane-lines serves the session's first line. -/
def exposes (s : State) (line p : Nat) : Bool :=
  let c := (portOf s p).cfg
  let lead := c.row == 1
  (match s.tr.leadStop with | some k => !lead || decide (line < k) | none => true) &&
  (enabledPorts s).any (fun p' => (portOf s p').cfg.row == c.row &&
    (slotsOf (portOf s p').cfg).any (fun q => decide (s.tr.rowN + lookAhead s ≤ line + offs s p' q / 64)))

/-- The tile-plane-lines of a readmitted port that serve lines before its own first one are discarded (R152). -/
def beforeReadmit (x : Port) (served : Nat) : Bool :=
  x.readmit == 2 || (x.readmit == 3 && (match x.readmitAt with | some n => decide (served < n) | none => false))

/-- The tile-plane-lines of an exposure (R93, R105, R122, R147). R122 gives the exposure none from a port that drives no SYNC, and R147 counts those very ones as absent: both hold of an absent tile-plane-line, for which no packet is awaited. -/
def makeTpls (s : State) (line : Nat) (x : Int) : List Tpl :=
  (enabledPorts s).flatMap (fun p =>
    if !exposes s line p then []
    else (slotsOf (portOf s p).cfg).map (fun q =>
      { port := p, slot := q, rid := ridAt s line (offs s p q) x, entered := false, dark := [], codes := [], seg := 0,
        complete := false, absent := !inService s p, silent := !inService s p, w := 8388608, gen := 0, y := [], replayed := false, done := false,
        discard := decide (line + offs s p q / 64 < s.tr.rowN + lookAhead s) || beforeReadmit (portOf s p) (line + offs s p q / 64) }))

/-- The retired mask a line latches now (R18, R152): a readmitted port's bit clears from the first line of its repeat. -/
def latchMask (line : Nat) (s : State) : Nat × State :=
  let back := (List.range 32).filter (fun p => match (portOf s p).readmitAt with | some n => decide (n ≤ line) | none => false)
  let s := back.foldl (fun s p => modPort p (fun x => { x with readmit := 0, readmitAt := none }) { s with ports.retired := setBit s.ports.retired p false }) s
  (s.ports.retired, s)

/-- The edges that the two sides report: a LOST side reports none, so it masks nothing (R209, R215). -/
def edgesOf (s : State) : Option Nat × Option Nat :=
  (if s.aln.left.locked then some s.aln.left.edge else none, if s.aln.right.locked then some s.aln.right.edge else none)

/-- The edges as a line latches them (R210, R220): those published last, without a publication of this same instant. -/
def edgesNow (s : State) : Option Nat × Option Nat := if s.aln.pubT = some s.now then s.aln.older else edgesOf s

/-- Gate entry of a line (R18). -/
def enterGate (i : Nat) (s : State) : State :=
  match s.gate[i]? with
  | none => s
  | some g =>
    if g.mask.isSome then s
    else
      let (m, s) := latchMask g.line s
      { s with gate := s.gate.set i { g with mask := some m, edges := some (edgesNow s), bar := some (barAt s.tr g.tp) } }

/-- Insert a grid line in line order (R17). -/
def addLine (l : GridLine) (ls : List GridLine) : List GridLine := insertBy GridLine.line l ls

/-- A SYNTH line takes the place of line k (R99, R201). -/
def synthLine (k mask : Nat) (edges : Option Nat × Option Nat) (t : Nat) (undiag stale : Bool) (lost : List Nat) (s : State) : State :=
  let x := gridPos s.tr k
  if k < s.tr.lineFrom then { s with aln.squashed := (k, lost) :: s.aln.squashed } else
  { s with aln.lines := addLine { line := k, kind := .squash, pos := reported x, rid := ridAt s k 0 x, mask := mask, edges := edges,
                                  replayed := false, undiag := undiag, stale := stale, t := stationAt s t } s.aln.lines,
           aln.squashed := (k, lost) :: s.aln.squashed }

/-- The tile-planes that lose a candidate with an exposure: those whose port drove SYNC for it (R122, R201). -/
def candidatesOf (ts : List Tpl) : List Nat := (ts.filter (fun t => !t.silent && !t.discard)).map (fun t => t.port * 4 + t.slot)

/-- The index moves past line k (R75, R108). -/
def consumeLine (k : Nat) (s : State) : State :=
  { s with tr.nextK := k + 1, tr.used := Nat.max s.tr.used (k + 1), tr.expoNo := wrapInc 32 s.tr.expoNo }

/-- A freeze with no free slot (R93): handled as a squash, no SYNC edge. DESIGN CHOICE (log 84): it counts in GATE_FULL and SQUASHES only, in UNCENTRED too. -/
def gateFull (k : Nat) (s : State) : State :=
  let (m, s) := latchMask k s
  let s := synthLine k m (edgesNow s) s.now (lampUndiag s) (calStale s) (candidatesOf (makeTpls s k (gridPos s.tr k))) s
  let s := trCount 2 1 (trCount 6 1 s)
  consumeLine k { s with tr.mark := Nat.max s.tr.mark (k + 1) }

/-- The bar term decays by 1/64 at each line while its channel is bad, and counts as 0 from the 1536th line (R86). -/
def decayBar (s : State) : State :=
  if s.tr.vibHeld = 0 then s
  else
    let n := s.tr.vibHeld
    { s with tr.vibHeld := n + 1, tr.dB := if 1536 ≤ n then 0 else satS 32 (sarRound (s.tr.dB * 63) 6), tr.vB := 0 }

/-- MAX_DELTA (Table 3.13): the largest |δ| of a repeat replaces the counter at the first line of the next one (log 51). -/
def noteDelta (rid mag : Nat) (s : State) : State :=
  if s.tr.maxRid = some rid then { s with tr.maxDelta := Nat.max s.tr.maxDelta mag }
  else
    let done := Nat.min (sarRound (s.tr.maxDelta : Int) 16).toNat (2 ^ 32 - 1)
    { s with tr.counters := if s.tr.maxRid.isSome then s.tr.counters.set 11 done else s.tr.counters, tr.maxDelta := mag, tr.maxRid := some rid }

/-- Freeze line k with its integration start as early as ts0 (R90 to R94, R107): tickets first, then the slot. DESIGN CHOICE (log 84): a line committed at once counts in UNCENTRED and not in COMMITS, which counts verdicts of R98. -/
def freezeLine (k : Nat) (ts0 : Nat) (e : Nat) (rid : Nat) (uncentred : Bool) (s : State) : State :=
  let s := decayBar s
  if 8 ≤ s.gate.length then gateFull k s
  else
    let ts1 := Nat.max (Nat.max ts0 s.tr.diagEnd) (Nat.max (s.tr.lastEnd + (if s.tr.lastStart.isSome then 500 else 0)) (match s.tr.lastStart with | some t => t + 8333 | none => 0))
    let ts := Nat.max ts1 (s.now + leadTime s)
    let s := if ts = ts0 then s else trCount 7 1 s
    let tp := ts + e / 2
    let tpls := makeTpls s k (if uncentred then correctedAt s.tr s.now else gridPos s.tr k)
    let (temps, s) := (enabledPorts s).foldl (fun (acc, s) p => let (v, s) := portTemp p s; (acc ++ [(p, v)], s)) (([] : Tbl Int), s)
    let x := if uncentred then satS 80 (correctedAt s.tr s.now + sarRound (s.tr.v * ((tp - s.now : Nat) : Int)) 24) else gridPos s.tr k
    let s := tpls.foldl (fun s t => if t.absent then portCount t.port 2 s else s) s
    let ports := ((tpls.filter (fun t => !t.absent)).map Tpl.port).eraseDups
    let g : Slot := { line := k, expo := s.tr.expoNo, ts := ts, tp := tp, e := e, freeze := s.now, deadline := deadlineOf s.tr tp, rid := rid,
                      verdict := if uncentred then some .uncentred else none, x := x, mask := none, edges := none, tpls := tpls,
                      high := [], due := ports, temps := temps, held := (enabledPorts s).filter (fun p => (tget {} p s.px.binds).held), replayed := false, collapsed := false, undiag := lampUndiag s, stale := calStale s }
    let s := lampFreeze (bankOf s rid) s.tr.expoNo ts (ts + e) s
    let s := consumeLine k { s with gate := s.gate ++ [g], tr.lastStart := some ts, tr.lastEnd := ts + e }
    if uncentred then enterGate (s.gate.length - 1) (trCount 5 1 { noteDelta rid (x - gridPos s.tr k).natAbs s with tr.mark := Nat.max s.tr.mark (k + 1) }) else s

/-- The correction of one complete tile-plane-line of a slot (R156, R188). -/
def correctTpl (g : Slot) (t : Tpl) (s : State) : Tpl :=
  let c := (portOf s t.port).cfg
  let temp := tget (0 : Int) t.port g.temps
  let (ys, (rep, fb, un), (d, sets)) := correctLine (bankOf s t.rid) t.port t.slot c temp t.w t.dark t.codes
  { t with y := ys, done := true, dref := d, sets := sets, fixes := [rep, fb, un] }

/-- A tile-plane-line that ALN takes counts as R177 says and is what R190 reports (log 53). -/
def countTpl (s : State) (t : Tpl) : State :=
  if t.absent || t.discard then s
  else
    let cs := (List.range 3).foldl (fun cs i => nmod 0 cs i (fun x => satInc 32 x (t.fixes.getD i 0))) s.px.counters
    { s with px.counters := cs, px.last := tset {} (t.port * 4 + t.slot) { d := t.dref, w := t.w, gen := t.gen, sets := t.sets } s.px.last }

/-- Nothing of a squashed or withdrawn exposure is corrected (R99, R100). -/
def dropped (g : Slot) : Bool := g.verdict == some .squash || g.verdict == some .withdraw

/-- A tile-plane-line is corrected with records in which a scrub has found a double-bit error: SHADE_DBE counts them (R525). -/
def useShade (ts : List Tpl) (s : State) : State :=
  let used := fun (e : Nat × Nat) => e.1 == 0 && ts.any (fun t => e.2 / 20480 == t.port && e.2 % 4 == t.slot)
  let n := (s.mem.latentShade.filter used).length
  if n = 0 then s else { s with mem.shadeDbe := satInc 32 s.mem.shadeDbe n, mem.latentShade := s.mem.latentShade.filter (fun e => !used e) }

/-- Correct every tile-plane-line of slot i that is ready (R159). -/
def correctReady (i : Nat) (s : State) : State :=
  match s.gate[i]? with
  | none => s
  | some g =>
    if !g.collapsed || dropped g then s
    else
      let ready := fun (t : Tpl) => t.complete && !t.done && !t.absent && !t.discard
      let ts := g.tpls.map (fun t => if ready t then correctTpl g t s else t)
      let s := useShade (g.tpls.filter ready) s
      { s with gate := s.gate.set i { g with tpls := ts } }

/-- The slot's packets are all corrected or discarded (R93). -/
def slotEmpty (g : Slot) : Bool :=
  g.tpls.all (fun t => t.absent || (t.complete && (t.done || t.discard || dropped g)))

/-- Pass the tile-plane-lines of a judged exposure to ALN (R188, R194). -/
def winTpls (s : State) (g : Slot) (x : Int) : List WinTpl :=
  ((g.tpls.filter (fun t => !t.discard)).map (fun t =>
    { line := g.line, port := t.port, slot := t.slot, absent := t.absent, x := x, rid := t.rid, gen := t.gen, y := if t.absent then [] else t.y,
      kind := g.verdict.getD .commit, mask := g.mask.getD s.ports.retired,
      due := g.line + if (portOf s t.port).cfg.row = 1 then (baseOf s t.port).stagger else 0 }))

/-- Free the oldest slot whose verdict is given and whose packets are done (R17, R93): one that waits for packets holds no later one. -/
def releaseSlots (s : State) : State :=
  match s.gate.find? (fun g => g.verdict.isSome && slotEmpty g) with
  | none => s
  | some g =>
    let r := s.gate.erase g
    match g.verdict with
    | none => s
    | some v =>
      if dropped g then { s with gate := r }
      else
        let s := g.tpls.foldl countTpl (calLine g s)
        let x := if v = .commit then gridPos s.tr g.line else g.x
        let l : GridLine := { line := g.line, kind := v, pos := reported g.x, rid := g.rid, mask := g.mask.getD s.ports.retired,
                              edges := g.edges.getD (none, none), replayed := g.replayed, undiag := g.undiag, stale := g.stale, t := stationAt s g.tp }
        { s with gate := r, aln.win := s.aln.win ++ (winTpls s g x).filter (fun w => w.due == w.line),
                   aln.store := s.aln.store ++ (winTpls s g x).filter (fun w => w.due != w.line), aln.lines := if g.line < s.tr.lineFrom then s.aln.lines else addLine l s.aln.lines }

/-- The stagger delay D of the bar: the largest of the lead-row ports in use, 0 on a one-row bar (R47). -/
def staggerMax (s : State) : Nat :=
  maxN ((enabledPorts s).map (fun p => if (portOf s p).cfg.row = 1 then (baseOf s p).stagger else 0))

/-- The end of the ending session's last line (R47): nothing more is frozen from here. -/
def stopReached (s : State) (k : Nat) : Bool :=
  match s.tr.stopAt, s.tr.leadStop with
  | some n, _ => decide (n ≤ k)
  | none, some n => decide (n + staggerMax s ≤ k)
  | none, none => false

/-- May line nextK be frozen at all. -/
def mayFreeze (s : State) : Bool := s.tr.session && !s.tr.closed && !stopReached s s.tr.nextK

/-- No further exposure comes with this line number: it was taken and has left the Gate, or none is taken any more. -/
def exposureOver (s : State) (n : Nat) : Bool :=
  s.gate.all (fun g => g.line != n) && (decide (n < s.tr.nextK) || !(mayFreeze s || (s.tr.session && s.tr.resumes)))

/-- Stored lines return to ALN with the trail-row tile-plane-lines of exposure L + STAGGER, and only then enter the Baseline window (R194). -/
def returnStored (s : State) : State :=
  if s.aln.store.isEmpty then s
  else { s with aln.win := s.aln.win ++ s.aln.store.filter (fun w => exposureOver s w.due), aln.store := s.aln.store.filter (fun w => !exposureOver s w.due) }

/-- Free as many as are ready; at most eight are in flight. -/
def releaseAll (s : State) : State := returnStored ((List.range 8).foldl (fun s _ => releaseSlots s) s)

/-- Replay the tile-plane-lines whose repeat changed (R101). An absent one takes its true repeat too, with nothing to replay (R148). -/
def replayTpls (g : Slot) (x : Int) (s : State) : Slot × State :=
  let (ts, n) := g.tpls.foldl (fun (acc, n) t =>
    let rid := ridAt s g.line (offs s t.port t.slot) x
    if t.discard || rid = t.rid then (acc ++ [t], n)
    else if t.absent then (acc ++ [{ t with rid := rid }], n)
    else
      let t' := { t with rid := rid, replayed := true }
      (acc ++ [if t.done then correctTpl g t' s else t'], n + 1)) (([] : List Tpl), 0)
  ({ g with tpls := ts, replayed := g.replayed || decide (0 < n) }, trCount 4 n s)

/-- Drive SYNC low on the ports that hold it high for a slot (R121). -/
def syncLow (ps : List Nat) (s : State) : State :=
  ps.foldl (fun s p => emit (.sync p false) (modPort p (fun x => { x with sync := false }) s)) s

/-- Withdraw the exposure of line k and every later one (R100). -/
def withdrawFrom (k : Nat) (s : State) : State :=
  let hit := s.gate.filter (fun g => decide (k ≤ g.line) && g.verdict != some .squash)
  let s := syncLow (hit.flatMap Slot.high).eraseDups s
  let drop := fun (g : Slot) =>
    if decide (k ≤ g.line) then { g with verdict := some Verdict.withdraw, tpls := g.tpls.filter (fun t => !(g.due.contains t.port)), due := [], high := [] } else g
  let past := s.aln.lines.filter (fun l => decide (k ≤ l.line) && l.kind != .squash)
  let s := trCount 3 (hit.length + past.length) { s with gate := s.gate.map drop }
  { s with tr.nextK := k, tr.mark := k, tr.used := k, aln.win := s.aln.win.filter (fun w => decide (w.line < k)), aln.store := s.aln.store.filter (fun w => decide (w.line < k)),
           aln.lines := s.aln.lines.filter (fun l => decide (l.line < k)), aln.squashed := s.aln.squashed.filter (fun l => decide (l.1 < k)) }

/-- Give the verdict for slot i at encoder position raw for t_p, S63.16 (R96 to R102): the bar term is the one latched at Gate entry (R18), which a verdict before any packet is itself. -/
def giveVerdict (i : Nat) (raw : Int) (s : State) : State :=
  let s := enterGate i s
  match s.gate[i]? with
  | none => s
  | some g =>
    let x := raw - g.bar.getD 0
    let delta := x - gridPos s.tr g.line
    let v := judgeDelta s.tr.cfg s.tr.regime delta
    match v with
    | .withdraw => withdrawFrom g.line s
    | .squash =>
      let s := synthLine g.line (g.mask.getD 0) (g.edges.getD (none, none)) g.tp g.undiag g.stale (candidatesOf g.tpls) (noteDelta (ridAt s g.line 0 (gridPos s.tr g.line)) delta.natAbs s)
      trCount 2 1 { s with gate := s.gate.set i { g with verdict := some .squash }, tr.mark := Nat.max s.tr.mark (g.line + 1) }
    | v =>
      let s := trCount (if v = .commit then 0 else 1) 1 { s with tr.mark := Nat.max s.tr.mark (g.line + 1) }
      let (g', s) := replayTpls g x s
      let rid := ridAt s g.line 0 x
      noteDelta rid delta.natAbs { s with gate := s.gate.set i { g' with verdict := some v, x := x, rid := rid } }

/-- The first slot without a verdict. -/
def unjudged (s : State) : Option (Nat × Slot) :=
  ((List.range s.gate.length).zip s.gate).find? (fun e => e.2.verdict.isNone)

/-- Verdicts for the exposures whose first measurement at or after t_p is known (R96, R97); tr0 is the tracker's state before the measurement now handled. -/
def judgeKnown (tr0 : TransitSt) (s : State) : State :=
  (List.range 8).foldl (fun s _ =>
    match unjudged s with
    | none => s
    | some (i, g) =>
      match bracket g.tp s.tr.hist with
      | (_, none) => s
      | (some a, some b) => giveVerdict i (interpolate a b g.tp) s
      | (none, some b) => giveVerdict i (clampBefore b (extrapolate tr0 (match tr0.last with | some a => (g.tp : Int) - (a.t : Int) | none => 0))) s) s

/-- Forget the measurements that no verdict can need any more. -/
def pruneMeas (s : State) : State :=
  let before := match unjudged s with | some (_, g) => Nat.min s.now g.tp | none => s.now
  { s with tr.hist := keepMeas before s.tr.hist }

/-- The verdict at the deadline, from extrapolation (R96, R97). -/
def judgeDeadline (s : State) : State :=
  match unjudged s with
  | none => s
  | some (i, g) =>
    if s.now < g.deadline then s
    else
      let raw := match s.tr.last with
        | some m => clampAfter m (if s.tr.v = 0 then (if m.down then 0 else -1) else s.tr.v) (extrapolate s.tr ((g.tp : Int) - (m.t : Int)))
        | none => s.tr.x
      releaseAll (giveVerdict i raw s)

/-- One UNCENTRED freeze when the corrected position has reached X_k (R107). -/
def freezeUncentred (s : State) : State :=
  let k := s.tr.nextK
  if mayFreeze s && s.tr.regime == .uncentred && decide (gridPos s.tr k ≤ correctedAt s.tr s.now) then
    let s := ticketLine (k + lookAhead s) s
    let (rid, e) := predictLine s k (correctedAt s.tr s.now)
    releaseAll (freezeLine k (s.now + leadTime s) e rid true s)
  else s

/-- The regime after a measurement (R106), and the position from which the entry speed has held. -/
def nextRegime (tr0 tr : TransitSt) : Regime × Option Int :=
  let rev2 := decide (tr.run ≤ -2)
  let fwd2 := decide (2 ≤ tr.run)
  let slow : Regime × Option Int := (.uncentred, if atLeastSpeed tr 5 && decide (0 < tr.run) then some tr.x else none)
  match tr0.regime with
  | .still => if tr.run < 0 then (.rev, none) else slow
  | .rev => if fwd2 then slow else (.rev, none)
  | .spec => if rev2 then (.rev, none) else if !atLeastSpeed tr 4 then slow else (.spec, none)
  | .uncentred =>
    if rev2 then (.rev, none)
    else if !atLeastSpeed tr 5 || tr.run < 0 then (.uncentred, none)
    else
      match tr0.fastFrom with
      | none => (.uncentred, some tr.x)
      | some x0 => if 16 * (tr.cfg.pitch : Int) ≤ tr.x - x0 then (.spec, none) else (.uncentred, some x0)

/-- At most n lines from k on whose predicted start lies inside the horizon, with start and end (R89), up to the first that lies beyond it or has no prediction. -/
def horizonFrom (s : State) : Nat → Nat → List (Nat × Int × Int)
  | 0, _ => []
  | n + 1, k =>
    match crossing s.tr k with
    | none => []
    | some tc =>
      let e := (predictLine s k (gridPos s.tr k)).2
      let ts := tc - ((e / 2 : Nat) : Int)
      if inHorizon s.tr s.now ts then (k, ts, ts + (e : Int)) :: horizonFrom s n (k + 1) else []

/-- The lines of the horizon (R89): those that DRV is told of. No two of them start within one nanosecond (R91). -/
def horizonLines (s : State) : List (Nat × Int × Int) := horizonFrom s (horizonSpan s.tr + 1) s.tr.nextK

/-- After a measurement the predictions are made anew and sent to DRV (R88, R89). -/
def refresh (s : State) : State :=
  let s := { s with tr := keepBar s.tr }
  { s with tr.horizon := if mayFreeze s && s.tr.regime == .spec then horizonLines s else [] }

/-- Lines whose grid position the corrected position has reached (R107). -/
def reached (s : State) : Nat := ((correctedAt s.tr s.now - gridPos s.tr s.tr.nextK).fdiv (s.tr.cfg.pitch : Int) + 1).toNat

/-- One measurement (R83, R84, R96, R106, R107): tracker, regime, verdicts, then UNCENTRED freezes. -/
def measure (m : Meas) (s : State) : State :=
  let tr0 := s.tr
  let d := sinceLast tr0 m.t
  let (x, v, a) :=
    match tr0.last with
    | none => (m.z, (0 : Int), (0 : Int))
    | some p =>
      if tr0.regime = .still then (m.z, restartSpeed m.z p.z d, 0)
      else if d = 0 then (trackZero tr0.cfg tr0.x m.z, tr0.v, tr0.a)
      else trackUpdate tr0.cfg tr0.x tr0.v tr0.a d m.z
  let run := if m.down then (if 0 < tr0.run then tr0.run + 1 else 1) else (if tr0.run < 0 then tr0.run - 1 else -1)
  let tr := { tr0 with x := x, v := v, a := a, last := some m, run := run }
  let (rg, ff) := nextRegime tr0 tr
  let s := judgeKnown tr0 (refresh { s with tr := { tr with regime := rg, fastFrom := ff, hist := m :: tr0.hist } })
  let s := (List.range (reached s)).foldl (fun s _ => freezeUncentred s) s
  pruneMeas (releaseAll s)

/-- FREEZE in SPEC (R90, R91): line nextK is frozen when the time base has reached L_s before its start. -/
def freezeSpec (s : State) : State :=
  let k := s.tr.nextK
  if !(mayFreeze s && s.tr.regime == .spec) then s
  else
    match crossing s.tr k with
    | none => s
    | some tc =>
      let n := k + lookAhead s
      let s1 := ticketLine n s
      let (rid, e) := predictLine s1 k (gridPos s.tr k)
      let ts0 := (tc - ((e / 2 : Nat) : Int)).toNat
      let ts1 := Nat.max (Nat.max ts0 s.tr.diagEnd) (match s.tr.lastStart with | some t => Nat.max (t + 8333) (s.tr.lastEnd + 500) | none => 0)
      if s.now + leadTime s < ts1 || !inHorizon s.tr s.now (tc - ((e / 2 : Nat) : Int)) then s else releaseAll (judgeKnown s1.tr (freezeLine k ts0 e rid false s1))

/-- With L_s below 1.0 µs in SPEC the pulse follows from the latest prediction and leaves before the freeze (R391). -/
def earlyLine (s : State) : State :=
  let k := s.tr.nextK
  if !(mayFreeze s && s.tr.regime == .spec) || decide (1000 ≤ leadTime s) || s.lamp.early == some s.tr.expoNo || decide (8 ≤ s.gate.length) then s
  else
    match crossing s.tr k with
    | none => s
    | some tc =>
      let s1 := ticketLine (k + lookAhead s) s
      let (rid, e) := predictLine s1 k (gridPos s.tr k)
      let ts0 := (tc - ((e / 2 : Nat) : Int)).toNat
      let ts1 := Nat.max (Nat.max ts0 s.tr.diagEnd) (match s.tr.lastStart with | some t => Nat.max (t + 8333) (s.tr.lastEnd + 500) | none => 0)
      if s.now + 1000 < ts1 || !inHorizon s.tr s.now (tc - ((e / 2 : Nat) : Int)) then s
      else
        let b := bankOf s1 rid
        let swap := lampsDiffer { lamps := s.lamp.tgt, trims := s.lamp.trim } b
        let s := if swap then takeTargets b ts1 s else s
        let s := emitPulse (b2n swap) { s with lamp.early := some s.tr.expoNo, lamp.refs := [s.now, s.lamp.refs.headD 0] }
        if swap then swapDuties s else s

/-- What LINE_PULSE finds to do: the pulse of a frozen exposure or of a proof cycle, else that of an exposure about to be frozen. -/
def pulseNow (s : State) : State :=
  if s.lamp.pulses.isEmpty && s.mot.cycle.isNone then earlyLine s else linePulse s

/-- A pulse that waits is the one that LINE_PULSE finds. -/
theorem pulseNow_waiting (s : State) (p : Nat × Nat) (r : List (Nat × Nat)) (h : s.lamp.pulses = p :: r) : pulseNow s = linePulse s := by
  simp [pulseNow, h]

end Sys2Proof.Machine
end

