-- ==== Sys2Proof/Machine/CodeMath.lean ====
section
/-! DEFINITION. Bolts: bit streams, the stored and fixed-ratio forms, the lossless forms with their code tables, and the decoder with its guards (chapter 8). -/

namespace Sys2Proof.Machine

/-- A payload as bits: bit j of the payload is element j (R268). -/
abbrev BitL := List Bool

/-- A value of n bits, least significant bit first (R268). -/
def putLsb : Nat → Nat → BitL
  | 0, _ => []
  | n + 1, w => (w % 2 == 1) :: putLsb n (w / 2)

/-- A Huffman code of n bits, most significant bit first (R268). -/
def putMsb (n w : Nat) : BitL := (putLsb n w).reverse

/-- The number that bits spell, least significant first. -/
def getLsb : BitL → Nat
  | [] => 0
  | b :: r => b2n b + 2 * getLsb r

/-- The bits of bytes, in payload order. -/
def bitsOf (bs : List Byte) : BitL := bs.flatMap (fun b => putLsb 8 b.toNat)

/-- n bytes from a bit list, zero padded. -/
def packN : Nat → BitL → List Byte
  | 0, _ => []
  | n + 1, l => BitVec.ofNat 8 (getLsb (l.take 8)) :: packN n (l.drop 8)

/-- A payload padded with zero bits to whole 64-byte units. -/
def packPayload (l : BitL) : List Byte := packN (64 * ceilN l.length 512) l

/-- S: the size of a stored payload (R269). -/
def storedBytes (lines width d : Nat) : Nat := 64 * ceilN (lines * width * d) 8

/-- P: the size of a fixed-ratio payload, target as 4T (R270). -/
def fixedBytes (lines width t4 : Nat) : Nat := 64 * ceilN (lines * width * t4) 32

/-- A stored payload (R269): every sample at d bits in raster order. -/
def storedPayload (d : Nat) (rows : List (List Nat)) : List Byte :=
  packPayload (rows.flatten.flatMap (putLsb d))

/-! ### Fixed ratio (R270 to R274) -/

/-- qr of a residual (R271). -/
def quantRes (q : Nat) (r : Int) : Int :=
  if q = 0 then r
  else
    let m : Int := (((r.natAbs + 2 ^ (q - 1)) / 2 ^ q : Nat) : Int)
    if r < 0 then -m else m

/-- The residuals and reconstructions of a sub-block from its first prediction (R271). -/
def codeSub (d q : Nat) : Int → List Nat → List Int × List Int
  | _, [] => ([], [])
  | pred, u :: us =>
    let qr := quantRes q ((u : Int) - pred)
    let v := clampI (pred + qr * (2 ^ q : Nat)) 0 ((2 ^ d : Nat) - 1)
    let (rs, vs) := codeSub d q v us
    (qr :: rs, v :: vs)

/-- Smallest two's complement width of one residual; 0 for 0. -/
def widthOf (r : Int) : Nat :=
  if r = 0 then 0 else if 0 < r then Nat.log2 r.natAbs + 2 else Nat.log2 (r.natAbs * 2 - 1) + 1

/-- K(q) (R272). -/
def widthSub (rs : List Int) : Nat := maxN (rs.map widthOf)

/-- Bits of a coded sub-block (R272). -/
def emitSub (q k : Nat) (rs : List Int) : BitL :=
  putLsb 4 q ++ putLsb 5 k ++ (if k = 0 then [] else rs.flatMap (fun r => putLsb k (ofS k r)))

/-- The units of 64 samples of a line. -/
def unitsOf : Nat → List Nat → List (List Nat)
  | 0, _ => []
  | n + 1, l => l.take 64 :: unitsOf n (l.drop 64)

/-- Sub-blocks in raster order: whether one starts a line, and its samples. -/
def subBlocks (width : Nat) (rows : List (List Nat)) : List (Bool × List Nat) :=
  rows.flatMap (fun r => (withIdx 0 (unitsOf width r)).map (fun (k, u) => (k == 0, u)))

/-- Prediction of a sub-block's first sample: the reconstruction above at column 0, or the one to the left. -/
def firstPred (start : Bool) (above left : Int) : Int := if start then above else left

/-- Cost of the lossless pass (R273): reconstructions equal inputs. -/
def losslessCost (d : Nat) (above left : Int) : List (Bool × List Nat) → Nat
  | [] => 0
  | (st, u) :: r =>
    let rs := (codeSub d 0 (firstPred st above left) u).1
    let head : Int := ((u.headD 0 : Nat) : Int)
    9 + 64 * widthSub rs + losslessCost d (if st then head else above) ((u.getLastD 0 : Nat) : Int) r

/-- The quantiser of a sub-block within its share (R273): the smallest q that fits, or none. -/
def pickQ (d : Nat) (pred : Int) (u : List Nat) (share : Nat) : Option (Nat × Nat × List Int × List Int) :=
  (List.range (Nat.min d 15 + 1)).findSome? (fun q =>
    let (rs, vs) := codeSub d q pred u
    let k := widthSub rs
    if 9 + 64 * k ≤ share then some (q, k, rs, vs) else none)

/-- The greedy pass of R273 over the remaining sub-blocks: its bits and reconstructions. -/
def greedy (d : Nat) (above left : Int) (bitsLeft : Nat) : List (Bool × List Nat) → BitL × List Int
  | [] => ([], [])
  | (st, u) :: r =>
    let pred := firstPred st above left
    let share := bitsLeft / (r.length + 1)
    let (q, k, rs, vs) := (pickQ d pred u share).getD (0, 0, [], u.map (fun _ => pred))
    let above' := if st then vs.headD pred else above
    let (bs, out) := greedy d above' (vs.getLastD pred) (bitsLeft - (9 + 64 * k)) r
    (emitSub q k rs ++ bs, vs ++ out)

/-- The lossless pass's bits. -/
def exact (d : Nat) (above left : Int) : List (Bool × List Nat) → BitL
  | [] => []
  | (st, u) :: r =>
    let rs := (codeSub d 0 (firstPred st above left) u).1
    emitSub 0 (widthSub rs) rs ++ exact d (if st then ((u.headD 0 : Nat) : Int) else above) ((u.getLastD 0 : Nat) : Int) r

/-- The payload of a fixed-ratio bolt and its MAXERR (R270 to R274). -/
def fixedPayload (d t4 width : Nat) (rows : List (List Nat)) : List Byte × Nat :=
  let p := fixedBytes rows.length width t4
  let subs := subBlocks width rows
  let mid : Int := (2 ^ (d - 1) : Nat)
  if losslessCost d mid mid subs ≤ 8 * p then (packN p (exact d mid mid subs), 0)
  else
    let (bs, vs) := greedy d mid mid (8 * p) subs
    let errs := (rows.flatten.zip vs).map (fun (u, v) => ((u : Int) - v).natAbs)
    (packN p bs, Nat.min (maxN errs) 0xFFFF)

/-! ### Lossless (R275 to R281) -/

/-- The median-edge predictor (R275). -/
def medPred (a b c : Int) : Int :=
  let hi := if a ≤ b then b else a
  let lo := if a ≤ b then a else b
  if hi ≤ c then lo else if c ≤ lo then hi else a + b - c

/-- The prediction at column i of a line from its left sample and the line above (R275). -/
def losslessPred (d : Nat) (above : Option (List Nat)) (i : Nat) (left : Nat) : Int :=
  match above with
  | none => if i = 0 then (2 ^ (d - 1) : Nat) else (left : Int)
  | some l => if i = 0 then ((l.getD 0 0 : Nat) : Int) else medPred (left : Int) ((l.getD i 0 : Nat) : Int) ((l.getD (i - 1) 0 : Nat) : Int)

/-- The mapped residual m of a sample (R275). -/
def mapRes (d : Nat) (u : Nat) (pred : Int) : Nat :=
  let half : Int := (2 ^ (d - 1) : Nat)
  let e := ((u : Int) - pred + half) % ((2 ^ d : Nat) : Int) - half
  if 0 ≤ e then (2 * e).toNat else (-2 * e - 1).toNat

/-- The mapped residuals of a bolt in raster order. -/
def residuals (d : Nat) (above : Option (List Nat)) : List (List Nat) → List Nat
  | [] => []
  | l :: r => (withIdx 0 l).map (fun (i, u) => mapRes d u (losslessPred d above i (l.getD (i - 1) 0))) ++ residuals d (some l) r

/-- The class of a mapped residual (R276). -/
def classOf (m : Nat) : Nat := if m = 0 then 0 else Nat.log2 m + 1

/-- The built-in tables (R278): the classes ranked from the peak outward take the listed lengths. -/
def builtinLengths : List Nat := [1, 3, 3, 3, 4, 5, 6, 7, 8, 9, 10, 11, 12, 13, 14, 15, 15]

/-- Rank order around a peak class. -/
def rankOrder (p : Nat) : List Nat :=
  p :: (List.range 17).flatMap (fun i =>
    let k := i + 1
    (if p + k ≤ 16 then [p + k] else []) ++ (if k ≤ p then [p - k] else []))

/-- ST0 to ST7 as the lengths of classes 0 to 16. -/
def builtinTable (i : Nat) : List Nat :=
  let p := [0, 1, 2, 3, 4, 6, 8, 10].getD i 0
  let r := (rankOrder p).zip builtinLengths
  (List.range 17).map (fun c => ((r.find? (fun e => e.1 == c)).map (·.2)).getD 0)

/-- Nine bytes of lengths, and back (R279). -/
def tableBytes (ls : List Nat) : List Byte := (List.range 9).map (fun i => BitVec.ofNat 8 (ls.getD (2 * i) 0 + 16 * ls.getD (2 * i + 1) 0))

def tableOf (bs : List Byte) : List Nat :=
  (List.range 17).map (fun c => ((bs.getD (c / 2) 0).toNat / (if c % 2 = 0 then 1 else 16)) % 16)

/-- A valid table (R277). -/
def tableValid (ls : List Nat) : Bool :=
  let used := ls.filter (fun l => l != 0)
  (used.length == 1 && used == [1]) ||
  (decide (2 ≤ used.length) && sumN (used.map (fun l => 2 ^ (15 - l))) == 2 ^ 15)

/-- The nine bytes of a loaded table are valid: bits 7:4 of byte 8 are 0 and the lengths form a table (R279). -/
def tableBytesValid (bs : List Byte) : Bool := (bs.getD 8 0).toNat < 16 && tableValid (tableOf bs)

/-- Classes with a code in canonical order: by length, then class (R277). -/
def canonOrder (ls : List Nat) : List (Nat × Nat) :=
  (List.range 15).flatMap (fun i => (withIdx 0 ls).filterMap (fun (c, l) => if l = i + 1 then some (l, c) else none))

/-- Codes in canonical order: class, length, code. -/
def canonCodes (ls : List Nat) : List (Nat × Nat × Nat) :=
  go 0 0 true (canonOrder ls)
where
  go (prev len : Nat) (first : Bool) : List (Nat × Nat) → List (Nat × Nat × Nat)
    | [] => []
    | (l, c) :: r =>
      let code := if first then 0 else (prev + 1) * 2 ^ (l - len)
      (c, l, code) :: go code l false r

/-- The code of one mapped residual: none where its class has none. -/
def codeRes (codes : List (Nat × Nat × Nat)) (m : Nat) : Option BitL :=
  let n := classOf m
  (codes.find? (fun e => e.1 == n)).map (fun (_, l, w) => putMsb l w ++ (if n ≤ 1 then [] else putLsb (n - 1) (m - 2 ^ (n - 1))))

/-- The codes of a bolt; none where a class has no code (R281). -/
def codeAll (codes : List (Nat × Nat × Nat)) : List Nat → Option BitL
  | [] => some []
  | m :: r => (codeRes codes m).bind (fun b => (codeAll codes r).map (b ++ ·))

/-- Every profile of lengths of a complete code within 15 bits, ascending: open nodes and classes left at a level (R280). -/
def profiles : Nat → Nat → Nat → Nat → List (List Nat)
  | 0, _, _, _ => []
  | fuel + 1, level, opn, left =>
    (List.range (Nat.min opn left + 1)).flatMap (fun a =>
      let rest := opn - a
      let left' := left - a
      if rest = 0 then (if left' = 0 then [List.replicate a level] else [])
      else if left' < 2 * rest then []
      else (profiles fuel (level + 1) (2 * rest) left').map (List.replicate a level ++ ·))

/-- Order of two (cost, lengths) candidates (R280): cost, then the lengths in lexicographic order. -/
def lexLt : List Nat → List Nat → Bool
  | a :: r, b :: s => if a < b then true else if b < a then false else lexLt r s
  | _, _ => false

/-- The table of a DYNAMIC bolt from its class counts (R280). Classes in decreasing count, lower class first among equals, take the lengths ascending: any other assignment of a profile costs more or comes later. -/
def optimalTable (counts : List Nat) : List Nat :=
  let used := (withIdx 0 counts).filter (fun e => e.2 != 0)
  if used.length ≤ 1 then counts.map (fun n => if n = 0 then 0 else 1)
  else
    let top := maxN (used.map (·.2))
    let order := used.foldl (fun l e => insertBy (fun x => top - x.2) e l) []
    let cands := (profiles 15 1 2 used.length).map (fun ls =>
      let pairs := order.zip ls
      let cost := sumN (pairs.map (fun (e, l) => e.2 * l))
      (cost, (List.range 17).map (fun c => ((pairs.find? (fun e => e.1.1 == c)).map (·.2)).getD 0)))
    match cands with
    | [] => counts.map (fun _ => 0)
    | c :: r => (r.foldl (fun best x => if x.1 < best.1 || (x.1 == best.1 && lexLt x.2 best.2) then x else best) c).2

/-- Counts of the classes of a bolt. -/
def classCounts (ms : List Nat) : List Nat :=
  let cs := ms.map classOf
  (List.range 17).map (fun c => (cs.filter (· == c)).length)

/-- A coded bolt: MODE, TABLE_ID, MAXERR and payload; whether a lossless bolt was stored instead. -/
structure Coded where
  mode    : Nat
  tableId : Nat
  maxErr  : Nat
  payload : List Byte
  stored  : Bool := false
deriving DecidableEq, Repr

def codeStored (d : Nat) (rows : List (List Nat)) (fallback : Bool) : Coded :=
  { mode := 0, tableId := 0, maxErr := 0, payload := storedPayload d rows, stored := fallback }

/-- A lossless bolt with one static table (R275 to R281). -/
def codeStatic (d width tableId : Nat) (lengths : List Nat) (rows : List (List Nat)) : Coded :=
  match codeAll (canonCodes lengths) (residuals d none rows) with
  | none => codeStored d rows true
  | some bs =>
    let p := packPayload bs
    if storedBytes rows.length width d ≤ p.length then codeStored d rows true
    else { mode := 2, tableId := tableId, maxErr := 0, payload := p }

/-- A lossless bolt with its own table (R280, R281). -/
def codeDynamic (d width : Nat) (rows : List (List Nat)) : Coded :=
  let ms := residuals d none rows
  let ls := optimalTable (classCounts ms)
  match codeAll (canonCodes ls) ms with
  | none => codeStored d rows true
  | some bs =>
    let p := packPayload (bitsOf (tableBytes ls) ++ bs)
    if storedBytes rows.length width d ≤ p.length then codeStored d rows true
    else { mode := 3, tableId := 0xFF, maxErr := 0, payload := p }

/-- Code a bolt of WIDTH units (Table 8.1): coding 0 NONE, 1 FIXED, 2 STATIC, 3 DYNAMIC; table gives the lengths of an ID. -/
def codeBolt (coding d width t4 tableId : Nat) (table : Nat → List Nat) (rows : List (List Nat)) : Coded :=
  match coding with
  | 1 =>
    if t4 = 4 * d then codeStored d rows false
    else
      let (p, e) := fixedPayload d t4 width rows
      { mode := 1, tableId := t4, maxErr := e, payload := p }
  | 2 => codeStatic d width tableId (table tableId) rows
  | 3 => codeDynamic d width rows
  | _ => codeStored d rows false

/-- The most bytes a bolt's payload can have (R285). -/
def reservedPayload (coding d width t4 lines : Nat) : Nat :=
  if coding = 1 then fixedBytes lines width t4 else storedBytes lines width d

/-- DEPTH as Table 6.9 codes it, bytes per sample, and back. -/
def depthCode (d : Nat) : Nat := if d = 8 then 0 else if d = 10 then 1 else if d = 12 then 2 else 3
def depthOf (c : Nat) : Nat := [8, 10, 12, 16].getD c 16
def sampleBytes (d : Nat) : Nat := if d = 8 then 1 else 2

/-- What a bolt header carries beside the coded bolt (Table 8.2). -/
structure BoltHead where
  slot   : Nat
  depth  : Nat
  seq    : Nat
  first  : Nat
  epoch  : Nat
  lines  : Nat
  width  : Nat
  column : Nat
  stream : Nat
  repeatNo : Nat
deriving DecidableEq, Repr

/-- A bolt: its 48-byte header (Table 8.2) and its payload. -/
def boltBytes (h : BoltHead) (c : Coded) : List Byte :=
  layout 48 [(0, 2, 0xB017), (2, 1, c.mode), (3, 1, h.slot + 4 * depthCode h.depth), (4, 4, h.seq), (8, 4, h.first),
             (0x0C, 2, h.epoch), (0x0E, 1, h.lines), (0x0F, 1, h.width), (0x10, 4, h.column), (0x14, 4, c.payload.length),
             (0x18, 4, h.lines * h.width * 64 * sampleBytes h.depth), (0x1C, 2, c.maxErr), (0x1E, 1, c.tableId),
             (0x1F, 1, h.stream), (0x20, 4, h.repeatNo), (0x24, 4, crc32c c.payload)] ++ c.payload

/-! ### Cutting plane-rows (R260) -/

/-- WIDTH of bolt column b of N_C columns. -/
def boltWidth (nc b : Nat) : Nat := Nat.min 8 (ceilN (nc - 512 * b) 64)

def boltColumns (nc : Nat) : Nat := ceilN nc 512

/-- The samples of bolt column b of one line, padded with the line's last column (R260). -/
def boltLine (nc b : Nat) (line : List Nat) : List Nat :=
  let w := 64 * boltWidth nc b
  let l := (line.drop (512 * b)).take w
  l ++ List.replicate (w - l.length) (line.getD (nc - 1) 0)

/-! ### Decoding (R290, R291) -/

/-- Read n bits, least significant first; none past the end. -/
def takeBits (n : Nat) (l : BitL) : Option (Nat × BitL) :=
  if l.length < n then none else some (getLsb (l.take n), l.drop n)

/-- Decode stored samples. -/
def readStored (d : Nat) : Nat → BitL → Option (List Nat)
  | 0, _ => some []
  | n + 1, l => (takeBits d l).bind (fun (u, r) => (readStored d n r).map (u :: ·))

/-- The residuals of one sub-block, each added to its prediction. -/
def readSub (d q k : Nat) : Nat → Int → BitL → Option (List Int × BitL)
  | 0, _, l => some ([], l)
  | n + 1, pred, l =>
    (takeBits k l).bind (fun (w, r) =>
      let v := clampI (pred + toS k w * (2 ^ q : Nat)) 0 ((2 ^ d : Nat) - 1)
      (readSub d q k n v r).map (fun (vs, r) => (v :: vs, r)))

/-- Decode the sub-blocks of a fixed-ratio payload. -/
def readFixed (d : Nat) (above left : Int) : List Bool → BitL → Option (List Int)
  | [], _ => some []
  | st :: rest, l =>
    (takeBits 9 l).bind (fun (w, r) =>
      let q := w % 16
      let k := w / 16
      let pred := firstPred st above left
      if 17 < k || (k != 0 && Nat.min d 15 < q) then none
      else
        let sub := if k = 0 then some (List.replicate 64 pred, r) else readSub d q k 64 pred r
        sub.bind (fun (vs, r) =>
          (readFixed d (if st then vs.headD pred else above) (vs.getLastD pred) rest r).map (vs ++ ·)))

/-- Read one class code: the shortest code of the table that the bits begin with. -/
def readClass (codes : List (Nat × Nat × Nat)) (l : BitL) : Option (Nat × BitL) :=
  (codes.find? (fun (_, n, w) => decide (n ≤ l.length) && l.take n == putMsb n w)).map (fun (c, n, _) => (c, l.drop n))

/-- Read one mapped residual of depth d. -/
def readRes (codes : List (Nat × Nat × Nat)) (d : Nat) (l : BitL) : Option (Nat × BitL) :=
  (readClass codes l).bind (fun (n, r) =>
    if d < n then none
    else if n = 0 then some (0, r)
    else (takeBits (n - 1) r).map (fun (x, r) => (2 ^ (n - 1) + x, r)))

/-- u from its prediction and mapped residual (R275). -/
def unmapRes (d : Nat) (m : Nat) (pred : Int) : Nat :=
  let e : Int := if m % 2 = 0 then ((m / 2 : Nat) : Int) else -(((m + 1) / 2 : Nat) : Int)
  ((pred + e) % ((2 ^ d : Nat) : Int)).toNat

/-- Decode one line. -/
def readLine (codes : List (Nat × Nat × Nat)) (d : Nat) (above : Option (List Nat)) : Nat → Nat → Nat → BitL → Option (List Nat × BitL)
  | 0, _, _, l => some ([], l)
  | n + 1, i, left, l =>
    (readRes codes d l).bind (fun (m, r) =>
      let u := unmapRes d m (losslessPred d above i left)
      (readLine codes d above n (i + 1) u r).map (fun (us, r) => (u :: us, r)))

/-- Decode a lossless payload of lines of w columns. -/
def readLossless (codes : List (Nat × Nat × Nat)) (d w : Nat) (above : Option (List Nat)) : Nat → BitL → Option (List Nat)
  | 0, _ => some []
  | n + 1, l => (readLine codes d above w 0 0 l).bind (fun (us, r) => (readLossless codes d w (some us) n r).map (us ++ ·))

/-- The samples of a bolt's payload, or none where the bitstream fails. -/
def decodePayload (mode d lines width : Nat) (codes : List (Nat × Nat × Nat)) (skip : Nat) (payload : List Byte) : Option (List Nat) :=
  let l := bitsOf payload
  match mode with
  | 0 => readStored d (lines * width * 64) l
  | 1 =>
    let mid : Int := (2 ^ (d - 1) : Nat)
    (readFixed d mid mid ((List.range (lines * width)).map (fun i => i % width == 0)) l).map (fun vs => vs.map Int.toNat)
  | _ => readLossless codes d (width * 64) none lines (l.drop skip)

/-- The header checks of Table 8.10 in order, with the source and destination bytes left: the guard, 0 where all pass. -/
def headGuard (b : List Byte) (dstLeft : Nat) : Nat :=
  let mode := field b 2 1
  let d := depthOf (bits (field b 3 1) 2 2)
  let lines := field b 0x0E 1
  let width := field b 0x0F 1
  let pb := field b 0x14 4
  let raw := field b 0x18 4
  let tid := field b 0x1E 1
  let st := storedBytes lines width d
  if b.length < 48 then 7
  else if field b 0 2 != 0xB017 then 1
  else if 3 < mode then 2
  else if lines < 1 || 32 < lines || width < 1 || 8 < width then 3
  else if raw != lines * width * 64 * sampleBytes d then 4
  else if pb = 0 || pb % 64 != 0 || (mode == 0 && pb != st) || (mode == 1 && (tid < 8 || 4 * d - 1 < tid || pb != fixedBytes lines width tid))
      || (decide (2 ≤ mode) && decide (st < pb)) then 5
  else if 2 ≤ mode && 16 * pb < raw then 6
  else if b.length < 48 + pb then 7
  else if dstLeft < raw then 8
  else 0

/-- The samples as c-byte little-endian words. -/
def sampleWords (d : Nat) (us : List Nat) : List Byte := us.flatMap (leBytes (sampleBytes d))

/-- Decode the bolt at the front of bytes: its sample bytes, MAXERR and size, or the guard that fails. -/
def decodeBolt (table : Nat → List Nat) (b : List Byte) (dstLeft : Nat) : Except Nat (List Byte × Nat × Nat) :=
  match headGuard b dstLeft with
  | 0 =>
    let mode := field b 2 1
    let d := depthOf (bits (field b 3 1) 2 2)
    let lines := field b 0x0E 1
    let width := field b 0x0F 1
    let pb := field b 0x14 4
    let tid := field b 0x1E 1
    let payload := (b.drop 48).take pb
    let ls := if mode = 2 then table tid else tableOf payload
    if crc32c payload != field b 0x24 4 then .error 9
    else if (mode == 2 && (decide (23 < tid) || !tableValid ls)) || (mode == 3 && (tid != 0xFF || !tableBytesValid payload)) then .error 0x0A
    else
      match decodePayload mode d lines width (canonCodes ls) (if mode = 3 then 72 else 0) payload with
      | none => .error 0x0B
      | some us => .ok (sampleWords d us, field b 0x1C 2, 48 + pb)
  | g => .error g

end Sys2Proof.Machine
end

