-- ==== Sys2Proof/Machine/DeliveryOps.lean ====
section
/-! DEFINITION. A stream's items: plane-rows, records, gaps, the ring store and host buffers (chapter 9). -/

namespace Sys2Proof.Machine

def streamOf (s : State) (n : Nat) : Stream := s.dlv.streams.getD n {}

def setStream (n : Nat) (x : Stream) (s : State) : State := { s with dlv.streams := s.dlv.streams.set n x }

def modStream (n : Nat) (f : Stream → Stream) (s : State) : State := setStream n (f (streamOf s n)) s

/-- Raise one of the six terms of R313 (64 bits, wrapping). -/
def addTerm (i n : Nat) (x : Stream) : Stream := { x with terms := nmod 0 x.terms i (fun v => wrapInc 64 v n) }

/-! ### Store occupancy (R306) -/

/-- Bytes of a plane-row's line-header block. -/
def headBytes (r : PlaneRow) : Nat := 16 + 32 * r.groups.length

def rowBoltCount (r : PlaneRow) : Nat := r.slots.length * boltColumns r.nc

/-- Largest size of bolt i of a plane-row (R285). -/
def boltReserve (r : PlaneRow) (i : Nat) : Nat :=
  48 + reservedPayload r.coding r.depth (boltWidth r.nc (i % Nat.max 1 (boltColumns r.nc))) r.t4 r.groups.length

/-- The reservation of a plane-row: its line-header block and every bolt (R306). -/
def rowReserve (r : PlaneRow) : Nat := headBytes r + sumN ((List.range (rowBoltCount r)).map (boltReserve r))

/-- What an admitted plane-row still holds in the store: unreleased parts, at their coded size once coded (R285). -/
def rowHeld (r : PlaneRow) : Nat :=
  (if r.headOut then 0 else headBytes r) +
  sumN (((List.range (rowBoltCount r)).filter (fun i => decide (r.out ≤ i))).map (fun i =>
    match r.coded.find? (fun c => c.1 == i) with | some c => c.2.length | none => boltReserve r i))

def itemsSize (l : List Item) : Nat := sumN (l.map Item.size)

/-- Occupancy of a stream in the ring store. -/
def storeUsed (x : Stream) : Nat :=
  sumN (x.store.map (fun g => itemsSize g.items)) +
  sumN (x.work.map (fun w => match w with | .row r => if r.dest = .store then rowHeld r else 0 | _ => 0))

/-- STORE_USED. -/
def storeTotal (s : State) : Nat := sumN (s.dlv.streams.map storeUsed)

/-- The ring store, less the pages remapped to other areas (R195, R525) and the channels out of use (R527). -/
def storeSize (s : State) : Nat := 14 * 2 ^ 30 - 4096 * s.mem.remapped - popCount 16 s.mem.badChannels * 2 ^ 30

/-- Bytes of backlog on the spool; of the segment being caught up, what is still to be delivered. -/
def heldSpool (s : State) (x : Stream) : Nat :=
  itemsSize x.fetched + sumN ((x.spooled.filter (fun l => x.fetchedOf != some l)).map (fun l => match s.spool.segs.find? (fun g => g.lseq == l) with | some g => itemsSize g.items | none => 0))

def heldStore (x : Stream) : Nat := sumN (x.store.map (fun g => itemsSize g.items))

/-- A backlog exists (Table 9.5). -/
def backlog (x : Stream) : Bool := x.store.any (fun g => !g.items.isEmpty) || !x.spooled.isEmpty || !x.fetched.isEmpty

/-- The space that plane-rows may reserve (R306): within the store, less the 16 MiB it keeps for records, and within STORE_MAX less the stream's occupancy. -/
def freeSpace (s : State) (x : Stream) : Nat :=
  Nat.min (storeSize s - 16 * 2 ^ 20 - storeTotal s) (x.ring.storeMax * 64 * 2 ^ 20 - storeUsed x)

/-- F of R308: the free space of the store, the 16 MiB for records among it as Table 9.9 counts it, and of STORE_MAX. -/
def spaceLeft (s : State) (x : Stream) : Nat :=
  Nat.min (storeSize s - storeTotal s) (x.ring.storeMax * 64 * 2 ^ 20 - storeUsed x)

/-! ### The live way's reservations (R285, R300) -/

/-- What a plane-row's coded bolts and the reservations of those in coding take. -/
def rowUnderWay (r : PlaneRow) : Nat := sumN (r.coded.map (fun c => c.2.length)) + sumN (r.flight.map (fun e => boltReserve r e.1))

/-- Bytes on the live way that no host buffer holds yet: items that wait, coded bolts, and the reservations of bolts in coding. -/
def liveHeld (x : Stream) : Nat :=
  itemsSize x.live + sumN (x.work.map (fun w => match w with | .row r => if r.dest = .live then rowUnderWay r else 0 | _ => 0))

/-- What is left of an open live buffer. -/
def bufRest (x : Stream) : Nat := match x.buf with | some b => if b.kind = 0 then b.bytes - b.used else 0 | none => 0

/-- Free descriptors: handed over and neither fetched into a buffer nor completed. -/
def freeDescs (x : Stream) : Nat := mdist 32 x.head x.tail - (if x.buf.isSome then 1 else 0)

/-- A live bolt's reservation fits what the host has lent (R285, R300): the rest of the open buffer, and 32 720 bytes of each free descriptor, which items of at most 32 816 bytes fill of any legal buffer; a bolt with nothing before it fits any legal buffer. -/
def liveFits (x : Stream) (n : Nat) : Bool :=
  if liveHeld x = 0 then decide (n ≤ bufRest x) || decide (0 < freeDescs x) else decide (liveHeld x + n ≤ bufRest x + 32720 * freeDescs x)

/-- No buffer and no descriptor can take a live reservation, nor will one once what is under way has left (R285, R305). -/
def liveFull (x : Stream) : Bool := x.ringErr || (liveHeld x == 0 && freeDescs x == 0)

/-! ### Events (R312, Table 11.14) -/

/-- EV_STALL of a stream. -/
def stallEvent (n kind line : Nat) (s : State) : State :=
  let x := streamOf s n
  postLimited 1000000 6 n kind (layout 16 [(0, 1, kind), (1, 1, x.flow), (4, 4, line), (8, 8, heldStore x + heldSpool s x)]) s

/-- Drives in service. -/
def drivesIn (s : State) : List Nat := (List.range 8).filter (fun d => s.spool.cfg.enable == 1 && (s.spool.drives.getD d {}).state == 1)

/-! ### Segments of the ring store (R306, R320) -/

/-- An item fits a segment: DATA_BYTES + 16 × ITEMS (R320). -/
def segFits (items : List Item) (i : Item) : Bool :=
  decide (itemsSize items + i.size + 16 * (items.length + 1) ≤ 4190208)

/-- Append an item to the stream's open segment, opening one where it does not fit. -/
def storeAppend (n : Nat) (i : Item) (s : State) : State :=
  let x := streamOf s n
  let fresh : StoreSeg := { ord := s.dlv.segOrd, items := [i] }
  let s := touchHbm { s with dlv.entered := s.dlv.entered + i.size }
  match x.store.getLast? with
  | none => modStream n (fun x => { x with store := [fresh], enteredNow := x.enteredNow + i.size }) { s with dlv.segOrd := s.dlv.segOrd + 1 }
  | some g =>
    if !g.closed && segFits g.items i then
      modStream n (fun x => { x with store := x.store.dropLast ++ [{ g with items := g.items ++ [i] }], enteredNow := x.enteredNow + i.size }) s
    else
      modStream n (fun x => { x with store := x.store.dropLast ++ [{ g with closed := true }, fresh], enteredNow := x.enteredNow + i.size }) { s with dlv.segOrd := s.dlv.segOrd + 1 }

/-- Send an item the way its destination says (R305). -/
def pushItem (n : Nat) (i : Item) (d : Dest) (s : State) : State :=
  let i := { i with ready := s.now }
  match d with
  | .live => modStream n (fun x => { x with live := x.live ++ [i] }) s
  | _ => storeAppend n i s

/-! ### Gaps (R296, R309, Table 9.3) -/

/-- The 64 bytes of a gap record. -/
def gapBytes (n seq : Nat) (g : Gap) (partialLast : Bool) : List Byte :=
  layout 64 [(0, 2, 0x6A70), (2, 1, g.cause), (3, 1, b2n g.partialFirst + 2 * b2n partialLast), (4, 4, lineNo g.first), (8, 2, epochOf g.first),
             (0x0A, 1, n), (0x0C, 4, Nat.min g.lines (2 ^ 32 - 1)), (0x10, 4, g.firstRepeat), (0x14, 4, g.repeats), (0x18, 4, g.seqFirst),
             (0x1C, 4, g.bolts), (0x20, 8, g.bytes), (0x28, 8, g.tFirst), (0x30, 8, g.tLast), (0x38, 4, seq)]

/-- The item of a gap record. -/
def gapItem (n seq : Nat) (g : Gap) (partialLast : Bool) : Item :=
  { bytes := gapBytes n seq g partialLast, repeatNo := g.firstRepeat, first := g.first, span := g.lines, tFirst := g.tFirst, tLast := g.tLast,
    seq := (g.seqFirst + g.bolts) % 2 ^ 32, rowSeq := g.seqFirst, rowBolts := g.bolts }

/-- Post EV_GAP, and number the record; the next line delivered carries GAP_BEFORE. -/
def makeGap (n : Nat) (g : Gap) (partialLast : Bool) (s : State) : Item × State :=
  let x := streamOf s n
  let it := gapItem n x.gapSeq g partialLast
  let s := post 7 n (layout 16 [(0, 1, g.cause), (1, 1, b2n g.partialFirst + 2 * b2n partialLast), (2, 2, epochOf g.first), (4, 4, lineNo g.first),
                                (8, 4, Nat.min g.lines (2 ^ 32 - 1)), (12, 4, x.gapSeq)]) s
  (it, modStream n (fun x => { x with gaps := satInc 32 x.gaps, gapSeq := wrapInc 32 x.gapSeq, gapBefore := true }) s)

/-- Place the open gap's record, if a gap is open, on the way d. -/
def placeGap (n : Nat) (d : Dest) (partialLast : Bool) (s : State) : State :=
  match (streamOf s n).gap with
  | none => s
  | some g =>
    let (it, s) := makeGap n g partialLast (modStream n (fun x => { x with gap := none }) s)
    pushItem n it d s

/-- Extend the open gap by dropped lines, or open one (R309). LINES_GAP and BYTES_GAP count at once. -/
def extendGap (n : Nat) (g : Gap) (s : State) : State :=
  modStream n (fun x =>
    let x := addTerm 2 g.lines (addTerm 5 g.bytes x)
    match x.gap with
    | none => { x with gap := some g }
    | some o => { x with gap := some { o with lines := o.lines + g.lines, lastRepeat := g.lastRepeat, bolts := o.bolts + g.bolts, bytes := o.bytes + g.bytes,
                                              repeats := o.repeats + (if o.lastRepeat = g.lastRepeat then 0 else 1), tLast := if g.lines = 0 then o.tLast else g.tLast } }) s

/-- The gap that a dropped plane-row makes: each item counts at its reservation. -/
def rowGap (cause : Nat) (r : PlaneRow) (startsInside : Bool) : Gap :=
  let g0 := r.groups.headD { header := [], first := 0, lines := 0, tFirst := 0, tLast := 0, codes := [] }
  let g1 := r.groups.getLastD g0
  { cause := cause, partialFirst := startsInside, first := g0.first, lines := sumN (r.groups.map Group.lines), firstRepeat := r.repeatNo,
    lastRepeat := r.repeatNo, repeats := 1, seqFirst := r.seq0, bolts := rowBoltCount r, bytes := rowReserve r, tFirst := g0.tFirst, tLast := g1.tLast }

/-- The gap that a dropped repeat record opens. -/
def recordGap (cause : Nat) (i : Item) : Gap :=
  { cause := cause, partialFirst := false, first := i.first, lines := 0, firstRepeat := i.repeatNo, lastRepeat := i.repeatNo, repeats := 1,
    seqFirst := i.seq, bolts := 0, bytes := i.size, tFirst := i.tFirst, tLast := i.tLast }

/-! ### Release in stream order (R20, R295) -/

/-- The header flag bit 8 of the first header of a line-header block (Table 6.8). -/
def markGapBefore (b : List Byte) : List Byte := patch b 0x17 (leBytes 1 (field b 0x17 1 ||| 1))

/-- The line-header block of a plane-row (Table 9.2). -/
def headItem (n : Nat) (r : PlaneRow) (gapBefore : Bool) : Item :=
  let b := layout 16 [(0, 2, 0x11E0), (2, 1, r.groups.length), (3, 1, n), (4, 4, r.seq0), (8, 2, rowBoltCount r), (0x0C, 4, r.repeatNo)] ++ r.groups.flatMap Group.header
  let g := rowGap 0 r false
  { bytes := if gapBefore then markGapBefore b else b, lines := g.lines, repeatNo := r.repeatNo, first := g.first, span := g.lines,
    tFirst := g.tFirst, tLast := g.tLast, seq := r.seq0, rowSeq := r.seq0, rowBolts := g.bolts }

/-- The item of a coded bolt. -/
def boltItem (r : PlaneRow) (i : Nat) (bytes : List Byte) : Item :=
  let g := rowGap 0 r false
  let nb := Nat.max 1 (boltColumns r.nc)
  { bytes := bytes, bolts := 1, repeatNo := r.repeatNo, first := g.first, span := g.lines, tFirst := g.tFirst, tLast := g.tLast,
    seq := (r.seq0 + i) % 2 ^ 32, rowSeq := r.seq0, rowBolts := g.bolts, last := i + 1 == g.bolts,
    samples := r.groups.length * Nat.min 512 (r.nc - 512 * (i % nb)) }

/-- The record of lines that will not be made (R47, R50, R296): its times are those of its placing. -/
def releaseGap (n : Nat) (g : Gap) (d : Dest) (s : State) : State :=
  let s := placeGap n d true s
  let (it, s) := makeGap n { g with tFirst := stationTime s, tLast := stationTime s } true s
  pushItem n it d s

/-- Every line of a dropped plane-row is never delivered (R37). -/
def forgetLines (r : PlaneRow) (s : State) : State :=
  { s with meter.lineLeft := (r.groups.flatMap (fun g => (List.range g.lines).map (g.first + ·))).foldl (fun m k => tset 0 k 0 m) s.meter.lineLeft }

/-- Release one step of the stream's work, if its head is ready. -/
def releaseStep (n : Nat) (s : State) : Option State :=
  match (streamOf s n).work with
  | [] => none
  | .item i (.drop c) :: rest => some (extendGap n (recordGap c i) (modStream n (fun x => { x with work := rest }) s))
  | .item i d :: rest => some (pushItem n i d (placeGap n d false (modStream n (fun x => { x with work := rest }) s)))
  | .gap g d :: rest => some (releaseGap n g d (modStream n (fun x => { x with work := rest }) s))
  | .row r :: rest =>
    match r.dest with
    | .ask => none
    | .drop c => some (forgetLines r (extendGap n (rowGap c r ((streamOf s n).gap.isNone)) (modStream n (fun x => { x with work := rest }) s)))
    | d =>
      if !r.headOut then
        let s := placeGap n d true s
        let gb := (streamOf s n).gapBefore
        some (pushItem n (headItem n r gb) d (modStream n (fun x => { x with gapBefore := false, work := .row { r with headOut := true } :: rest }) s))
      else
        match r.coded.find? (fun c => c.1 == r.out) with
        | none => none
        | some (i, b) =>
          let r' := { r with out := r.out + 1, coded := r.coded.filter (fun c => c.1 != i) }
          some (pushItem n (boltItem r i b) d (modStream n (fun x => { x with work := if r'.out < rowBoltCount r then .row r' :: rest else rest }) s))

/-- Release what is ready. -/
def releaseUpTo : Nat → Nat → State → State
  | 0, _, s => s
  | f + 1, n, s => match releaseStep n s with | some s' => releaseUpTo f n s' | none => s

/-- Steps a stream's work can take at most. -/
def workSteps (x : Stream) : Nat :=
  1 + sumN (x.work.map (fun w => match w with | .row r => 2 + rowBoltCount r | _ => 2))

def release (n : Nat) (s : State) : State := releaseUpTo (workSteps (streamOf s n)) n s

/-! ### Closing a plane-row (R260 to R263) -/

/-- BOLT_SEQ numbers are fixed, and the row takes the way of its stream's FLOW; in PROOF a stalled stream's rows ask too (R311). -/
def destOf (x : Stream) : Dest := if x.flow = 2 then .ask else if x.flow = 3 then .drop 1 else .live

/-- The plane-row that the staged groups make under a format and a bank. -/
def rowOf (x : Stream) (b : Bank) (fmt : StreamFmt) (repeatNo gen binY : Nat) : PlaneRow :=
  let table := fun i => if i < 8 then builtinTable i else tableOf (tget (tableBytes (builtinTable (i % 8))) i b.codes)
  { slots := maskIdx 4 fmt.planes, depth := fmt.depth, coding := fmt.coding, t4 := fmt.target, tableId := fmt.table, fallback := fmt.fallback,
    table := table fmt.table, fbTable := table fmt.fallback, nc := x.rowNc, groups := x.row, seq0 := x.seq, repeatNo := repeatNo, gen := gen,
    binY := binY, dest := destOf x }

/-- Close the plane-row being staged, full or short (R261). -/
def closeRow (n : Nat) (b : Bank) (fmt : StreamFmt) (repeatNo gen binY : Nat) (s : State) : State :=
  let x := streamOf s n
  if x.row.isEmpty then s
  else
    let r := rowOf x b fmt repeatNo gen binY
    let res := if r.dest = .live then 0 else rowReserve r
    release n (modStream n (fun x => { x with row := [], rowNc := 0, rowRegs := [], seq := (x.seq + rowBoltCount r) % 2 ^ 32,
                                              work := x.work ++ [.row r], resNow := x.resNow + res }) s)

/-! ### The order of refuge (R305 to R311) -/

/-- In PROOF a stream whose occupancy reaches PROOF_HIGH asks for a transport stop, once; none while a stop cycle has yet to re-approach (R311, R327, R445). -/
def proofStopAt (n line : Nat) (s : State) : State :=
  if s.sys.mode = .proof && s.mot.cycle.all (fun c => c.phase == .approach) && decide ((streamOf s n).ring.proofHigh * 64 * 2 ^ 20 ≤ storeUsed (streamOf s n)) && !(streamOf s n).proofStopped then
    stallEvent n 9 line (modStream n (fun x => { x with proofStopped := true }) { s with dlv.proofStop := true })
  else s

/-- Where a piece of live work goes as its stream stalls (R305): every plane-row asks for admission, one whose line-header block has left with what it still has (R285, R306). -/
def reroute (w : Work) : Work :=
  match w with
  | .item i .live => .item i .store
  | .gap g .live => .gap g .store
  | .row r => if r.dest = .live then .row { r with dest := .ask } else w
  | w => w

/-- What rerouted plane-rows add to RES of the repeat (R308). -/
def rerouted (ws : List Work) : Nat := sumN (ws.map (fun w => match w with | .row r => if r.dest = .live then rowReserve r else 0 | _ => 0))

/-- The stream stalls at its next live item (R305): FLOW becomes REFUGE, and everything that was on the live way enters the refuge. -/
def stallStream (n : Nat) (s : State) : State :=
  let x := streamOf s n
  if x.flow != 1 then s
  else
    let items := x.live
    let line := (items.head?.map Item.first).getD 0
    let s := modStream n (fun x => { x with flow := 2, live := [], work := x.work.map reroute, resNow := x.resNow + rerouted x.work, stalls := satInc 32 x.stalls }) s
    let s := items.foldl (fun s i => storeAppend n i s) s
    proofStopAt n (lineNo line) (release n (stallEvent n 1 (lineNo line) s))

/-- W and R of R315 in MB/s: the sums over drives in service, at most 48 and 56 GB/s. -/
def spillRate (s : State) : Nat := Nat.min 48000 (sumN ((drivesIn s).map (fun d => (s.spool.drives.getD d {}).rateW)))

def readRate (s : State) : Nat := Nat.min 56000 (sumN ((drivesIn s).map (fun d => (s.spool.drives.getD d {}).rateR)))

/-- MB/s over the last second of a list of instants and bytes. -/
def recentRate (s : State) (l : List (Nat × Nat)) : Nat := sumN ((l.filter (fun e => decide (s.now < e.1 + 1000000000))).map (·.2)) / 1000000

/-- r of R315 in MB/s: what catch-up has read within the last second, at most R. -/
def catchRate (s : State) : Nat := Nat.min (readRate s) (recentRate s s.spool.reads)

/-- R_sp of R308 as a fraction in MB/s: W reduced by the catch-up reads in progress, so that w ÷ W + r ÷ R is at most 1 (R315). -/
def refugeRate (s : State) : Nat × Nat := (spillRate s * (readRate s - catchRate s), Nat.max 1 (readRate s))

/-- Admission of a repeat to the refuge (R308), with s × R_sp × T_prev exact. -/
def repeatAdmitted (s : State) (x : Stream) (firstOfSession : Bool) : Bool :=
  firstOfSession ||
    (let own : Int := if x.allPrev = 0 then 1 else (x.enteredPrev : Int)
     let all : Int := if x.allPrev = 0 then 1 else (x.allPrev : Int)
     let (rs, rd) := refugeRate s
     let need : Int := (x.resPrev : Int) * 1000 * all * (rd : Int) - own * (rs : Int) * (x.tPrev : Int)
     decide (need ≤ (spaceLeft s x : Int) * 1000 * all * (rd : Int)))

/-- A Datum of a stream: the way its repeat takes (R308 to R311). A repeat that a stall begins with is not tested. -/
def repeatFlow (n : Nat) (firstOfSession : Bool) (s : State) : State :=
  let x := streamOf s n
  let all := s.dlv.entered - x.allMark
  let s := modStream n (fun x => { x with resPrev := x.resNow, resNow := 0, tPrev := s.now - x.tDatum, tDatum := s.now, enteredPrev := x.enteredNow,
                                          enteredNow := 0, allPrev := all, allMark := s.dlv.entered }) s
  let x := streamOf s n
  if x.flow != 2 && x.flow != 3 then modStream n (fun x => { x with flow := 1 }) s
  else if !x.ringErr && decide (x.ring.reserve ≤ freeDescs x) then modStream n (fun x => { x with flow := 1 }) s
  else if s.sys.mode = .proof || repeatAdmitted s x firstOfSession then modStream n (fun x => { x with flow := 2 }) s
  else if x.flow = 3 then s
  else stallEvent n 3 (lineNo s.dlv.outFirst) (modStream n (fun x => { x with flow := 3 }) s)

/-! ### Host buffers (R297 to R303) -/

/-- DSTATUS of Table 9.6. -/
def dstatus (x : Stream) (b : OpenBuf) (last : Bool) : Nat :=
  x.phase + 2 * b2n (b.kind == 1) + 4 * b2n (b.kind == 2) + 8 * b2n (b.items.any Item.isRepeat) + 16 * b2n (b.items.any Item.isGap) + 32 * b2n last

/-- Complete descriptor HEAD: the device's half of Table 9.6 in one posted write, then HEAD, DSEQ and PHASE. -/
def completeDesc (n used items status firstSeq : Nat) (irq : Bool) (s : State) : State :=
  let x := streamOf s n
  let idx := x.head % x.ring.entries
  let b := layout 16 [(0, 4, used), (4, 2, items), (6, 2, status), (8, 4, firstSeq), (12, 4, x.dseq)]
  let s := emit (.hostWrite (x.ring.base + 32 * idx + 0x10) b) s
  let s := modStream n (fun x => { x with head := wrapInc 32 x.head, dseq := wrapInc 32 x.dseq, phase := if idx + 1 = x.ring.entries then 1 - x.phase else x.phase }) s
  if irq then signal x.ring.vector s else s

/-- Everything of a closing or closed stream has been written (R301). -/
def streamEmpty (x : Stream) : Bool := x.work.isEmpty && x.live.isEmpty && x.row.isEmpty && x.accLines.isEmpty && !backlog x

/-- Lines of a plane-row are delivered once every stream that carries them has written all its bolts (R37); n is the stream. -/
def deliverLines (n : Nat) (i : Item) (s : State) : State :=
  let key := (n * 2 ^ 32 + i.repeatNo) * 2 ^ 32 + i.rowSeq
  let left := (match tget 0 key s.meter.rowLeft with | 0 => i.rowBolts | m => m) - 1
  let s := { s with meter.rowLeft := tset 0 key left s.meter.rowLeft }
  if i.rowBolts = 0 || 0 < left then s
  else
    (List.range i.span).foldl (fun s d =>
      let k := i.first + d
      match tget 0 k s.meter.lineLeft with
      | 0 => s
      | 1 => { s with meter.lineLeft := tset 0 k 0 s.meter.lineLeft, meter.linesOut := wrapInc 64 s.meter.linesOut,
                      meter.marks := (sumN s.meter.ch :: s.meter.marks).take 1025 }
      | m => { s with meter.lineLeft := tset 0 k (m - 1) s.meter.lineLeft }) s

/-- A bolt is written to a host ring or to the spool for the first time (R37). -/
def countDelivered (n : Nat) (i : Item) (s : State) : State :=
  if i.counted || i.bolts = 0 then s else deliverLines n i { s with meter.samplesOut := wrapInc 64 s.meter.samplesOut i.samples }

/-- The BOLT_SEQ that follows an item. -/
def seqAfter (i : Item) : Nat := if i.isBolt then (i.seq + 1) % 2 ^ 32 else i.seq

/-- FIRST_BOLT_SEQ of a buffer: its first bolt, or the next one (Table 9.6). -/
def bufFirstSeq (x : Stream) (b : OpenBuf) : Nat :=
  match b.items.find? Item.isBolt, b.items.getLast? with
  | some i, _ => i.seq
  | none, some i => seqAfter i
  | none, none => x.seq

/-- Complete the open buffer, marking LAST where it holds the last item of a closed stream, or the last of its backlog where the stream has opened again (R327), and count its items (R37, R313). -/
def completeBuf (n : Nat) (s : State) : State :=
  let x := streamOf s n
  match x.buf with
  | none => s
  | some b =>
    let last := x.lastDue && b.kind != 2 && (streamEmpty x || (b.kind == 1 && !backlog x && !x.closing && x.flow != 0))
    let s := completeDesc n b.used b.items.length (dstatus x b last) (bufFirstSeq x b) b.irq (modStream n (fun x => { x with buf := none, lastDue := x.lastDue && !last }) s)
    if b.kind = 2 then s
    else
      let off := if b.kind = 0 then 0 else 1
      let s := modStream n (fun x => addTerm off (sumN (b.items.map Item.lines)) (addTerm (3 + off) b.used x)) s
      b.items.foldl (fun s i => countDelivered n i s) s

/-- Write an item at the end of the open buffer. -/
def writeItem (n : Nat) (i : Item) (s : State) : State :=
  match (streamOf s n).buf with
  | none => s
  | some b =>
    let s := emit (.hostWrite (b.addr + b.used) i.bytes) s
    let b' := { b with used := b.used + i.size, items := b.items ++ [i], recAt := if i.isRepeat || i.isGap then some s.now else if i.isBolt then none else b.recAt }
    modStream n (fun x => { x with buf := some b' }) s

/-- FLUSH = PLANE_ROW completes a buffer after the last bolt of a plane-row (R301). -/
def flushAfter (n : Nat) (i : Item) (s : State) : State :=
  if (streamOf s n).ring.flush = 0 && i.last then completeBuf n s else s

/-- Open a buffer of a class on the fetched descriptor. -/
def openBuf (n kind : Nat) (i : Item) (s : State) : State :=
  match (streamOf s n).desc with
  | none => s
  | some (a, len, irq) => modStream n (fun x => { x with desc := none, buf := some { addr := a, bytes := len, irq := irq, kind := kind, opened := i.ready } }) s

/-- Make room for an item of a class: complete a buffer it does not fit, and open one where a descriptor is fetched and may be taken. -/
def roomFor (n kind : Nat) (i : Item) (s : State) : State :=
  let s := match (streamOf s n).buf with
    | some b => if b.kind = kind && b.bytes < b.used + i.size then completeBuf n s else s
    | none => s
  let x := streamOf s n
  if x.buf.isNone && (kind = 0 || decide (x.ring.reserve < freeDescs x)) then openBuf n kind i s else s

/-- C_link of Table 10.2 in GB/s: what the host link carries at its rate and width; at x4 and at 8 GT/s and below it carries no items (R304, R329). -/
def linkCapacity (s : State) : Nat :=
  if s.host.width < 8 || s.host.rate < 4 then 0 else 26 * 2 ^ (Nat.min s.host.rate 6 - 4) / (if 16 ≤ s.host.width then 1 else 2)

/-- The host link is free to carry an item (R304). -/
def itemLinkIdle (s : State) : Bool := decide (0 < linkCapacity s) && decide (s.dlv.linkFree ≤ 1000 * s.now)

/-- The link carries n bytes: 1 GB/s is 1 byte in 1000 ps. -/
def carry (n : Nat) (s : State) : State := { s with dlv.linkFree := 1000 * s.now + ceilN (1000 * n) (linkCapacity s) }

/-- No live item waits for the link, which carries those first (R304). -/
def noLiveWaits (s : State) : Bool := s.dlv.streams.all (fun x => x.live.isEmpty || x.ringErr)

/-- An open buffer of the class can take an item. -/
def hasRoom (x : Stream) (kind : Nat) (i : Item) : Bool :=
  match x.buf with | some b => b.kind == kind && decide (b.used + i.size ≤ b.bytes) | none => false

/-- An abandoned buffer gives its items back: live ones to the live way, backlog ones to be read again (R303, R331). -/
def abandonBuf (n : Nat) (s : State) : State :=
  match (streamOf s n).buf with
  | none => s
  | some b =>
    let s := modStream n (fun x => { x with buf := none, live := if b.kind = 0 then b.items ++ x.live else x.live, fetched := if b.kind = 1 then b.items ++ x.fetched else x.fetched }) s
    if b.kind = 2 then { s with spool.replay := s.spool.replay.map (fun r => { r with items := b.items ++ r.items }) } else s

/-- The ring is in error (R303): no descriptor is taken, and catch-up stops (R327). -/
def ringError (n desc : Nat) (s : State) : State :=
  let s := abandonBuf n s
  stallEvent n 6 desc (modStream n (fun x => { x with ringErr := true, catchup := false, desc := none }) s)

/-- The backlog has become empty (R310). -/
def drained (n : Nat) (s : State) : State :=
  if backlog (streamOf s n) then s
  else
    let s := stallEvent n 5 0 (modStream n (fun x => { x with catchup := false }) s)
    if (streamOf s n).flow = 0 then completeBuf n s else s

end Sys2Proof.Machine
end

