-- ==== Sys2Proof/Machine/SpoolOps.lean ====
section
/-! DEFINITION. The spool: the log, spilling, reads, drive loss and replays (chapter 9). -/

namespace Sys2Proof.Machine

/-! ### The log (R319 to R321) -/

/-- The epoch in force: the last of the table. -/
def curEpoch (s : State) : Option SpoolEpoch := s.spool.epochs.getLast?

/-- LSEQ b is a or follows it (R10, R319). -/
def seqFrom (a b : Nat) : Bool := a % 2 ^ 64 == b % 2 ^ 64 || follows 64 a b

/-- A key in whose plain order log sequences stand as modular order has them, for sequences on either side of ref. -/
def seqKey (ref l : Nat) : Nat := (l % 2 ^ 64 + 2 ^ 64 + 2 ^ 63 - ref % 2 ^ 64) % 2 ^ 64

/-- The epoch of a table that a sequence belongs to. -/
def epochIn (t : List SpoolEpoch) (n : Nat) : Option SpoolEpoch := (t.filter (fun e => seqFrom e.first n)).getLast?

def epochAt (s : State) (n : Nat) : Option SpoolEpoch := epochIn s.spool.epochs n

/-- Drive and slot of segment n under an epoch table and the drives' slot counts (R319). -/
def locateIn (t : List SpoolEpoch) (slots : Nat → Nat) (n : Nat) : Option (Nat × Nat) :=
  (epochIn t n).bind (fun e =>
    let k := e.drives.length
    if k = 0 then none
    else
      let o := mdist 64 e.first n
      let i := o % k
      let d := e.drives.getD i 0
      if slots d = 0 then none else some (d, (e.ptrs.getD i 0 + o / k) % slots d))

def locate (s : State) (n : Nat) : Option (Nat × Nat) := locateIn s.spool.epochs (fun d => (s.spool.drives.getD d {}).slots) n

/-- A slot is free when it holds no undelivered segment (R321) and no write to it is in flight. -/
def slotFree (s : State) (d sl : Nat) : Bool :=
  !(s.spool.segs.any (fun g => g.drive == d && g.slot == sl && !g.delivered)) &&
  !(s.spool.cmds.any (fun c => decide (c.kind < 2) && locate s c.lseq == some (d, sl)))

/-- Slots of the drives in service, and those that are free. -/
def slotsAll (s : State) : Nat := Nat.min 16777216 (sumN ((drivesIn s).map (fun d => (s.spool.drives.getD d {}).slots)))

def undelivered (s : State) : Nat := (s.spool.segs.filter (fun g => !g.delivered)).length

/-- The per-repeat index takes a segment's repeat records and lines (R321); it holds 1 048 576 entries. -/
def indexSeg (g : SpoolSeg) (l : List IndexEntry) : List IndexEntry :=
  g.items.foldl (fun l i =>
    if i.isRepeat then (l ++ [({ stream := g.stream, repeatNo := i.repeatNo, first := i.first, lines := 0, lseq := g.lseq } : IndexEntry)]).drop (l.length + 1 - 1048576)
    else if i.isHeaders then l.map (fun e => if e.stream = g.stream && e.repeatNo = i.repeatNo then { e with lines := e.lines + i.lines } else e)
    else l) l

/-- A written segment enters the log over whatever its slot held (R321). -/
def logSeg (g : SpoolSeg) (s : State) : State :=
  { s with spool.segs := s.spool.segs.filter (fun h => !(h.drive == g.drive && h.slot == g.slot)) ++ [g], spool.index := indexSeg g s.spool.index,
           spool.writers := tset 0 (g.drive * 2 ^ 24 + g.slot) g.epoch s.spool.writers }

/-- The first block of a slot: slots of 4 MiB follow the superblock of 1 MiB (R317). -/
def slotBlock (sl : Nat) : Nat := 256 + 1024 * sl

/-- A segment is delivered (R321): RETAIN keeps it for REPLAY, else its blocks are deallocated. -/
def segDelivered (l : Nat) (s : State) : State :=
  if s.spool.cfg.retain = 1 then { s with spool.segs := s.spool.segs.map (fun g => if g.lseq = l then { g with delivered := true } else g) }
  else
    let gone := s.spool.segs.filter (fun g => g.lseq == l)
    gone.foldl (fun s g => emit (.nvme g.drive 1 9 (slotBlock g.slot) 1024 []) s) { s with spool.segs := s.spool.segs.filter (fun g => !(g.lseq == l)) }

/-! ### Segment bytes (Tables 9.11 and 9.12) -/

/-- One index entry. -/
def segIndex (off : Nat) (i : Item) : List Byte :=
  layout 16 [(0, 4, off), (4, 4, i.size), (8, 2, i.tag), (0x0A, 1, if i.isBolt then field i.bytes 3 1 % 4 else 0),
             (0x0B, 1, if i.isBolt then field i.bytes 0x0E 1 else if i.isHeaders then field i.bytes 2 1 else 0),
             (0x0C, 4, if i.isBolt then i.seq else if i.isHeaders then lineNo i.first else if i.isRepeat then i.repeatNo else lineNo i.first)]

def segIndexes : Nat → List Item → List Byte
  | _, [] => []
  | off, i :: r => segIndex off i ++ segIndexes (off + i.size) r

/-- The header of a segment. -/
def segHeader (s : State) (stream lseq prev : Nat) (archive : Bool) (items : List Item) : List Byte :=
  let data := items.flatMap Item.bytes
  let bolts := items.filter Item.isBolt
  let i0 := items.headD { bytes := [] }
  let i1 := items.getLastD i0
  let next := seqAfter i1
  let endLine := if i1.span = 0 then i1.first else i1.first + i1.span - 1
  let b := layout 0x5C [(0, 4, 0x5E6D0409), (4, 2, 1), (6, 1, stream), (7, 1, b2n (items.any Item.isRepeat) + 2 * b2n (items.any Item.isGap) + 4 * b2n archive),
    (8, 8, lseq), (0x10, 8, prev), (0x18, 4, s.spool.spoolId), (0x1C, 4, items.length), (0x20, 4, data.length), (0x24, 4, 0x1000 + data.length),
    (0x28, 4, ((bolts.head?).map Item.seq).getD next), (0x2C, 4, ((bolts.getLast?).map Item.seq).getD next), (0x30, 4, i0.repeatNo), (0x34, 4, i1.repeatNo),
    (0x38, 4, lineNo i0.first), (0x3C, 4, lineNo endLine), (0x40, 2, epochOf i0.first), (0x42, 2, epochOf endLine), (0x44, 4, crc32c (segIndexes 0x1000 items)),
    (0x48, 8, i0.tFirst), (0x50, 8, i1.tLast), (0x58, 4, crc32c data)]
  b ++ leBytes 4 (crc32c b) ++ zeros 32

/-- A segment's bytes up to the end of its index (R320). -/
def segBytes (s : State) (stream lseq prev : Nat) (archive : Bool) (items : List Item) : List Byte :=
  let h := segHeader s stream lseq prev archive items
  h ++ zeros (0x1000 - h.length) ++ items.flatMap Item.bytes ++ segIndexes 0x1000 items

/-- The data units of a segment as the drive holds them (R318): unit u under tweak LSEQ × 1024 + u. -/
def sealUnits (keys : List Byte × List Byte) (lseq : Nat) (b : List Byte) : List (List Byte) :=
  let us := chunks 4096 1024 (b ++ zeros ((4096 - b.length % 4096) % 4096))
  (withIdx 0 us).map (fun e => xtsEncrypt keys.1 keys.2 (lseq * 1024 + e.1) e.2)

/-! ### NVMe commands (R314, R322) -/

/-- Blocks of one transfer: at most min(MDTS, 1 MiB). -/
def xferBlocks (v : Drive) : Nat := if v.mdts = 0 then 256 else clampN (v.mdts / 4096) 1 256

/-- Transfers that some blocks take. -/
def xferParts (v : Drive) (blocks : Nat) : Nat := ceilN blocks (xferBlocks v)

/-- How many of a command's transfers go to queue q of the four, counted from 0. -/
def queueShare (parts q : Nat) : Nat := (parts + 3 - q) / 4

/-- Each of the drive's four queues of depth 256 has room for its share of so many transfers. -/
def queueRoom (s : State) (d parts : Nat) : Bool :=
  (List.range 4).all (fun q => decide (sumN ((s.spool.cmds.filter (fun c => c.drive == d)).map (fun c => queueShare c.parts q)) + queueShare parts q ≤ 256))

/-- Submit the transfers of a Read (2) or Write (1) of consecutive blocks, over the I/O queues in turn. -/
def transfers (d op lba blocks : Nat) (units : List (List Byte)) (s : State) : State :=
  let v := s.spool.drives.getD d {}
  let n := xferBlocks v
  (List.range (xferParts v blocks)).foldl (fun s j =>
    emit (.nvme d (1 + j % 4) op (lba + n * j) (Nat.min n (blocks - n * j)) ((units.drop (n * j)).take n).flatten) s) s

/-- The slot of the next segment is not free (R321). -/
def slotTaken (s : State) : Bool := match locate s s.spool.lseq with | some (d, sl) => !slotFree s d sl | none => false

/-- The place of a spooled segment in its stream's order. -/
def ordOf (s : State) (l : Nat) : Nat := ((s.spool.segs.find? (fun g => g.lseq == l)).map SpoolSeg.ord).getD 0

/-- The oldest of a stream's backlog lies on the spool, not in the store (R295). -/
def spoolFirst (s : State) (x : Stream) : Bool :=
  match x.spooled, x.store with
  | [], _ => false
  | _ :: _, [] => true
  | l :: _, g :: _ => decide (ordOf s l < g.ord)

/-- The segment that stream n's catch-up must read next, where no read of it is under way. -/
def readDue (s : State) (n : Nat) : Option Nat :=
  let x := streamOf s n
  if !x.catchup || x.fetchedOf.isSome || !spoolFirst s x || s.spool.cmds.any (fun c => c.kind == 2 && c.stream == n) then none else x.spooled.head?

/-- A catch-up read waits for room in a drive's queues: it comes before any write (R315). -/
def readWaits (s : State) (d : Nat) : Bool :=
  (List.range 8).any (fun n => match readDue s n with | some l => s.spool.segs.any (fun g => g.lseq == l && g.drive == d) | none => false)

/-- Drive time is left for a write: w ÷ W + r ÷ R is at most 1 (R315). -/
def timeLeft (s : State) : Bool :=
  decide (recentRate s s.spool.writes * readRate s + recentRate s s.spool.reads * spillRate s ≤ spillRate s * readRate s)

/-- Begin a write of items as the next segment; none where no slot or queue takes it, catch-up needs the drives, or the keys are lost. ord is its place in its stream's order. -/
def writeSeg (kind n ord : Nat) (items : List Item) (s : State) : Option State :=
  match locate s s.spool.lseq, s.spool.keys with
  | some (d, sl), some keys =>
    let l := s.spool.lseq
    let x := streamOf s n
    let prev := if kind = 1 then x.prevArch else x.prevLseq
    let b := segBytes s n l prev (kind == 1) items
    let blocks := ceilN b.length 4096
    let parts := xferParts (s.spool.drives.getD d {}) blocks
    if !slotFree s d sl || !queueRoom s d parts || readWaits s d || !timeLeft s then none
    else
      let s := transfers d 1 (slotBlock sl) blocks (sealUnits keys l b) s
      let c : Nvme := { drive := d, lseq := l, kind := kind, stream := n, tries := 0, start := s.now, prev := prev, items := items, parts := parts, ord := ord }
      some (modStream n (fun x => if kind = 1 then { x with prevArch := l } else { x with prevLseq := l })
        { s with spool.lseq := wrapInc 64 l, spool.cmds := s.spool.cmds ++ [c], spool.writes := (s.now, 4096 * blocks) :: s.spool.writes.filter (fun e => decide (s.now < e.1 + 1000000000)) })
  | _, _ => none

/-- Submit a read of a segment, if the drive's queues have room. -/
def readSeg (kind n tries : Nat) (g : SpoolSeg) (s : State) : State :=
  let parts := xferParts (s.spool.drives.getD g.drive {}) 1024
  if !queueRoom s g.drive parts then s
  else
    let s := transfers g.drive 2 (slotBlock g.slot) 1024 [] s
    { s with spool.cmds := s.spool.cmds ++ [{ drive := g.drive, lseq := g.lseq, kind := kind, stream := n, tries := tries, start := s.now, parts := parts }] }

/-- EV_STALL of kind SPOOL_FULL (Table 9.8), source 0xFFFF with STORE_USED. -/
def spoolFull (s : State) : State :=
  postLimited 1000000 6 0xFFFF 7 (layout 16 [(0, 1, 7), (8, 8, storeTotal s)]) { s with spool.full := true }

/-- Occupancy exceeds SPILL_MARK (R307). -/
def overMark (s : State) : Bool := decide (s.spool.cfg.mark * 16 * 2 ^ 20 < storeTotal s)

/-- The oldest closed segment of the store that no write has taken: its stream and place. -/
def oldestClosed (s : State) : Option (Nat × StoreSeg) :=
  let all := (withIdx 0 s.dlv.streams).flatMap (fun (n, x) => (x.store.filter (fun g => g.closed && g.lseq.isNone)).map (fun g => (n, g)))
  match all with
  | [] => none
  | a :: r => some (r.foldl (fun b c => if c.2.ord < b.2.ord then c else b) a)

/-- SPILL (R307, R327): write the oldest closed segment; where the next slot is not free the spool is full (R321), and where the drives have no room or time it waits. -/
def spillOne (s : State) : State :=
  match oldestClosed s with
  | none => s
  | some (n, g) =>
    match writeSeg 0 n g.ord g.items s with
    | none => if s.spool.full || !slotTaken s then s else spoolFull s
    | some s' =>
      let s' := modStream n (fun x => { x with store := x.store.map (fun h => if h.ord = g.ord then { h with lseq := some s.spool.lseq } else h) }) { s' with spool.full := false }
      if s.spool.spilling then s' else stallEvent n 2 (lineNo ((g.items.headD { bytes := [] }).first)) { s' with spool.spilling := true }

def spill (s : State) : State :=
  if s.sys.mode = .proof || (drivesIn s).isEmpty then s
  else if !overMark s && !s.spool.drainAll then { s with spool.spilling := false }
  else spillOne s

/-- Begin reading the oldest spooled segment of a stream whose catch-up runs. -/
def readNext (n : Nat) (s : State) : State :=
  match readDue s n with
  | none => s
  | some l =>
    match s.spool.segs.find? (fun g => g.lseq == l) with
    | none => modStream n (fun x => { x with spooled := x.spooled.drop 1 }) s
    | some g => readSeg 2 n 0 g s

/-- Every stream whose catch-up runs has a read under way where it needs one. -/
def readAll (s : State) : State := (List.range 8).foldl (fun s n => readNext n s) s

/-! ### Lost items (R322) -/

/-- Two items of one plane-row. -/
def sameRow (a b : Item) : Bool := a.rowBolts != 0 && !a.isGap && !b.isGap && a.rowBolts == b.rowBolts && a.rowSeq == b.rowSeq && a.repeatNo == b.repeatNo && a.first == b.first

/-- The gap over a run of lost items, whose plane-rows count whole. -/
def lostGap (cause : Nat) (now : Nat) (l : List Item) : Gap :=
  let i0 := l.headD { bytes := [] }
  let i1 := l.getLastD i0
  let heads := l.foldl (fun acc i => if i.isRepeat || acc.any (fun j => sameRow i j) then acc else acc ++ [i]) ([] : List Item)
  { cause := cause, partialFirst := !i0.isRepeat, first := i0.first, lines := sumN (heads.map Item.span), firstRepeat := i0.repeatNo, lastRepeat := i1.repeatNo,
    repeats := (l.map Item.repeatNo).eraseDups.length, seqFirst := if i0.isRepeat then i0.seq else i0.rowSeq, bolts := sumN (heads.map Item.rowBolts),
    bytes := itemsSize l, tFirst := if l.isEmpty then now else i0.tFirst, tLast := if l.isEmpty then now else i1.tLast }

/-- Replace each run of marked items by one gap record (R322) at the place of the item that follows it, else at the end; the line that follows carries GAP_BEFORE. An entry gives an item's place, whether it is lost, and the item; cut names plane-rows whose further items go too, with their bytes. -/
def replaceRuns (cause n last' : Nat) (cut : List (Item × Nat)) : Nat → List (Nat × Bool × Item) → State → List (Nat × Item) × State
  | 0, _, s => ([], s)
  | _, [], s => ([], s)
  | f + 1, (p, false, i) :: r, s =>
    let gb := (streamOf s n).gapBefore && i.isHeaders
    let s := if gb then modStream n (fun x => { x with gapBefore := false }) s else s
    let (out, s) := replaceRuns cause n last' cut f r s
    ((p, if gb then { i with bytes := markGapBefore i.bytes } else i) :: out, s)
  | f + 1, (_, true, i) :: r, s =>
    let run := i :: (r.takeWhile (·.2.1)).map (·.2.2)
    let rest := r.dropWhile (·.2.1)
    let inside := match rest with | (_, _, j) :: _ => !j.isRepeat && !j.isGap | [] => true
    let bytes := itemsSize run + sumN ((cut.filter (fun c => run.any (sameRow c.1))).map (·.2))
    let (it, s) := makeGap n { lostGap cause s.now run with bytes := bytes } inside s
    let s := modStream n (fun x => addTerm 2 (sumN (run.map Item.lines)) (addTerm 5 bytes x)) s
    let (out, s) := replaceRuns cause n last' cut f rest s
    (((rest.head?.map (·.1)).getD last', it) :: out, s)

/-- The backlog of a stream loses what some segments held, and some further items (R322, R525): whole plane-rows go, and gap records stand in their place. Places: 0 items read, o + 1 the segment of order o on the spool or in the store. A plane-row still in coding of which an item is lost goes whole, and a segment that nothing is left of is done with. -/
def loseWhere (cause n : Nat) (lost : List Nat) (extra : List Item) (s : State) : State :=
  let x := streamOf s n
  if !(x.spooled.any (fun l => lost.contains l)) && extra.isEmpty then s
  else
    let segItems := fun (l : Nat) => ((s.spool.segs.find? (fun g => g.lseq == l)).map SpoolSeg.items).getD []
    let unread := x.spooled.filter (fun l => x.fetchedOf != some l)
    let gone := (unread.filter (fun l => lost.contains l)).flatMap segItems ++ extra
    let hit := fun (i : Item) => gone.any (fun g => sameRow g i || g == i)
    let cutRow := fun (w : Work) => match w with | .row r => if r.headOut && hit (headItem n r false) then some r else none | _ => none
    let rows := x.work.filterMap cutRow
    let s := rows.foldl (fun s r => forgetLines r s) s
    let onSpool : List (Nat × Bool × List Item) := unread.map (fun l => (ordOf s l + 1, lost.contains l, segItems l))
    let inStore : List (Nat × Bool × List Item) := x.store.map (fun g => (g.ord + 1, false, g.items))
    let parts := (onSpool ++ inStore).foldl (fun acc e => insertBy (fun (p : Nat × Bool × List Item) => p.1) e acc) []
    let all := x.fetched.map (fun i => (0, hit i, i)) ++ parts.flatMap (fun p => p.2.2.map (fun i => (p.1, p.2.1 || hit i, i)))
    let last' := s.dlv.segOrd + 1
    let (items, s) := replaceRuns cause n last' (rows.map (fun r => (headItem n r false, rowHeld r))) (all.length + 1) all (modStream n (fun x => { x with gapBefore := false }) s)
    let at' := fun (p : Nat) => (items.filter (fun e => e.1 == p)).map (·.2)
    let tail := at' last'
    let s := { s with dlv.segOrd := s.dlv.segOrd + 1,
                      spool.segs := s.spool.segs.map (fun g => if unread.contains g.lseq && !lost.contains g.lseq then { g with items := at' (g.ord + 1) } else g) }
    modStream n (fun y => { y with fetched := at' 0, spooled := y.spooled.filter (fun l => !lost.contains l || y.fetchedOf == some l),
                                   work := y.work.filter (fun w => (cutRow w).isNone),
                                   store := (y.store.map (fun g => { g with items := at' (g.ord + 1) })).filter (fun g => g.lseq.isSome || !g.items.isEmpty) ++ (if tail.isEmpty then [] else [{ ord := s.dlv.segOrd - 1, items := tail }]),
                                   gapBefore := y.gapBefore || x.gapBefore }) s

/-- Segments of a stream's backlog that a loss has left empty, and one whose items have all been read, are done with: catch-up goes on behind them. -/
def dropEmpty (n : Nat) (s : State) : State :=
  let x := streamOf s n
  let s := match x.fetchedOf with
    | some l => if x.fetched.isEmpty then segDelivered l (modStream n (fun x => { x with fetchedOf := none, spooled := x.spooled.filter (· != l) }) s) else s
    | none => s
  let x := streamOf s n
  let empty := x.spooled.filter (fun l => x.fetchedOf != some l && s.spool.segs.any (fun g => g.lseq == l && g.items.isEmpty))
  empty.foldl (fun s l => segDelivered l s) (modStream n (fun x => { x with spooled := x.spooled.filter (fun l => !empty.contains l) }) s)

/-- A loss of segments or items of a stream's backlog, and what it leaves empty. -/
def loseItems (cause n : Nat) (lost : List Nat) (extra : List Item) (s : State) : State := dropEmpty n (release n (loseWhere cause n lost extra s))

def loseSegs (cause n : Nat) (lost : List Nat) (s : State) : State := loseItems cause n lost [] s

/-- Lose segments on every stream, and drop them from the log. -/
def loseAll (cause : Nat) (lost : List Nat) (s : State) : State :=
  let s := (List.range 8).foldl (fun s n => loseSegs cause n lost s) s
  { s with spool.segs := s.spool.segs.filter (fun g => !lost.contains g.lseq) }

/-- Write pointers for a new epoch: behind what each drive took in the last epoch that had it. -/
def ptrsFor (s : State) (ds : List Nat) : List Nat :=
  let stops := (s.spool.epochs.map SpoolEpoch.first).drop 1 ++ [s.spool.lseq]
  let table := (s.spool.epochs.zip stops).reverse
  ds.map (fun d =>
    match table.findSome? (fun (p : SpoolEpoch × Nat) => ((withIdx 0 p.1.drives).find? (fun q => q.2 == d)).map (fun q => (p.1, p.2, q.1))) with
    | none => 0
    | some (e, stop, i) =>
      let k := e.drives.length
      let total := mdist 64 e.first stop
      let done := if total ≤ i then 0 else (total - i + k - 1) / k
      (e.ptrs.getD i 0 + done) % Nat.max 1 (s.spool.drives.getD d {}).slots)

/-- Every slot that an epoch's segments took has been taken by a later epoch since (R319). -/
def epochGone (s : State) (e : SpoolEpoch) : Bool := !(s.spool.writers.any (fun w => w.2 == e.number))

/-- The superblock of drive d (R317). -/
def superblockOf (s : State) (d : Nat) : Superblock :=
  { spoolId := s.spool.spoolId, position := d, serials := (drivesIn s).map (fun k => (s.spool.drives.getD k {}).serial), epochs := s.spool.epochs, keys := s.spool.wrapped,
    crc := (Config.freeValue s.free).toNat % 2 ^ 32 }

/-- Every drive in service takes the superblock, with Flush (R317). -/
def writeSupers (s : State) : State :=
  (drivesIn s).foldl (fun s d =>
    let b := superblockOf s d
    emit (.nvme d 1 0 0 0 []) (emit (.superblock d b) { s with free := s.free + 1, spool.drives := nmod {} s.spool.drives d (fun v => { v with block := some b }) })) s

/-- The epoch table makes room (R319): the oldest epoch whose slots have all been overwritten goes, else the oldest epoch ends at once. -/
def dropEpoch (s : State) : State :=
  match s.spool.epochs.find? (fun e => epochGone s e && some e != curEpoch s), s.spool.epochs with
  | some e, _ => { s with spool.epochs := s.spool.epochs.erase e }
  | none, o :: r =>
    let lost := (s.spool.segs.filter (fun g => g.epoch == o.number && !g.delivered && !g.stale)).map SpoolSeg.lseq
    let s := loseAll 8 lost s
    raiseWith 0x0403 (o.drives.headD 0) (faultData 1 (leBytes 4 o.number)) 0 { s with spool.segs := s.spool.segs.filter (fun g => g.epoch != o.number), spool.epochs := r }
  | none, [] => s

/-- A new epoch over the drives in service (R319), and the superblocks with it (R317). -/
def newEpoch (s : State) : State :=
  let e : SpoolEpoch := { number := s.spool.epoch + 1, first := s.spool.lseq, drives := drivesIn s, ptrs := ptrsFor s (drivesIn s) }
  let s := if 256 ≤ s.spool.epochs.length then dropEpoch s else s
  writeSupers { s with spool.epochs := s.spool.epochs ++ [e], spool.epoch := e.number }

/-- Write a segment that no command carries any more under the next LSEQ (R322). It was not written under its own, so that is no previous segment of its stream (Table 9.11). -/
def reissueWrite (c : Nvme) (s : State) : State :=
  let s := modStream c.stream (fun x =>
    if c.kind = 1 then (if x.prevArch = c.lseq then { x with prevArch := c.prev } else x) else (if x.prevLseq = c.lseq then { x with prevLseq := c.prev } else x)) s
  if c.kind = 1 then
    match writeSeg 1 c.stream c.ord c.items s with
    | some s' => s'
    | none => { s with spool.archSkipped := satInc 32 s.spool.archSkipped }
  else
    let mark := fun (l : Option Nat) => modStream c.stream (fun x => { x with store := x.store.map (fun g => if g.lseq = some c.lseq then { g with lseq := l } else g) })
    match (streamOf s c.stream).store.find? (fun g => g.lseq == some c.lseq) with
    | none => s
    | some g =>
      match writeSeg 0 c.stream g.ord g.items s with
      | some s' => mark (some s.spool.lseq) s'
      | none => mark none s

/-! ### Replay (R324, R325) -/

/-- 48-bit pairs: b at or after a (R110). -/
def atOrAfter48 (a b : Nat) : Bool := a % 2 ^ 48 == b % 2 ^ 48 || follows 48 a b

/-- An item lies in a replay's range. A LINE range begins with the plane-row that holds its first line (R325), so a repeat record at that line stands before it. -/
def inRange (r : Replay) (i : Item) : Bool :=
  if r.range = 0 then
    (i.repeatNo == r.first % 2 ^ 32 || follows 32 (r.first % 2 ^ 32) i.repeatNo) && (i.repeatNo == r.last % 2 ^ 32 || follows 32 i.repeatNo (r.last % 2 ^ 32))
  else
    (if i.isRepeat then follows 48 (r.first % 2 ^ 48) i.first else atOrAfter48 (r.first % 2 ^ 48) (i.first + (if i.span = 0 then 0 else i.span - 1))) && atOrAfter48 i.first (r.last % 2 ^ 48)

/-- Key of stream order in the neighbourhood of line ref (R10): line, then record, gap, headers, bolts. -/
def orderKey (ref : Nat) (i : Item) : Nat := (i.first % 2 ^ 48 + 2 ^ 48 + 2 ^ 47 - ref % 2 ^ 48) % 2 ^ 48 * 4 + (if i.isRepeat then 0 else if i.isGap then 1 else if i.isHeaders then 2 else 3)

/-- A gap record of cause NOT_IN_SPOOL between two items of a replay; the device does not hold the size and times of what it never spooled, so they are free (log 5). -/
def missingGap (free fromLine toLine rep0 rep1 seq0 seq1 : Nat) : Gap :=
  { cause := 7, partialFirst := true, first := fromLine % 2 ^ 48, lines := if follows 48 fromLine toLine then mdist 48 fromLine toLine else 0, firstRepeat := rep0, lastRepeat := rep1, repeats := mdist 32 rep0 rep1 + 1,
    seqFirst := seq0, bolts := mdist 32 seq0 seq1, bytes := (Config.freeValue free).toNat, tFirst := (Config.freeValue (free + 1)).toNat, tLast := (Config.freeValue (free + 2)).toNat }

/-- The BOLT_SEQ at which an item's successor begins. -/
def nextSeq (i : Item) : Nat := if i.isRepeat then i.seq else (i.rowSeq + i.rowBolts) % 2 ^ 32

/-- Walk the items of a replay in order and put a gap record where BOLT_SEQ or the lines do not follow on. Rows cut by a lost segment are skipped whole, and the first line after a gap carries GAP_BEFORE (R296). -/
def fillGaps (dst : Nat) : Nat → Option Item → Nat → List Item → State → List Item × Nat × State
  | 0, _, m, _, s => ([], m, s)
  | _, _, m, [], s => ([], m, s)
  | f + 1, prev, m, i :: rest, s =>
    let row := i :: rest.takeWhile (fun j => sameRow i j)
    let broken := i.rowBolts != 0 && !i.isGap && (row.length != i.rowBolts + 1 || !i.isHeaders)
    if broken then fillGaps dst f prev m (rest.drop (row.length - 1)) s
    else
      let want := match prev with | some p => nextSeq p | none => i.seq
      let have' := if i.isRepeat then i.seq else i.rowSeq
      let (pre, m, s) :=
        match prev with
        | some p =>
          if want = have' then ([], m, s)
          else
            let (it, s) := makeGap dst (missingGap s.free (p.first + p.span) i.first p.repeatNo i.repeatNo want have') true { s with free := s.free + 3 }
            ([it], m + 1, s)
        | none => ([], m, s)
      let gb := (streamOf s dst).gapBefore && i.isHeaders
      let row := if gb then (match row with | h :: t => { h with bytes := markGapBefore h.bytes } :: t | [] => []) else row
      let s := if gb then modStream dst (fun x => { x with gapBefore := false }) s else s
      let (out, m, s) := fillGaps dst f (some i) m (rest.drop (row.length - 1)) s
      (pre ++ row ++ out, m, s)

/-- GAP_BEFORE on the first line of a list of items. -/
def markFirst : List Item → List Item
  | [] => []
  | i :: r => if i.isHeaders then { i with bytes := markGapBefore i.bytes } :: r else i :: markFirst r

/-- The first item behind the last one of a range that the log holds of its stream, of the same run of the device as the range (R323). -/
def itemBehind (r : Replay) (last : Item) (s : State) : Option Item :=
  let mine := s.spool.segs.filter (fun g => g.stream == r.src)
  let stale := !(mine.any (fun g => !g.stale && g.items.any (inRange r)))
  let later := ((mine.filter (fun g => g.stale == stale)).flatMap SpoolSeg.items).filter (fun i => !(inRange r i) && decide (orderKey last.first last < orderKey last.first i))
  (later.foldl (fun acc i => insertBy (orderKey last.first) i acc) ([] : List Item)).head?

/-- Where the last repeat of a REPEAT range ends, as line and BOLT_SEQ, if the log does not hold its tail (R325): the record of the next repeat tells, or the stream itself while that repeat is its last. Where neither does, the tail counts as held (log 97). -/
def tailLost (r : Replay) (last : Item) (s : State) : Option (Nat × Nat) :=
  let x := streamOf s r.src
  let found := match itemBehind r last s with
    | some j => if j.isRepeat && j.repeatNo == wrapInc 32 last.repeatNo then some (j.first, j.seq) else none
    | none => if (s.spool.segs.any (fun g => g.stream == r.src && !g.stale && g.items.contains last)) && (datumById s x.rid).any (fun (d : Datum) => d.repeatNo == last.repeatNo) then some (s.dlv.nextOut, x.seq) else none
  found.filter (fun e => e.2 != nextSeq last)

/-- All segments are read: put the items in stream order and place the gaps, at the ends of the range too. -/
def replayReady (r : Replay) (s : State) : State :=
  let s := modStream r.dst (fun x => { x with gapBefore := false }) s
  let l := r.items.foldl (fun acc i => insertBy (orderKey ((r.items.head?.map Item.first).getD 0)) i acc) ([] : List Item)
  let (mid, m, s) := fillGaps r.dst (l.length + 1) none 0 l s
  let first := mid.head?
  let lost := if r.range = 0 then (match first with | some i => !(i.isRepeat && i.repeatNo == r.first % 2 ^ 32) | none => true)
    else (match first with | some i => !atOrAfter48 i.first (r.first % 2 ^ 48) | none => true)
  let i0 := first.getD { bytes := [] }
  let (front, m, s) :=
    if lost then
      let rep0 := if r.range = 0 then r.first % 2 ^ 32 else i0.repeatNo
      let (it, s) := makeGap r.dst (missingGap s.free (if r.range = 0 then i0.first else r.first % 2 ^ 48) (if r.range = 1 && first.isNone then r.last % 2 ^ 48 + 1 else i0.first) rep0 i0.repeatNo i0.rowSeq i0.rowSeq) true { s with free := s.free + 3 }
      ([it], m + 1, s)
    else ([], m, s)
  let mid := if front.isEmpty then mid else markFirst mid
  let lastItem := mid.getLast?
  let tail := if r.range = 0 then lastItem.bind (fun i => tailLost r i s) else none
  let short := if r.range = 0 then (match lastItem with | some i => i.repeatNo != r.last % 2 ^ 32 || tail.isSome | none => false)
    else (match lastItem with | some i => !atOrAfter48 (r.last % 2 ^ 48) (i.first + (if i.span = 0 then 0 else i.span - 1)) | none => false)
  let (back, m, s) :=
    if short then
      let i1 := lastItem.getD { bytes := [] }
      let seq1 := nextSeq i1
      let stop := (tail.map (·.1)).getD (if r.range = 0 then i1.first + i1.span else r.last % 2 ^ 48 + 1)
      let (it, s) := makeGap r.dst (missingGap s.free (i1.first + i1.span) stop i1.repeatNo (if r.range = 0 then r.last % 2 ^ 32 else i1.repeatNo) seq1 ((tail.map (·.2)).getD seq1)) true { s with free := s.free + 3 }
      ([it], m + 1, s)
    else ([], m, s)
  modStream r.dst (fun x => { x with gapBefore := false }) { s with spool.replay := some { r with items := front ++ mid ++ back, ready := true, missing := m } }

/-- Begin the next read of a replay, or put its items in order when all are read. -/
def replayRead (s : State) : State :=
  match s.spool.replay with
  | none => s
  | some r =>
    if r.ready || s.spool.cmds.any (fun c => c.kind == 3) then s
    else
      match r.toRead.findSome? (fun l => s.spool.segs.find? (fun g => g.lseq == l)) with
      | none => replayReady r s
      | some g => readSeg 3 r.dst 0 g s

/-- A segment of the replay is read, or lost. -/
def replayGot (l : Nat) (ok : Bool) (s : State) : State :=
  match s.spool.replay with
  | none => s
  | some r =>
    let items := if ok then (((s.spool.segs.find? (fun g => g.lseq == l)).map SpoolSeg.items).getD []).filter (inRange r) else []
    replayRead { s with spool.replay := some { r with toRead := r.toRead.filter (· != l), items := r.items ++ items } }

/-- A replay ends (R324, R325). -/
def endReplay (status : Nat) (s : State) : State :=
  match s.spool.replay with
  | none => s
  | some r =>
    let s := completeBuf r.dst { s with spool.replay := none, spool.cmds := s.spool.cmds.filter (fun c => c.kind != 3) }
    complete (ofOpcode 0x0805) status 0 (if status = 0 then Nat.min r.missing 0xFFFF else 0) s

/-- Retire a drive (R322): a new epoch without it, EV_STALL DRIVE_RETIRED, the fault, its undelivered segments lost, writes in flight made again, and catch-up and replay go on behind what is lost. -/
def retireDrive (d : Nat) (s : State) : State :=
  if (s.spool.drives.getD d {}).state != 1 then s
  else
    let s := { s with spool.drives := nmod {} s.spool.drives d (fun v => { v with state := 2 }) }
    let mine := s.spool.cmds.filter (fun c => c.drive == d)
    let s := { s with spool.cmds := s.spool.cmds.filter (fun c => c.drive != d) }
    let s := newEpoch s
    let s := postLimited 1000000 6 d 8 (layout 16 [(0, 1, 8)]) s
    let s := raise 0x0401 d s
    let lost := (s.spool.segs.filter (fun g => g.drive == d)).map SpoolSeg.lseq
    let s := loseAll 2 lost s
    replayRead (readAll (mine.foldl (fun s c => if c.kind < 2 then reissueWrite c s else s) s))

/-- A read that failed twice, or whose segment's CRCs fail, is lost with cause MEDIA (R322). -/
def mediaLost (c : Nvme) (s : State) : State :=
  raiseWith 0x0403 c.drive (faultData 1 (leBytes 8 c.lseq)) 0 (readAll (loseAll 3 [c.lseq] s))

/-! ### Completion and loss of a command -/

/-- The newest uses of a drive that together last 1 s, as duration in ns and bytes. -/
def lastSecond : Nat → List (Nat × Nat) → List (Nat × Nat)
  | _, [] => []
  | t, e :: r => if 1000000000 ≤ t then [] else e :: lastSecond (t + e.1) r

/-- The rate over the last 1 s of use in MB/s (R315); that of before until the use has lasted 1 s. -/
def measured (old : Nat) (l : List (Nat × Nat)) : Nat :=
  let t := sumN (l.map (·.1))
  if t < 1000000000 then old else sumN (l.map (·.2)) * 1000 / t

/-- A transfer of n bytes has ended: the drive was in use since its start, or since the one before it ended (R315). -/
def noteWrite (c : Nvme) (n : Nat) (s : State) : State :=
  { s with spool.drives := nmod {} s.spool.drives c.drive (fun v =>
      let l := lastSecond 0 ((s.now - Nat.max c.start v.doneW, n) :: v.usesW)
      { v with usesW := l, doneW := s.now, rateW := measured v.rateW l }) }

def noteRead (c : Nvme) (n : Nat) (s : State) : State :=
  { s with
      spool.drives := nmod {} s.spool.drives c.drive (fun v =>
        let l := lastSecond 0 ((s.now - Nat.max c.start v.doneR, n) :: v.usesR)
        { v with usesR := l, doneR := s.now, rateR := measured v.rateR l }),
      spool.reads := if c.kind = 2 then (s.now, n) :: s.spool.reads.filter (fun e => decide (s.now < e.1 + 1000000000)) else s.spool.reads }

/-- NVME_COMMAND_COMPLETE of a write: the segment leaves the store (R307). -/
def writeDone (c : Nvme) (s : State) : State :=
  let x := streamOf s c.stream
  let prev := c.prev
  let (d, sl) := (locate s c.lseq).getD (c.drive, 0)
  let ep := ((epochAt s c.lseq).map SpoolEpoch.number).getD 0
  let s := noteWrite c (4096 * ceilN (0x1000 + itemsSize c.items + 16 * c.items.length) 4096) s
  if c.kind = 1 then
    logSeg { lseq := c.lseq, prev := prev, stream := c.stream, archive := true, epoch := ep, drive := d, slot := sl, items := c.items, delivered := true, stale := false, ord := c.ord, sealed := c.sealed } s
  else
    match x.store.find? (fun g => g.lseq == some c.lseq) with
    | none => s
    | some g =>
      let s := g.items.foldl (fun s i => countDelivered c.stream i s) s
      let items := g.items.map (fun i => { i with counted := true })
      let s := logSeg { lseq := c.lseq, prev := prev, stream := c.stream, archive := false, epoch := ep, drive := d, slot := sl, items := items, delivered := false, stale := false, ord := g.ord, sealed := c.sealed } s
      modStream c.stream (fun x => { x with store := x.store.filter (fun h => h.ord != g.ord), spooled := insertBy (ordOf s) c.lseq x.spooled }) s

/-- A read has ended well: the segment's items are at hand. -/
def readDone (c : Nvme) (s : State) : State :=
  let s := noteRead c 4194304 s
  if c.kind = 3 then replayGot c.lseq true s
  else
    let items := ((s.spool.segs.find? (fun g => g.lseq == c.lseq)).map SpoolSeg.items).getD []
    dropEmpty c.stream (modStream c.stream (fun x => { x with fetched := x.fetched ++ items, fetchedOf := some c.lseq }) s)

/-- A command has failed: a write goes again under a new LSEQ, a read is tried once more, then is lost (R322). -/
def nvmeFailed (c : Nvme) (s : State) : State :=
  if c.kind < 2 then reissueWrite c s
  else if c.tries = 0 then
    match s.spool.segs.find? (fun g => g.lseq == c.lseq) with
    | some g => readSeg c.kind c.stream 1 g s
    | none => s
  else if c.kind = 3 then replayGot c.lseq false (raiseWith 0x0403 c.drive (faultData 1 (leBytes 8 c.lseq)) 0 s)
  else mediaLost c s

def nvmeComplete (d l : Nat) (ok : Bool) (s : State) : State :=
  match s.spool.cmds.find? (fun c => c.drive == d && c.lseq == l) with
  | none => s
  | some c =>
    let s := { s with spool.cmds := s.spool.cmds.erase c }
    let lost := decide (2 ≤ c.kind) && s.spool.segs.any (fun g => g.lseq == l && g.sealed)
    replayRead (readAll (if !ok || lost then nvmeFailed c s else if c.kind < 2 then writeDone c s else readDone c s))

/-- NVME_TIMEOUT (R322): a command 2 s old is aborted; the third timeout within 60 s retires the drive. -/
def nvmeTimeout (d l : Nat) (s : State) : State :=
  match s.spool.cmds.find? (fun c => c.drive == d && c.lseq == l) with
  | none => s
  | some c =>
    if s.now < c.start + 2000000000 then s
    else
      let v := s.spool.drives.getD d {}
      let recent := (s.now :: v.recent).filter (fun t => decide (s.now < t + 60000000000))
      let s := { s with spool.drives := s.spool.drives.set d { v with timeouts := satInc 32 v.timeouts, recent := recent } }
      let s := emit (.nvme d 0 8 0 0 []) s
      if 3 ≤ recent.length then retireDrive d s else replayRead (readAll (nvmeFailed c { s with spool.cmds := s.spool.cmds.erase c }))

/-! ### Delivery of items (R300 to R302) -/

/-- The archive segment being filled is written, or skipped whole and counted (R321). -/
def archiveFlush (n : Nat) (s : State) : State :=
  let x := streamOf s n
  if x.archive.isEmpty then s
  else
    let s' := match writeSeg 1 n s.dlv.segOrd x.archive s with
      | some s' => { s' with dlv.segOrd := s'.dlv.segOrd + 1 }
      | none => { s with spool.archSkipped := satInc 32 s.spool.archSkipped }
    modStream n (fun x => { x with archive := [] }) s'

/-- An archived stream's live items also fill archive segments (R321). -/
def archiveItem (n : Nat) (i : Item) (s : State) : State :=
  if !bit s.spool.cfg.archive n || (drivesIn s).isEmpty then s
  else
    let s := if segFits (streamOf s n).archive i then s else archiveFlush n s
    modStream n (fun x => { x with archive := x.archive ++ [i] }) s

/-- A stream that closes, or whose session is over, leaves no archive segment half filled once its live items are out. -/
def archiveEnd (n : Nat) (s : State) : State :=
  let x := streamOf s n
  if (x.closing || !s.tr.session) && x.work.isEmpty && x.live.isEmpty then archiveFlush n s else s

/-- Complete a STREAM_CLOSE whose flush is done (R73): the open buffer is completed, unless it still fills from the backlog (R301, R327). -/
def closeDone (n : Nat) (s : State) : State :=
  let x := streamOf s n
  if x.closing && x.work.isEmpty && x.live.isEmpty && x.row.isEmpty && x.accLines.isEmpty then
    let s := archiveEnd n s
    let s := if backlog x && (x.buf.map OpenBuf.kind).getD 0 != 0 then s else completeBuf n s
    let s := modStream n (fun x => { x with closing := false, flow := if x.opening.isSome then 1 else 0, lastDue := x.lastDue && backlog x }) s
    completeAll (ofOpRes 0x0802 n) 0 0 s
  else s

/-- What a plane-row asks of the store (R306): its reservation, or what a row that has begun to leave still has. -/
def rowNeeds (r : PlaneRow) : Nat := if r.headOut then rowHeld r else rowReserve r

/-- REFUGE_ADMIT (R306, R309, R311): the first plane-row that asks is reserved, or dropped with what follows it in its repeat. One that has begun to leave is not divided (R296): it waits for room, and what follows it is dropped. -/
def refugeAdmit (n : Nat) (s : State) : State :=
  let x := streamOf s n
  let pre := x.work.takeWhile (fun w => match w with | .row r => r.dest != .ask | _ => true)
  match x.work.drop pre.length with
  | .row r :: rest =>
    if decide (rowNeeds r ≤ freeSpace s x) then
      closeDone n (proofStopAt n (lineNo (rowGap 0 r false).first) (release n (modStream n (fun x => { x with work := pre ++ .row { r with dest := .store } :: rest }) s)))
    else if s.sys.mode = .proof && r.headOut then (if faultActive s 0x0402 n then s else raise 0x0402 n s)
    else if s.sys.mode = .proof then
      closeDone n (raise 0x0402 n (release n (modStream n (fun x => { x with work := pre ++ .row { r with dest := .drop 6 } :: rest }) s)))
    else
      let same := rest.takeWhile (fun w => match w with | .row _ => true | _ => false)
      let later := rest.drop same.length
      let drop := fun (w : Work) => match w with | .row q => Work.row { q with dest := if q.dest = .ask then .drop 1 else q.dest } | w => w
      if r.headOut && !(same.any (fun w => match w with | .row q => q.dest == .ask | _ => false)) && (x.flow = 3 || !later.isEmpty) then s else
      let first := Work.row (if r.headOut then r else { r with dest := .drop 1 })
      let s := modStream n (fun x => { x with work := pre ++ first :: same.map drop ++ later, flow := if later.isEmpty then 3 else x.flow }) s
      closeDone n (release n (stallEvent n 3 (lineNo (rowGap 0 r false).first) s))
  | _ => s

/-- The next backlog item, and whether it is read from the spool: the oldest first (R295, R310). One whose segment is being written, or must be read, is not at hand. -/
def nextBacklog (s : State) (x : Stream) : Option (Bool × Item) :=
  match x.fetched with
  | i :: _ => some (true, i)
  | [] =>
    if spoolFirst s x then none
    else match x.store with
      | g :: _ => if g.lseq.isSome then none else (g.items.head?).map (fun i => (false, i))
      | [] => none

/-- Take the next backlog item off its place; a segment read to its end is delivered. -/
def popBacklog (n : Nat) (spooled : Bool) (s : State) : State :=
  if spooled then
    let s := modStream n (fun x => { x with fetched := x.fetched.drop 1 }) s
    let x := streamOf s n
    match x.fetched, x.fetchedOf with
    | [], some l => readNext n (segDelivered l (modStream n (fun x => { x with fetchedOf := none, spooled := x.spooled.filter (· != l) }) s))
    | [], none => readNext n s
    | _, _ => s
  else
    readNext n <| modStream n (fun x => { x with store := match x.store with
      | g :: r => let g' := { g with items := g.items.drop 1 }; if g'.items.isEmpty && g.closed then r else if g'.items.isEmpty && r.isEmpty then [] else g' :: r
      | [] => [] }) s

/-- A live item goes into the host buffer. -/
def deliverLive (n : Nat) (i : Item) (s : State) : State :=
  closeDone n (archiveEnd n <| flushAfter n i (archiveItem n i (carry i.size (writeItem n i (modStream n (fun x => { x with live := x.live.drop 1 }) s)))))

/-- A backlog item goes into the host buffer, at CATCHUP_RATE at most (R310). -/
def deliverBacklog (n : Nat) (spooled : Bool) (i : Item) (s : State) : State :=
  let s := modStream n (fun x => { x with catchFree := 1000 * s.now + ceilN (1000 * i.size) x.ring.catchup }) (carry i.size (writeItem n i (touchHbm s)))
  closeDone n (drained n (flushAfter n i (popBacklog n spooled s)))

/-- One item is delivered, the stream stalls, or nothing can happen (R300, R302, R304, R305). DEDUCED (log 86): a live item that the link has not taken within the 20 µs of Table 1.10 is excess over the link, which enters the order of refuge. -/
def itemDelivery (n : Nat) (s : State) : State :=
  let x := streamOf s n
  match x.live with
  | i :: _ =>
    if x.ringErr then closeDone n (stallStream n s)
    else if (match x.buf with | some b => b.kind != 0 | none => false) then s
    else
      let s := roomFor n 0 i s
      if hasRoom (streamOf s n) 0 i then
        if itemLinkIdle s then deliverLive n i s
        else if i.ready + 20000 ≤ s.now then closeDone n (stallStream n s)
        else s
      else if (streamOf s n).buf.isNone && freeDescs (streamOf s n) = 0 then closeDone n (stallStream n s)
      else s
  | [] =>
    if x.ringErr || !itemLinkIdle s || !noLiveWaits s then s
    else if x.catchup then
      match nextBacklog s x with
      | none => s
      | some (sp, i) =>
        if 1000 * s.now < x.catchFree then s
        else
          let s := roomFor n 1 i s
          if hasRoom (streamOf s n) 1 i then deliverBacklog n sp i s else s
    else
      match s.spool.replay with
      | none => s
      | some r =>
        if r.dst != n || !r.ready || decide (1000 * s.now < r.free) then s
        else
          match r.items with
          | [] => s
          | i :: rest =>
            let s := roomFor n 2 i s
            if hasRoom (streamOf s n) 2 i then
              flushAfter n i (carry i.size (writeItem n i { s with spool.replay := some { r with items := rest, free := 1000 * s.now + ceilN (1000 * i.size) r.rate } }))
            else s

/-- CATCHUP (R310): a backlog exists and a descriptor is free beyond RESERVE. -/
def startCatchup (n : Nat) (s : State) : State :=
  let x := streamOf s n
  if !x.ringed || x.ringErr || x.catchup || !backlog x || freeDescs x ≤ x.ring.reserve then s
  else readNext n (stallEvent n 4 0 (modStream n (fun x => { x with catchup := true }) s))

/-- DESCRIPTOR_FETCH (R299, R300): descriptor HEAD arrives; one that breaks Table 9.6 is completed at once. -/
def descriptorFetch (n : Nat) (b : List Byte) (s : State) : State :=
  let x := streamOf s n
  if !x.ringed || x.ringErr || !hostUp s || x.desc.isSome || x.buf.isSome || x.head = x.tail then s
  else
    let a := field b 0 8
    let len := field b 8 4
    let irq := bit (field b 12 2) 0
    if a % 4096 != 0 || len % 4096 != 0 || len < 65536 || 67108864 < len then
      let next := match x.live with | i :: _ => i.seq | [] => x.seq
      completeDesc n 0 0 (x.phase + 64) next irq (modStream n (fun x => { x with rejects := satInc 32 x.rejects }) s)
    else modStream n (fun x => { x with desc := some (a, len, irq) }) s

/-- RING_TAIL_WRITE (R303). -/
def tailWrite (n tail : Nat) (s : State) : State :=
  let s := modStream n (fun x => { x with tail := tail % 2 ^ 32 }) s
  let x := streamOf s n
  if !x.ringed then s
  else if x.ring.entries < mdist 32 x.head x.tail then (if x.ringErr then s else ringError n 0xFFFFFFFF s)
  else modStream n (fun x => { x with ringErr := false }) s

/-- FLUSH_AGE, FLUSH_RECORD_TIMEOUT and BACKLOG_BUFFER_EARLY (R301, R302). -/
def flushAge (n : Nat) (s : State) : State :=
  let x := streamOf s n
  match x.buf with
  | some b => if x.ring.flush = 2 && decide (b.opened + x.ring.maxAge * 1000 ≤ s.now) then completeBuf n s else s
  | none => s

def flushRecord (n : Nat) (s : State) : State :=
  let x := streamOf s n
  match x.buf.bind OpenBuf.recAt with
  | some t => if x.ring.flush = 0 && decide (t + 20000 ≤ s.now) then completeBuf n s else s
  | none => s

def backlogEarly (n : Nat) (s : State) : State :=
  let x := streamOf s n
  match x.buf, x.live with
  | some b, i :: _ => if b.kind = 1 && decide (i.ready + 10000 ≤ s.now) then completeBuf n s else s
  | _, _ => s

/-- PROOF_RESUME_ALLOW (R311): every stream at or below PROOF_LOW with RESERVE free. -/
def proofResume (s : State) : State :=
  let open' := s.dlv.streams.filter (fun x => x.flow != 0 || backlog x)
  if !(s.dlv.streams.any Stream.proofStopped) || !(open'.all (fun x => decide (storeUsed x ≤ x.ring.proofLow * 64 * 2 ^ 20) && decide (x.ring.reserve ≤ freeDescs x) && !x.ringErr)) then s
  else
    (List.range 8).foldl (fun s n =>
      if (streamOf s n).proofStopped then stallEvent n 10 0 (modStream n (fun x => { x with proofStopped := false }) s) else s) { s with dlv.proofStop := false }

/-- STORE_OVERFLOW is over at or below PROOF_LOW (Table 16.2). -/
def overflowOver (s : State) : State :=
  (List.range 8).foldl (fun s n =>
    if faultActive s 0x0402 n && storeUsed (streamOf s n) ≤ (streamOf s n).ring.proofLow * 64 * 2 ^ 20 then clearFault 0x0402 n s else s) s

end Sys2Proof.Machine
end

