-- ==== Sys2Proof/Machine/AlnOps.lean ====
section
/-! DEFINITION. One output line: the Baseline, the Seam, the tracker, running white, and every stream's groups and plane-rows (chapters 5, 6 and 8). -/

namespace Sys2Proof.Machine

/-! ### Building the line (R196 to R206) -/

/-- What each placed port gives one plane slot of output line k. -/
def planeOuts (s : State) (ps : List Placed) (q k rid : Nat) : List (Nat × PlaneOut) :=
  ps.map (fun pl =>
    let c := (portOf s pl.port).cfg
    (pl.port, if bit c.planes q && s.aln.outPlanes.contains (pl.port * 4 + q) then .absent else if bit c.planes q then alongWeb s.tr s.aln.win pl.port q k (offs s pl.port q) rid pl.cols else .notEnabled))

def presentYs (outs : List (Nat × PlaneOut)) (p : Nat) : Option (List Int) :=
  match outs.find? (fun e => e.1 == p) with | some (_, .present ys) => some ys | _ => none

/-- What the ports show of one plane: a port whose bit is set in the line's RETIRED_MASK is out (R206). -/
def shownOuts (mask : Nat) (outs : List (Nat × PlaneOut)) : List (Nat × PlaneOut) := outs.map (fun e => if bit mask e.1 then (e.1, .notEnabled) else e)

/-- The stitched row of a plane. -/
def stitchRow (b : Bank) (ps : List Placed) (outs : List (Nat × PlaneOut)) : List Smp :=
  (List.range (stitchedWidth ps)).map (stitchCol b.seams ps (presentYs outs))

/-- The highest exposure that line k waits for (R194, R196): of a stored line, the one with which it returns. -/
def lastDrawn (s : State) (k : Nat) : Nat :=
  maxN (k :: (enabledPorts s).flatMap (fun p => (slotsOf (portOf s p).cfg).map (fun q => k + 2 - (baseOf s p).dInt.getD q 0)))

/-- Every candidate of line k is present: its exposures have left the Gate, or will not come. -/
def lineReady (s : State) (k : Nat) : Bool :=
  s.gate.all (fun g => decide (lastDrawn s k < g.line)) && (decide (lastDrawn s k < s.tr.nextK) || !(mayFreeze s || (s.tr.session && s.tr.resumes)))

/-- Counters of Table 6.11 for one line: substituted, uncovered and absent planes, and widened seams. DESIGN CHOICE (log 97): a SYNTH line counts in no BL_SUBST, and a plane put out by an SRAM error of the Baseline store in neither BL_ABSENT nor BL_UNCOVERED. -/
def countPlanes (l : GridLine) (ps : List Placed) (all : List (Nat × List (Nat × PlaneOut))) (s : State) : State :=
  let flat := all.flatMap (fun (q, os) => os.map (fun (p, o) => (p, q, o)))
  let unc := (flat.filter (fun e => e.2.2 == .uncovered)).length
  let ab := (flat.filter (fun e => e.2.2 == .absent && !s.aln.outPlanes.contains (e.1 * 4 + e.2.1))).length
  let wid := sumN (all.map (fun (_, os) => widenedSeams ps (fun p => (presentYs (shownOuts l.mask os) p).isSome)))
  let lost := fun (p q : Nat) => s.aln.squashed.any (fun e =>
    let o := offs s p q
    e.2.contains (p * 4 + q) && decide (l.line ≤ e.1 + o / 64 + 3) && decide (e.1 + o / 64 ≤ l.line + 2) && ridAt s e.1 o (gridPos s.tr e.1) == l.rid)
  let sub := if l.kind = .squash then [] else flat.filter (fun e => !(e.2.2 == .notEnabled) && lost e.1 e.2.1)
  { s with aln.uncovered := satInc 32 s.aln.uncovered unc, aln.absent := satInc 32 s.aln.absent ab, aln.widened := satInc 32 s.aln.widened wid,
           aln.subst := sub.foldl (fun t e => tmod 0 (e.1 * 4 + e.2.1) (satInc 32) t) s.aln.subst }

/-- CRC_FLAGGED (Table 6.8, R200). -/
def crcFlagged (mask : Nat) (all : List (Nat × List (Nat × PlaneOut))) : Bool :=
  all.any (fun (_, os) => os.any (fun (p, o) => (o == .absent || o == .uncovered) && !bit mask p))

/-! ### The tracker (R207 to R210) -/

/-- Publish the tracker's state after a line: both sides, both edges and their device-column forms (R210). -/
def publishEdges (b : Bank) (ps : List Placed) (a c : SvSide) (s : State) : State :=
  { s with aln.older := if s.aln.pubT = some s.now then s.aln.older else edgesOf s, aln.pubT := some s.now,
           aln.left := a, aln.right := c, aln.leftDev := devEdge b.seams ps a.edge, aln.rightDev := devEdge b.seams ps c.edge }

/-- Measure a line that is not SYNTH, and publish the tracker's state. With SV_ENABLE 0 both sides are LOST, which a LOCKED one becomes (Table 6.11). -/
def trackEdges (l : GridLine) (b : Bank) (ps : List Placed) (row : List Smp) (s : State) : State :=
  let up := fun i n (v : List Nat) => nmod 0 v i (fun y => satInc 32 y n)
  if b.sv.enable = 0 then
    publishEdges b ps { edge := s.aln.left.edge } { edge := s.aln.right.edge }
      { s with aln.svCounters := up 2 (b2n s.aln.left.locked) (up 3 (b2n s.aln.right.locked) s.aln.svCounters) }
  else if l.kind = .squash then publishEdges b ps s.aln.left s.aln.right s
  else
    let (cl, cr) := svCandidates b.sv row
    let (a, m1, x1, q1) := svStep b.sv s.aln.left cl
    let (c, m2, x2, q2) := svStep b.sv s.aln.right cr
    let cs := s.aln.svCounters
    publishEdges b ps a c { s with aln.svCounters := up 0 m1 (up 1 m2 (up 2 x1 (up 3 x2 (up 4 (q1 + q2) cs)))) }

/-! ### Running white (R183, R184) -/

/-- Every tile-plane-line that the plane draws latched the current RW_GEN. -/
def drawnCurrent (s : State) (p q k rid : Nat) : Bool :=
  let cs := candidates s.aln.win p q k (offs s p q) rid
  let taps := cs.map (fun w => ({ u := tapPos s.tr k (offs s p q) w.x, rank := (w.line : Int), y := if w.absent then none else some 0 } : Tap))
  let drawn := (weights (selectTaps taps)).filter (fun tw => !(tw.2 == 0))
  cs.all (fun w => !(drawn.any (fun tw => tw.1.rank == (w.line : Int))) || w.gen == s.px.rwGen.getD q 0)

/-- Usable strip samples of a side and plane in device columns (R183). DESIGN CHOICE (log 84): RW_x_LAST = NONE with a first column set means the last column of the reference port. -/
def stripSamples (s : State) (c : SvCfg) (side rp : Nat) (ys : List Int) : List Int :=
  let (f, l) := if side = 0 then (c.rwLFirst, c.rwLLast) else (c.rwRFirst, c.rwRLast)
  let l := Nat.min l (rp * 5120 + (portOf s rp).cfg.columns - 1)
  ((List.range (l + 1 - f)).map (f + ·)).filterMap (fun col =>
    let ok := if side = 0 then decide (col + c.rwMargin < s.aln.leftDev) else decide (s.aln.rightDev + c.rwMargin < col)
    if ok then ys[col - rp * 5120]? else none)

/-- One side and plane slot of the line takes part in its block, or is counted in RW_SKIPPED (R183). A block with RW_LINES lines is complete, and the next one opens at once (R184). -/
def rwSide (l : GridLine) (c : SvCfg) (all : List (Nat × List (Nat × PlaneOut))) (side q : Nat) (s : State) : State :=
  match rwPort (if side = 0 then c.rwLFirst else c.rwRFirst) with
  | none => s
  | some rp =>
    if !bit c.rwPlanes q then s
    else
      let i := 4 * side + q
      let r := s.px.rw.getD i {}
      let skip := { s with px.counters := nmod 0 s.px.counters 8 (satInc 32) }
      let ys := ((all.find? (fun e => e.1 == q)).bind (fun e => presentYs e.2 rp))
      match ys with
      | none => skip
      | some ys =>
        let use := stripSamples s c side rp ys
        if l.kind = .squash || l.stale || bit l.mask rp || !s.aln.left.locked || !s.aln.right.locked || use.length < c.rwMinCols || r.wait || gradeStops s q || !drawnCurrent s rp q l.line l.rid then skip
        else
          let r' := { r with lines := r.lines + 1, n := r.n + use.length, sum := r.sum + sumI use }
          { s with px.rw := s.px.rw.set i (if c.rwLines ≤ r'.lines then { r' with lines := 0, n := 0, sum := 0, ready := r'.ready ++ [(r'.n, r'.sum)] } else r') }

def runningWhite (l : GridLine) (c : SvCfg) (all : List (Nat × List (Nat × PlaneOut))) (s : State) : State :=
  if c.rwEnable = 0 || !(s.sys.mode = .inline || s.sys.mode = .proof) then s
  else [0, 1].foldl (fun s side => (List.range 4).foldl (fun s q => rwSide l c all side q s) s) s

/-! ### Streams (R212 to R219, R260 to R262) -/

/-- Enabled regions of a stream's mask, increasing. -/
def regionsOf (b : Bank) (fmt : StreamFmt) : List (Nat × Region) :=
  ((maskIdx 256 fmt.regions).map (fun i => (i, tget {} i b.regions))).filter (fun e => e.2.enable == 1)

/-- B_Y (R212). -/
def binYOf (b : Bank) (fmt : StreamFmt) : Nat := match regionsOf b fmt with | (_, r) :: _ => r.binY | [] => 1

/-- Active regions for a group whose first line is the given LINE_IN_REPEAT (R213). -/
def activeRegions (b : Bank) (fmt : StreamFmt) (ws inRepeat : Nat) : List (Nat × Region) :=
  (regionsOf b fmt).filter (fun e => decide (e.2.lineFirst ≤ inRepeat) && decide (inRepeat ≤ e.2.lineLast) && decide (0 < regionBins e.2 ws))

/-- A masked bin (R215). -/
def masked (r : Region) (edges : Option Nat × Option Nat) (c0 : Nat) : Bool :=
  r.edgeMask == 1 &&
  ((match edges.1 with | some e => decide (c0 + r.binX - 1 + r.margin < e) | none => false) ||
   (match edges.2 with | some e => decide (e + r.margin < c0) | none => false))

/-- The codes of one region and plane, and whether a bin carries MASK_CODE (R214 to R216). -/
def regionCodes (s : State) (fmt : StreamFmt) (q ws : Nat) (r : Region) (edges : Option Nat × Option Nat) (rows : List (List Smp)) : List Nat × Bool :=
  let bins := (List.range (regionBins r ws)).map (fun i =>
    let c0 := r.colFirst + i * r.binX
    match binValue rows c0 r.binX with
    | .fill p => (codeAt (portOf s p).cfg.fill fmt.depth, false)
    | .v y => if masked r edges c0 then (codeAt r.maskCode fmt.depth, true) else (quantise (fmt.black.getD q 0) (fmt.white.getD q 65536) fmt.depth y, false))
  (bins.map (·.1), bins.any (·.2))

/-- Code of a bin factor: 1, 2 or 4. -/
def binCode (b : Nat) : Nat := if b = 4 then 2 else if b = 2 then 1 else 0

/-- The 32 bytes of a line header, without GAP_BEFORE (Table 6.7). -/
def headerBytes (ls : List AccLine) (repeatNo gen planes fmtByte : Nat) (first : Bool) : List Byte :=
  let l0 := ls.headD { k := 0, inRepeat := 0, pos := 0, flags := 0, mask := 0, t := 0, edges := (none, none) }
  let flags := ls.foldl (fun f l => f ||| l.flags) (32 * b2n first)
  let mask := ls.foldl (fun m l => m ||| l.mask) 0
  layout 32 [(0, 4, lineNo l0.k), (4, 2, epochOf l0.k), (6, 2, flags), (8, 4, repeatNo), (0x0C, 4, l0.inRepeat), (0x10, 8, ofS 64 l0.pos),
             (0x18, 4, mask), (0x1C, 2, gen), (0x1E, 1, planes), (0x1F, 1, fmtByte)]

/-- A stream's group is complete: it joins the plane-row, or is not carried (R213, R260). -/
def closeGroup (n : Nat) (b : Bank) (fmt : StreamFmt) (d : Datum) (ws : Nat) (s : State) : State :=
  let x := streamOf s n
  match x.accLines with
  | [] => s
  | l0 :: _ =>
    let act := activeRegions b fmt ws l0.inRepeat
    let s := modStream n (fun x => { x with accLines := [], accRows := [] }) s
    if act.isEmpty then s
    else
      let by' := binYOf b fmt
      let slots := maskIdx 4 fmt.planes
      let parts := slots.map (fun q => act.map (fun e => regionCodes s fmt q ws e.2 l0.edges (x.accRows.map (fun rows => rows.getD q []))))
      let codes := parts.map (fun rs => rs.flatMap (·.1))
      let anyMask := parts.any (fun rs => rs.any (·.2))
      let bx := match act with | (_, r) :: _ => r.binX | [] => 1
      let fb := depthCode fmt.depth + 4 * binCode bx + 16 * binCode by' + 64 * b2n anyMask
      let regs := act.map (·.1)
      let s := if !x.row.isEmpty && regs != x.rowRegs then closeRow n b fmt d.repeatNo d.gen by' s else s
      let g : Group := { header := headerBytes x.accLines d.repeatNo d.gen fmt.planes fb (!x.carried), first := l0.k, lines := x.accLines.length, tFirst := l0.t,
                         tLast := (x.accLines.getLastD l0).t, codes := codes }
      let s := modStream n (fun x => { x with row := x.row ++ [g], rowRegs := regs, rowNc := (codes.headD []).length, carried := true }) s
      if fmt.boltH ≤ (streamOf s n).row.length then closeRow n b fmt d.repeatNo d.gen by' s else s

/-- Close what a stream stages of the repeat it is in (R261). -/
def closeStream (n : Nat) (s : State) : State :=
  let x := streamOf s n
  match datumById s x.rid with
  | none => s
  | some d =>
    let b := bankOf s x.rid
    let fmt := tget {} n b.streams
    let ws := stitchedWidth (gridOf s b)
    closeRow n b fmt d.repeatNo d.gen (binYOf b fmt) (closeGroup n b fmt d ws s)

/-- The repeat record of a stream (Table 2.7). -/
def repeatBytes (s : State) (n : Nat) (d : Datum) (l : GridLine) (prevLines : Nat) : List Byte :=
  let pos := if d.byPos then d.pos else reported (gridPos s.tr l.line)
  let dev := if bit d.flags 0 then clampI d.deviation (-(2 ^ 31)) (2 ^ 31 - 1) else 0
  layout 64 [(0, 2, 0xDA70), (2, 1, (d.flags % 64) ||| (64 * b2n (unsync s))), (3, 1, n), (4, 4, d.repeatNo), (8, 4, lineNo l.line), (0x0C, 2, epochOf l.line),
             (0x0E, 2, d.gen), (0x10, 8, l.t), (0x18, 8, ofS 64 pos), (0x20, 4, d.cals), (0x24, 4, l.mask), (0x28, 4, prevLines), (0x2C, 4, ofS 32 dev)]

/-- A stream takes up a repeat: STREAM_OPEN restarts its counts and, where it waited for a close, is done (R73), and its way is chosen (R72, R263, R308 to R310). -/
def openRepeat (n : Nat) (d : Datum) (s : State) : State :=
  let x := streamOf s n
  let s := if (match x.opening with | some r => r == d.repeatNo || follows 32 r d.repeatNo | none => false) then
      completeAll (ofOpRes 0x0801 n) 0 0 (modStream n (fun x => { x with opening := none, seq := 0, gapSeq := 0, coding := [0, 0, 0, 0, 0, 0, 0], terms := [0, 0, 0, 0, 0, 0], stalls := 0, gaps := 0, rejects := 0, flow := if x.flow = 0 then 1 else x.flow, lastDue := x.lastDue && backlog x }) s)
    else s
  repeatFlow n (bit d.flags 5) (modStream n (fun x => { x with rid := d.id, carried := false }) s)

/-- A stream begins a repeat: a gap closes, and the repeat record goes ahead (R72, R309). -/
def beginRepeat (n : Nat) (d : Datum) (l : GridLine) (prevLines : Nat) (s : State) : State :=
  let s := openRepeat n d s
  let x := streamOf s n
  let it : Item := { bytes := repeatBytes s n d l prevLines, repeatNo := d.repeatNo, first := l.line, tFirst := l.t, tLast := l.t, seq := x.seq }
  let dest := if x.flow = 1 then Dest.live else if x.flow = 2 then Dest.store else Dest.drop 1
  release n (modStream n (fun x => { x with work := x.work ++ [.item it dest] }) s)

/-- The streams that the bank of a repeat holds open. -/
def openStreams (s : State) (b : Bank) : List Nat :=
  (List.range 8).filter (fun n => (tget {} n b.streams).opened && !(streamOf s n).closing)

/-- The output line is the first of a new repeat: what is staged closes, and the new repeat begins in every open stream. -/
def turnRepeat (d : Datum) (l : GridLine) (s : State) : State :=
  let prev := if bit d.flags 5 || s.dlv.outRid.isNone then 0 else l.line - s.dlv.outFirst
  let s := (List.range 8).foldl (fun s n => closeStream n s) s
  let s := { s with dlv.outRid := some d.id, dlv.outFirst := l.line }
  (openStreams s (bankOf s d.id)).foldl (fun s n => beginRepeat n d l prev s) s

/-- FLAGS of one line, without DATUM_FIRST and GAP_BEFORE (Table 6.8). -/
def lineFlags (l : GridLine) (crc : Bool) : Nat :=
  b2n (l.kind == .squash) + 2 * b2n (l.kind == .offcentre) + 4 * b2n (l.kind == .uncentred) + 8 * b2n l.replayed + 16 * b2n (l.mask != 0)
    + 64 * b2n l.stale + 128 * b2n l.undiag + 512 * b2n crc

/-- One stream takes the line (R213). -/
def streamLine (n : Nat) (b : Bank) (d : Datum) (ws : Nat) (a : AccLine) (rows : List (List Smp)) (s : State) : State :=
  let fmt := tget {} n b.streams
  let x := streamOf s n
  let first := match x.accLines with | l :: _ => l.inRepeat | [] => a.inRepeat
  let s := if (activeRegions b fmt ws first).isEmpty then s else { s with meter.lineLeft := tmod 0 a.k (· + 1) s.meter.lineLeft }
  let s := modStream n (fun x => { x with accLines := x.accLines ++ [a], accRows := x.accRows ++ [rows] }) s
  if binYOf b fmt ≤ (streamOf s n).accLines.length then closeGroup n b fmt d ws s else s

/-- Drop what no later line can draw. -/
def pruneWindow (k : Nat) (s : State) : State :=
  { s with aln.win := s.aln.win.filter (fun w => decide (k + 1 ≤ w.line + offs s w.port w.slot / 64 + 3)),
           aln.squashed := s.aln.squashed.filter (fun e => decide (k + 1 ≤ e.1 + lookAhead s + 3)) }

/-- Build and emit one grid line. -/
def emitLine (l : GridLine) (d : Datum) (s : State) : State :=
  let b := bankOf s l.rid
  let ps := gridOf s b
  let all := (List.range 4).map (fun q => (q, planeOuts s ps q l.line l.rid))
  let rows := all.map (fun e => stitchRow b ps (shownOuts l.mask e.2))
  let s := if s.dlv.outRid = some d.id then s else turnRepeat d l s
  let s := runningWhite l b.sv all (trackEdges l b ps (rows.getD b.sv.plane []) (countPlanes l ps all s))
  let a : AccLine := { k := l.line, inRepeat := l.line - s.dlv.outFirst, pos := l.pos, flags := lineFlags l (crcFlagged l.mask all), mask := l.mask, t := l.t, edges := l.edges }
  let s := ((openStreams s b).filter (fun n => (streamOf s n).rid == d.id)).foldl (fun s n => streamLine n b d (stitchedWidth ps) a rows s) s
  pruneWindow l.line { s with dlv.nextOut := l.line + 1, aln.outPlanes := [] }

/-- OUTPUT_LINE (R196): the next grid line, once its candidates are present. Lines before the session's first are not output (R105). -/
def outputLine (s : State) : State :=
  let s := returnStored { s with aln.lines := s.aln.lines.filter (fun l => decide (s.dlv.nextOut ≤ l.line)) }
  match s.aln.lines with
  | [] => s
  | l :: rest =>
    if !lineReady s l.line then s
    else
      match datumById s l.rid with
      | none => s
      | some d => emitLine l d { s with aln.lines := rest }

/-- The repeats, as Datum ids, of n grid lines from k on (R64). -/
def ridsFrom (s : State) (k n : Nat) : List Nat := ((List.range n).map (fun i => ridAt s (k + i) 0 (gridPos s.tr (k + i)))).eraseDups

/-- Lines that will not be made stand as a gap in every open stream (R47, R50, R296): n lines from the next output line on. Where no line of the session was output, the streams take up its first repeat, whose head is then not kept. -/
def stopGap (cause n : Nat) (s : State) : State :=
  if n = 0 then s
  else
    let ds := (ridsFrom s s.dlv.nextOut n).filterMap (datumById s)
    match s.dlv.outRid.bind (datumById s), ds.head? with
    | none, none => s
    | some d, _ => add d true ds s
    | none, some d => add d false ds ((openStreams s (bankOf s d.id)).foldl (fun s i => openRepeat i d s) { s with dlv.outRid := some d.id, dlv.outFirst := s.dlv.nextOut })
where
  add (d : Datum) (inside : Bool) (ds : List Datum) (s : State) : State :=
    (openStreams s (bankOf s d.id)).foldl (fun s i =>
      let x := streamOf s i
      let d0 := ds.headD d
      let d1 := ds.getLastD d
      let g : Gap := { cause := cause, partialFirst := inside && d0.id == d.id, first := s.dlv.nextOut, lines := n, firstRepeat := d0.repeatNo, lastRepeat := d1.repeatNo,
                       repeats := Nat.max 1 ds.length, seqFirst := x.seq, bolts := 0, bytes := 0, tFirst := 0, tLast := 0 }
      release i (modStream i (fun x => addTerm 2 n { x with work := x.work ++ [.gap g (if x.flow = 1 then .live else .store)] }) s)) s

end Sys2Proof.Machine
end

