-- ==== Sys2Proof/Machine/MemOps.lean ====
section
/-! DEFINITION. Errors of the protected memories, repair and exclusion of rows (chapter 16). -/

namespace Sys2Proof.Machine

/-! ### Corrected errors (R524) -/

/-- Corrected errors enter the log once per resource per second, with their count in DATA. -/
def corrected (code res : Nat) (s : State) : State :=
  let key := code * 65536 + res
  let last := tget 0 key s.flt.corrTime
  let n := tget 0 key s.flt.corrCount + 1
  if last != 0 && decide (s.now < last - 1 + 1000000000) then { s with flt.corrCount := tset 0 key n s.flt.corrCount }
  else raiseWith code res (faultData n []) 0 { s with flt.corrTime := tset 0 key (s.now + 1) s.flt.corrTime, flt.corrCount := tset 0 key 0 s.flt.corrCount }

/-! ### SRAM rows (R526) -/

/-- An address of an SRAM store: its port, bank or processor, and the entry there. -/
def sramPlace (store unit addr : Nat) : Nat := (store * 256 + unit % 256) * 2 ^ 32 + addr

/-- Byte of a store at which an entry stands (log 22): the shading records and the raw lines of a port lie with those of its island (R28, R160), planes of the Baseline line store 294 912 bytes each. -/
def sramByte (store unit addr : Nat) : Nat :=
  match store with
  | 0 => unit % 32 / 4 * 1310720 + ((addr / 4 % 8 * 4 + unit % 4) * 4 + addr % 4) * 8960
  | 1 => let p := addr / 20480 % 32; p / 4 * 1310720 + (unit % 2 * 81920 + p % 4 * 20480 + addr % 20480) * 8
  | 3 => (unit % 32 * 4 + addr % 4) * 294912
  | 4 => unit % 6 * 1048576
  | _ => 0

/-- The memory unit of an entry, which is the RESOURCE of its faults and has its spare rows (R526): the 1 MiB of Table 1.4 that holds it, shading 0 to 9, Gate 10 to 19, Baseline 20 to 55, coding 56 to 61, and the processor memories, 62 CTL and 63 TIM with the polynomial sets (log 22). -/
def sramUnit (store unit addr : Nat) : Nat :=
  let k := sramByte store unit addr / 1048576
  match store with
  | 0 => 10 + k
  | 1 => k
  | 3 => 20 + k
  | 4 => 56 + k
  | 5 => if unit = 2 then 63 else 62
  | _ => 63

/-- Remap a row to a spare of its array, or raise SRAM_SPARES_OUT. -/
def retireRow (store unit addr : Nat) (s : State) : State :=
  let u := sramUnit store unit addr
  if tget 0 u s.mem.spares < 8 then
    clearFault 0x0802 u { s with mem.spares := tmod 0 u (· + 1) s.mem.spares, mem.repair := s.mem.repair ++ [sramPlace store unit addr] }
  else raise 0x0803 u s

/-! ### Outcomes of Table 16.5 -/

/-- A tile-plane-line in the Gate becomes absent (R147). -/
def rawLost (port a : Nat) (s : State) : State :=
  match s.gate[a / 4]? with
  | none => s
  | some g =>
    let hit := fun (t : Tpl) => t.port == port && t.slot == a % 4 && !t.absent
    if g.tpls.any hit then
      portCount port 2 { s with gate := s.gate.set (a / 4) { g with tpls := g.tpls.map (fun t => if hit t then { t with absent := true, codes := [], dark := [] } else t) } }
    else s

/-- A shading record reads back with GAIN 0, OFFSET 0 and DEF 0b11; unit 1 is the staged bank. -/
def shadeBad (unit rec : Nat) (s : State) : State :=
  let f := fun (r : Nat) => r % 2 ^ 10 + 3 * 2 ^ 10 + bits r 12 8 * 2 ^ 12
  if unit = 1 then { s with banks.staged.shade := tmod shadeReset rec f s.banks.staged.shade }
  else { s with banks.live.shade := tmod shadeReset rec f s.banks.live.shade }

/-- A double-bit error in a shading record that is in use. -/
def shadeLost (unit rec : Nat) (s : State) : State := shadeBad unit rec { s with mem.shadeDbe := satInc 32 s.mem.shadeDbe }

/-- A record of a tile-plane-line's port and plane names a polynomial set. -/
def namesSet (s : State) (set : Nat) (t : Tpl) : Bool :=
  let b := bankOf s t.rid
  let c := (portOf s t.port).cfg
  (List.range c.columns).any (fun i => bits (tget shadeReset (4 * devCol t.port c i + t.slot) b.shade) 12 8 == set % 256)

/-- A polynomial set is restored; tile-plane-lines of the exposures in the Gate that were collapsed from the bad word are absent: those whose records name the set. -/
def polyLost (set : Nat) (hit : Slot → Bool) (s : State) : State :=
  let gate := s.gate.map (fun g => if hit g && !dropped g then { g with tpls := g.tpls.map (fun t => if !t.absent && !t.discard && namesSet s set t then { t with absent := true, codes := [], dark := [] } else t) } else g)
  let n := fun (p : Nat) => sumN ((s.gate.zip gate).map (fun e => (e.2.tpls.filter (fun t => t.port == p && t.absent)).length - (e.1.tpls.filter (fun t => t.port == p && t.absent)).length))
  (enabledPorts s).foldl (fun s p => modPort p (fun x => { x with counters := nmod 0 x.counters 2 (fun c => satInc 32 c (n p)) }) s) { s with gate := gate }

/-- An exposure is collapsed with sets in which a scrub has found a double-bit error (R525): each is restored, and what was collapsed from it is absent. -/
def usePoly (g : Slot) (s : State) : State :=
  (s.mem.latentPoly.filter (fun set => g.tpls.any (fun t => !t.absent && namesSet s set t))).foldl (fun s set =>
    polyLost set (fun h => h.line == g.line && h.expo == g.expo) { s with mem.latentPoly := s.mem.latentPoly.filter (· != set) }) s

/-- A double-bit error of an SRAM store: 0 raw copy, 1 shading, 2 polynomial, 3 Baseline line store, 4 coding store, 5 processor memories (log 22). -/
def sramDouble (store unit addr : Nat) (s : State) : State :=
  let s := if store = 5 then raise 0x0807 unit s else raise 0x0802 (sramUnit store unit addr) s
  let s := match store with
    | 0 => releaseAll (rawLost unit addr s)
    | 1 => shadeLost unit addr s
    | 2 => releaseAll (polyLost addr Slot.collapsed s)
    | 3 => { s with aln.outPlanes := (unit * 4 + addr % 4) :: s.aln.outPlanes }
    | _ => s
  retireRow store unit addr s

/-- A corrected error: the second at one address within 24 h retires the row. -/
def sramCorrected (store unit addr : Nat) (s : State) : State :=
  let key := sramPlace store unit addr
  let last := tget 0 key s.mem.sramLast
  let s := corrected 0x0801 (sramUnit store unit addr) { s with mem.sramLast := tset 0 key (s.now + 1) s.mem.sramLast }
  if last != 0 && decide (s.now < last - 1 + 86400000000000) then retireRow store unit addr s else s

/-- SRAM_ERROR (R524 to R526). -/
def sramError (store unit addr : Nat) (double : Bool) (s : State) : State :=
  if 5 < store then s else if double then sramDouble store unit addr s else sramCorrected store unit addr s

/-! ### HBM (R195, R525, R527) -/

/-- The channel of an address: 1 GiB each in address order (log 23). -/
def hbmChannel (a : Nat) : Nat := a / 2 ^ 30 % 16

/-- The areas of Table 10.6: 0 host load area, 1 device-owned system area, 2 bolt staging, 3 stagger store, 4 ring store. -/
def hbmArea (a : Nat) : Option Nat :=
  if a < 0x4000000 then some 0 else if a < 0x8000000 then some 1 else if a < 0x30000000 then some 2
  else if a < 0x80000000 then some 3 else if a < 0x400000000 then some 4 else none

/-- Raise HBM_CHANNEL with the remaining ring store in DATA (R527). -/
def channelBad (ch : Nat) (s : State) : State :=
  if faultActive s 0x0806 ch then s else raiseWith 0x0806 ch (faultData 1 (leBytes 8 (storeSize s))) 0 s

/-- Exclude the row that holds an address: 4 KiB of its channel, until the next boot. A row of the ring store leaves the store at once. -/
def excludeRow (a : Nat) (s : State) : State :=
  let row := a / 4096
  let s := if s.mem.excluded.contains row then s else
    { s with mem.excluded := s.mem.excluded ++ [row], mem.remapped := s.mem.remapped + (if hbmArea a = some 4 then 1 else 0) }
  let ch := hbmChannel a
  let n := (s.mem.excluded.filter (fun r => hbmChannel (r * 4096) == ch)).length
  if (Config.hbmRepair ch).toNat < n then channelBad ch s else s

/-- A double-bit error counts toward the 16 within 1 s of its channel (R527). -/
def countDouble (ch : Nat) (s : State) : State :=
  let l := (s.now :: tget [] ch s.mem.dbeTimes).filter (fun t => decide (s.now < t + 1000000000))
  let s := { s with mem.dbeTimes := tset [] ch l s.mem.dbeTimes }
  if 16 ≤ l.length then channelBad ch s else s

/-- HBM_DBE of an address: raised, and cleared as its row is excluded. -/
def hbmDouble (a : Nat) (s : State) : State :=
  let ch := hbmChannel a
  clearFault 0x0805 ch (countDouble ch (excludeRow a (raise 0x0805 ch s)))

/-- A tile-plane-line that the stagger store holds becomes absent and is counted (R195). -/
def staggerLost (p q k : Nat) (s : State) : State :=
  if s.aln.store.any (fun w => w.port == p && w.slot == q && w.line == k && !w.absent) then
    { s with aln.store := s.aln.store.map (fun w => if w.port == p && w.slot == q && w.line == k then { w with absent := true, y := [] } else w), aln.stDbe := satInc 32 s.aln.stDbe }
  else s

/-- The items of the ring store in the order of their segments' opening (log 23): stream, segment and index of each. -/
def storeItems (s : State) : List (Nat × Nat × Nat × Item) :=
  let segs := (withIdx 0 s.dlv.streams).flatMap (fun e => e.2.store.map (fun g => (e.1, g)))
  let segs := segs.foldl (fun acc e => insertBy (fun x : Nat × StoreSeg => x.2.ord) e acc) ([] : List (Nat × StoreSeg))
  segs.flatMap (fun e => (withIdx 0 e.2.items).map (fun i => (e.1, e.2.ord, i.1, i.2)))

/-- The one of them that holds byte o, laid one after the other, and the byte's place in it. -/
def itemSpot : Nat → List (Nat × Nat × Nat × Item) → Option ((Nat × Nat × Nat × Item) × Nat)
  | _, [] => none
  | o, e :: r => if o < e.2.2.2.size then some (e, o) else itemSpot (o - e.2.2.2.size) r

def itemAt (s : State) (o : Nat) : Option (Nat × Item) := (itemSpot o (storeItems s)).map (fun e => (e.1.1, e.1.2.2.2))

/-- The word's four samples are replaced by the fill code of the port that owns their first column, and the group carries CRC_FLAGGED. Staged groups of a stream lie in order, each plane after the other, two bytes a sample, 80 MiB a stream (log 23). -/
def fillGroup (s : State) (b : Bank) (fmt : StreamFmt) (inRepeat : Nat) (o : Nat) (g : Group) : Group :=
  let nc := (g.codes.headD []).length
  let q := o / nc
  let ps := gridOf s b
  let colOf := fun (i : Nat) =>
    ((activeRegions b fmt (stitchedWidth ps) inRepeat).foldl (fun (acc : Nat × Option Nat) e =>
      let n := regionBins e.2 (stitchedWidth ps)
      if acc.2.isSome then acc else if i < acc.1 + n then (acc.1, some (e.2.colFirst + (i - acc.1) * e.2.binX)) else (acc.1 + n, none)) (0, none)).2.getD 0
  let o4 := o / 4 * 4 - o / nc * nc
  let fill := codeAt (portOf s (ownerOf b.seams ps (colOf o4))).cfg.fill fmt.depth
  { g with codes := nmod [] g.codes q (fun row => (withIdx 0 row).map (fun e => if o4 ≤ e.1 && e.1 < o4 + 4 then fill else e.2)),
           header := patch g.header 6 (leBytes 2 (field g.header 6 2 ||| 512)) }

def groupSamples (g : Group) : Nat := sumN (g.codes.map List.length)

/-- Walk the staged groups to the one that holds sample o. -/
def fillAt (f : Nat → Group → Group) : Nat → List Group → List Group
  | _, [] => []
  | o, g :: r => if o < groupSamples g then f o g :: r else g :: fillAt f (o - groupSamples g) r

/-- A plane-row that has closed keeps its samples in the bolt staging until the last of its bolts is coded. -/
def rowStaged (r : PlaneRow) : Bool := decide (r.out + r.coded.length < rowBoltCount r)

/-- Samples that the closed plane-rows of a stream stage. -/
def workGroups (ws : List Work) : List Group :=
  ws.flatMap (fun w => match w with | .row r => if rowStaged r then r.groups else [] | _ => [])

/-- Walk the closed plane-rows to the one that stages sample o. -/
def fillWork (f : PlaneRow → Nat → Group → Group) : Nat → List Work → List Work
  | _, [] => []
  | o, w :: ws =>
    let n := sumN ((workGroups [w]).map groupSamples)
    if o < n then (match w with | .row r => .row { r with groups := fillAt (f r) o r.groups } | w => w) :: ws else w :: fillWork f (o - n) ws

/-- Change sample o of what a stream stages: its closed plane-rows, oldest first, then the open one. -/
def fillStaged (f : PlaneRow → Nat → Group → Group) (g : Nat → Group → Group) (o : Nat) (x : Stream) : Stream :=
  let n := sumN ((workGroups x.work).map groupSamples)
  if o < n then { x with work := fillWork f o x.work } else { x with row := fillAt g (o - n) x.row }

/-! ### The stack as BAR2 shows it (R336, log 23) -/

/-- Sample o of staged groups. -/
def stagedSample : Nat → List Group → Option Nat
  | _, [] => none
  | o, g :: r => if o < groupSamples g then g.codes.flatten[o]? else stagedSample (o - groupSamples g) r

/-- Byte k of a value, and the value with that byte replaced. -/
def byteOf (v k : Nat) : Byte := BitVec.ofNat 8 (v / 256 ^ k)

def withByte (v k : Nat) (b : Byte) : Nat := v - v / 256 ^ k % 256 * 256 ^ k + b.toNat * 256 ^ k

/-- What a unit holds at an address of its own area, in the clear: staged samples of two bytes, stagger-store samples of four, items of the ring store. -/
def unitByte (s : State) (a : Nat) : Option Byte :=
  match hbmArea a with
  | some 2 =>
    let o := a - 0x8000000
    let x := streamOf s (o / 83886080)
    (stagedSample (o % 83886080 / 2) (workGroups x.work ++ x.row)).map (fun v => byteOf v (o % 2))
  | some 3 =>
    let o := a - 0x30000000
    (s.aln.store[o / 20480]?).bind (fun w => (w.y[o % 20480 / 4]?).map (fun y => byteOf (ofS 32 y) (o % 4)))
  | some 4 => (itemSpot (a - 0x80000000) (storeItems s)).map (fun e => e.1.2.2.2.bytes.getD e.2 0)
  | _ => none

/-- Byte i of a read: the device-owned area holds the device's own images, in a form that no rule states, so its bytes are free until SERVICE has written them; an address that no unit uses keeps what was written. -/
def viewByte (s : State) (i a : Nat) : Byte :=
  if hbmArea a = some 1 then
    let v := tget 0 a s.mem.owned
    if v = 0 then (Config.freeValue (s.free + i)).truncate 8 else BitVec.ofNat 8 (v - 1)
  else (unitByte s a).getD (hbmRead s a)

/-- Replace sample q of a group, counted over its planes. -/
def setSample (b : Byte) (k q : Nat) (g : Group) : Group :=
  let nc := (g.codes.headD []).length
  { g with codes := nmod [] g.codes (q / nc) (fun row => nmod 0 row (q % nc) (fun v => withByte v k b)) }

/-- A byte written into the stack: where a unit holds data, into that data. -/
def pokeByte (a : Nat) (b : Byte) (s : State) : State :=
  if hbmArea a = some 1 then { s with mem.owned := tset 0 a (b.toNat + 1) s.mem.owned }
  else if (unitByte s a).isNone then hbmWrite a [b] s
  else
    match hbmArea a with
    | some 2 =>
      let o := a - 0x8000000
      modStream (o / 83886080) (fillStaged (fun _ => setSample b (o % 2)) (setSample b (o % 2)) (o % 83886080 / 2)) s
    | some 3 =>
      let o := a - 0x30000000
      let put := fun (w : WinTpl) => { w with y := nmod 0 w.y (o % 20480 / 4) (fun y => toS 32 (withByte (ofS 32 y) (o % 4) b)) }
      { s with aln.store := (withIdx 0 s.aln.store).map (fun e => if e.1 = o / 20480 then put e.2 else e.2) }
    | _ =>
      match itemSpot (a - 0x80000000) (storeItems s) with
      | some (e, k) =>
        modStream e.1 (fun x => { x with store := x.store.map (fun g => if g.ord = e.2.1 then
          { g with items := nmod e.2.2.2 g.items e.2.2.1 (fun i => { i with bytes := nmod 0 i.bytes k (fun _ => b) }) } else g) }) s
      | none => s

/-- A double-bit error in the bolt staging: the group takes the fill codes of its repeat's bank. -/
def stagingLost (o : Nat) (s : State) : State :=
  let n := o / 83886080
  let x := streamOf s n
  let openBank := bankOf s x.rid
  let rowBank := fun (r : PlaneRow) => bankOf s (((s.datum.list.find? (fun d => d.repeatNo == r.repeatNo && d.gen == r.gen)).map Datum.id).getD 0)
  let fill := fun (b : Bank) (o : Nat) (g : Group) => fillGroup s b (tget {} n b.streams) (field g.header 0x0C 4) o g
  modStream n (fillStaged (fun r => fill (rowBank r)) (fill openBank) (o % 83886080 / 2)) s

/-- HBM_ERROR (R195, R524, R525, R527). DESIGN CHOICE (log 84): the stagger store holds its lines one after the other, oldest first, 20,480 bytes each (R30). -/
def hbmError (a : Nat) (double : Bool) (s : State) : State :=
  match hbmArea a with
  | none => s
  | some area =>
    if !double then
      corrected 0x0804 (hbmChannel a) (if area = 3 then { s with aln.stCorr := satInc 32 s.aln.stCorr } else s)
    else
      let s := hbmDouble a s
      match area with
      | 2 => stagingLost (a - 0x8000000) s
      | 3 =>
        match s.aln.store[(a - 0x30000000) / 20480]? with
        | some w => staggerLost w.port w.slot w.line s
        | none => s
      | 4 =>
        match itemAt s (a - 0x80000000) with
        | some (n, i) => loseItems 3 n [] [i] s
        | none => s
      | _ => s

/-- STAGGER_DBE (R195): the word's row lies in the stagger store. -/
def staggerDbe (p q k row : Nat) (s : State) : State := hbmDouble (0x30000000 + row % 327680 * 4096) (staggerLost p q k s)

/-- HBM_ROW_REMAP (R195, R527): the pages of an excluded row outside the ring store move onto pages taken from it. -/
def rowRemap (row : Nat) (s : State) : State :=
  if s.mem.excluded.contains row && decide (row * 4096 < 0x80000000) && !(s.mem.moved.contains row) then
    { s with mem.moved := s.mem.moved ++ [row], mem.remapped := s.mem.remapped + 1 }
  else s

/-- The scrub of one kind of memory: the SRAM stores every 10 s, the HBM system area every 60 s (R524). -/
def scrubPart (due : Bool) (mine : ScrubFinding → Bool) (act : ScrubFinding → State → State) (l : List ScrubFinding) (s : State) : State :=
  if due then (l.filter mine).foldl (fun s f => act f s) s else s

def scrubDue (period last now : Nat) : Bool := last == 0 || decide (last - 1 + period ≤ now)

/-- A finding of a scrub in an SRAM store (R525): a double-bit error has its outcome at the next use of the data. A shading record takes its replacement value at once, since every read of it is a use, and SHADE_DBE counts when a line is next corrected with it. -/
def scrubSram (f : ScrubFinding) (s : State) : State :=
  if !f.double then sramError f.store f.unit f.addr false s
  else
    let s := raise 0x0802 (sramUnit f.store f.unit f.addr) s
    let s := match f.store with
      | 1 => shadeBad f.unit f.addr { s with mem.latentShade := s.mem.latentShade ++ [(b2n (f.unit == 1), f.addr)] }
      | 2 => { s with mem.latentPoly := s.mem.latentPoly ++ [f.addr % 256] }
      | _ => s
    retireRow f.store f.unit f.addr s

/-- SCRUB (R524, R525): each finding in the shading, polynomial and code-table stores and in the HBM system area has the outcome of its store. -/
def scrub (l : List ScrubFinding) (s : State) : State :=
  let a := scrubDue 10000000000 s.mem.scrubAt s.now
  let b := scrubDue 60000000000 s.mem.scrubHbmAt s.now
  let s := { s with mem := { s.mem with scrubAt := if a then s.now + 1 else s.mem.scrubAt, scrubHbmAt := if b then s.now + 1 else s.mem.scrubHbmAt } }
  let s := scrubPart a (fun f => f.store == 1 || f.store == 2 || f.store == 4) scrubSram l s
  scrubPart b (fun f => f.store == 6 && hbmArea f.addr == some 1) (fun f => hbmError f.addr f.double) l s

end Sys2Proof.Machine
end

