-- ==== Sys2Proof/Machine/StreamOps.lean ====
section
/-! DEFINITION. Dispatch and coding of bolts, opening and closing of streams, and attaching the spool (chapters 8 and 9). -/

namespace Sys2Proof.Machine

/-! ### Bolts (R20, R260 to R263, R284) -/

/-- Bolts that wait for the four encoders of a COD (R20, R284). -/
def codWaits (s : State) (cod : Nat) : Nat := (s.dlv.coders.getD cod []).length - 4

/-- A bolt that one of the four encoders of its COD codes (R20). -/
def inEncoder (s : State) (n seq : Nat) : Bool := s.dlv.coders.any (fun q => (q.take 4).contains (n, seq))

/-- The header of bolt i of a plane-row (Table 8.2). -/
def boltHeadOf (n : Nat) (r : PlaneRow) (i : Nat) : BoltHead :=
  let nb := Nat.max 1 (boltColumns r.nc)
  let g0 := r.groups.headD { header := [], first := 0, lines := 0, tFirst := 0, tLast := 0, codes := [] }
  { slot := r.slots.getD (i / nb) 0, depth := r.depth, seq := (r.seq0 + i) % 2 ^ 32, first := lineNo g0.first, epoch := epochOf g0.first, lines := r.groups.length,
    width := boltWidth r.nc (i % nb), column := 512 * (i % nb), stream := n, repeatNo := r.repeatNo }

/-- Code bolt i of a plane-row; a DYNAMIC bolt under load takes the fallback table (R284). -/
def codeRowBolt (r : PlaneRow) (i : Nat) (fallback : Bool) : Coded :=
  let nb := Nat.max 1 (boltColumns r.nc)
  let rows := r.groups.map (fun g => boltLine r.nc (i % nb) (g.codes.getD (i / nb) []))
  let w := boltWidth r.nc (i % nb)
  if fallback then codeStatic r.depth w r.fallback r.fbTable rows
  else codeBolt r.coding r.depth w r.t4 r.tableId (fun _ => r.table) rows

/-- The counters of Table 8.12 for one bolt. -/
def countBolt (h : BoltHead) (c : Coded) (fallback : Bool) (cs : List Nat) : List Nat :=
  let raw := h.lines * h.width * 64 * sampleBytes h.depth
  let up := fun i n (v : List Nat) => nmod 0 v i (fun y => satInc 32 y n)
  let cs := up 0 1 (up 1 (b2n c.stored) (up 2 (b2n fallback) (up 3 (b2n (c.mode == 1 && decide (0 < c.maxErr))) cs)))
  nmod 0 (nmod 0 (nmod 0 cs 4 (fun m => Nat.max m c.maxErr)) 5 (fun v => wrapInc 64 v raw)) 6 (fun v => wrapInc 64 v c.payload.length)

/-- The same plane-row of a stream: BOLT_SEQ alone restarts where a stream opens anew (R263). -/
def sameWork (q r : PlaneRow) : Bool := q.seq0 == r.seq0 && q.repeatNo == r.repeatNo

/-- Put a coded bolt in its plane-row. -/
def finishBolt (n : Nat) (r : PlaneRow) (i : Nat) (fallback : Bool) (x : Stream) : Stream :=
  let h := boltHeadOf n r i
  let c := codeRowBolt r i fallback
  let r' := { r with flight := r.flight.filter (fun e => e.1 != i), coded := r.coded ++ [(i, boltBytes h c)] }
  { x with coding := countBolt h c fallback x.coding, work := x.work.map (fun w => match w with | .row q => if sameWork q r then .row r' else w | w => w) }

/-- The plane-row whose next bolt may be dispatched: its destination has taken it (R285). -/
def rowToSend (x : Stream) : Option PlaneRow :=
  x.work.findSome? (fun w => match w with
    | .row r => (match r.dest with | .live | .store => if r.sent < rowBoltCount r then some r else none | _ => none)
    | _ => none)

/-- BOLT_DISPATCH (R20, R284): the next bolt of the stream goes to its COD, or DLV packs it, once its destination holds the reservation (R285). A live bolt that no buffer can take waits, and stalls its stream where no descriptor is left (log 55). -/
def dispatchBolt (n : Nat) (s : State) : State :=
  let x := streamOf s n
  match rowToSend x with
  | none => s
  | some r =>
    let i := r.sent
    if r.dest = .live && (x.ringErr || !liveFits x (boltReserve r i)) then (if liveFull x then closeDone n (stallStream n s) else s) else
    let s := touchHbm s
    let cod := i % Nat.max 1 (boltColumns r.nc) % 2
    let fb := r.coding == 3 && decide (8 < codWaits s cod)
    let put := fun (q : PlaneRow) (x : Stream) => { x with work := x.work.map (fun w => match w with | .row p => if sameWork p r then .row q else w | w => w) }
    if r.coding = 0 then
      let r' := { r with sent := i + 1 }
      closeDone n (release n (modStream n (fun x => finishBolt n r' i false (put r' x)) s))
    else
      { modStream n (put { r with sent := i + 1, flight := r.flight ++ [(i, fb)] }) s with dlv.coders := nmod [] s.dlv.coders cod (fun q => q ++ [(n, (r.seq0 + i) % 2 ^ 32)]) }

/-- BOLT_CODED (R20): an encoder finishes and takes the next bolt that waits; what is ready leaves in BOLT_SEQ order. A bolt of a plane-row dropped since leaves nothing. -/
def boltCoded (n seq : Nat) (s : State) : State :=
  if !inEncoder s n seq then s else
  let x := streamOf s n
  let s := { s with dlv.coders := s.dlv.coders.map (fun q => q.erase (n, seq)) }
  let hit := x.work.findSome? (fun w => match w with
    | .row r => (r.flight.find? (fun e => (r.seq0 + e.1) % 2 ^ 32 == seq)).map (fun e => (r, e))
    | _ => none)
  match hit with
  | none => s
  | some (r, i, fb) => closeDone n (release n (modStream n (finishBolt n r i fb) s))

/-- A plane-row or staged line of a repeat whose bank is not the live one is not coded yet (R59). -/
def oldStreamsBusy (s : State) : Bool :=
  s.dlv.streams.any (fun x =>
    x.work.any (fun w => match w with
      | .row r => r.gen != s.banks.gen && decide (r.coded.length + r.out < rowBoltCount r)
      | _ => false) ||
    (!(x.row.isEmpty && x.accLines.isEmpty) && (match datumById s x.rid with | some d => d.gen != s.banks.gen | none => false)))

/-! ### Admission of STREAM_OPEN (R31, R283) -/

/-- Stream columns: the bins of every enabled region of the mask (log 24). -/
def streamColumns (b : Bank) (fmt : StreamFmt) (ws : Nat) : Nat := sumN ((regionsOf b fmt).map (fun e => regionBins e.2 ws))

/-- Bytes of bolt staging that a stream's format takes (R31). -/
def stagingBytes (b : Bank) (ws : Nat) (fmt : StreamFmt) : Nat := streamColumns b fmt ws * popCount 4 fmt.planes * fmt.boltH * 4

/-- Columns of the bolt columns that go to a COD, padding included. -/
def codColumns (nc cod : Nat) : Nat := sumN (((List.range (boltColumns nc)).filter (fun b => b % 2 == cod)).map (fun b => 64 * boltWidth nc b))

/-- A stream's load on a COD in units of 1 ÷ (960 × 10^9): 240 ÷ rate and 4 ÷ B_Y are whole. -/
def codLoad (b : Bank) (ws cod : Nat) (fmt : StreamFmt) : Nat :=
  let rate := if fmt.coding = 1 then 5 else 6
  if fmt.coding = 0 then 0 else 120000 * codColumns (streamColumns b fmt ws) cod * popCount 4 fmt.planes * (4 / binYOf b fmt) * rate

/-- The open streams of a bank with stream n at a format. -/
def formatsWith (b : Bank) (n : Nat) (fmt : StreamFmt) : List StreamFmt :=
  fmt :: ((List.range 8).filter (· != n)).map (fun m => tget {} m b.streams) |>.filter StreamFmt.opened

/-- The table code of what a format would exceed in the staged bank, if anything. -/
def formatRefused (s : State) (n : Nat) (fmt : StreamFmt) : Option Nat :=
  let b := s.banks.staged
  let ws := stitchedWidth (gridOf s b)
  let fs := formatsWith b n fmt
  if 640 * 2 ^ 20 < sumN (fs.map (stagingBytes b ws)) then some 7
  else if [0, 1].any (fun cod => decide (98 * 9600000000 < sumN (fs.map (codLoad b ws cod)))) then some 9
  else none

/-- Port-plane-lines of the stagger store that the enabled lead-row ports need (R30). -/
def staggerLines (s : State) (base : Tbl BaseRec) : Nat :=
  sumN ((enabledPorts s).map (fun p =>
    let c := (portOf s p).cfg
    let g := (tget {} p base).stagger
    if c.row = 1 && 0 < g then (slotsOf c).length * (g + 1) else 0))

/-- The tables of Table 10.13 that settings other than a table's own can fill, and that the staged bank exceeds: stagger store, bolt staging, coder load (R30, R31, R283). -/
def overTables (s : State) : List Nat :=
  let b := s.banks.staged
  let ws := stitchedWidth (gridOf s b)
  let fs := ((List.range 8).map (fun m => tget {} m b.streams)).filter StreamFmt.opened
  (if 65536 < staggerLines s b.base then [6] else []) ++
  (if 640 * 2 ^ 20 < sumN (fs.map (stagingBytes b ws)) then [7] else []) ++
  (if [0, 1].any (fun cod => decide (98 * 9600000000 < sumN (fs.map (codLoad b ws cod)))) then [9] else [])

/-- The table that a request's change takes past its capacity, if any (R347). -/
def takenPast (s s' : State) : Option Nat := (overTables s').find? (fun c => !((overTables s).contains c))

/-! ### Closing (R73, R301) -/

/-- Take a stream out of every bank held. -/
def dropFormat (n : Nat) (b : Bank) : Bank := { b with streams := tmod {} n (fun f => { f with opened := false, fresh := false }) b.streams }

/-- STREAM_CLOSE: what is staged closes short, its last bolts flush, and the stream closes. A STREAM_OPEN that waits to open it has failed (log 97). -/
def beginClose (n : Nat) (s : State) : State :=
  let s := if s.host.outstanding.any (ofOpRes 0x0801 n) then completeAll (ofOpRes 0x0801 n) jobFailed ((Config.freeValue s.free).toNat % 2 ^ 16) { s with free := s.free + 1 } else s
  let s := closeStream n s
  let s := modStream n (fun x => { x with closing := true, lastDue := x.flow != 0, opening := none }) s
  closeDone n { s with banks.live := dropFormat n s.banks.live, banks.staged := dropFormat n s.banks.staged, banks.old := s.banks.old.map (dropFormat n) }

/-! ### The spool at ATTACH and FORMAT (R317, R323) -/

/-- An item as its bytes spell it, with the line-header block that its plane-row began with. -/
def parseItem (head : Option Item) (b : List Byte) : Item :=
  let tag := field b 0 2
  if tag = 0xDA70 then
    let k := field b 8 4 + 2 ^ 32 * field b 0x0C 2
    { bytes := b, repeatNo := field b 4 4, first := k, seq := match head with | some h => (h.rowSeq + h.rowBolts) % 2 ^ 32 | none => 0 }
  else if tag = 0x6A70 then
    { bytes := b, repeatNo := field b 0x10 4, first := field b 4 4 + 2 ^ 32 * field b 8 2, span := field b 0x0C 4, seq := (field b 0x18 4 + field b 0x1C 4) % 2 ^ 32,
      rowSeq := field b 0x18 4, rowBolts := field b 0x1C 4 }
  else if tag = 0x11E0 then
    let n := field b 2 1 * 2 ^ bits (field b 0x2F 1) 4 2
    { bytes := b, lines := n, repeatNo := field b 0x0C 4, first := field b 0x10 4 + 2 ^ 32 * field b 0x14 2, span := n, seq := field b 4 4, rowSeq := field b 4 4, rowBolts := field b 8 2 }
  else
    let seq := field b 4 4
    match head with
    | some h => { bytes := b, bolts := 1, repeatNo := h.repeatNo, first := h.first, span := h.span, seq := seq, rowSeq := h.rowSeq, rowBolts := h.rowBolts,
                  last := (h.rowSeq + h.rowBolts) % 2 ^ 32 == (seq + 1) % 2 ^ 32, counted := true }
    | none => { bytes := b, bolts := 1, repeatNo := field b 0x20 4, first := field b 8 4 + 2 ^ 32 * field b 0x0C 2, seq := seq, rowSeq := seq, rowBolts := 2 ^ 32, counted := true }

def parseItems : Option Item → List (List Byte) → List Item
  | _, [] => []
  | head, b :: r => let i := parseItem head b; i :: parseItems (if i.isHeaders then some i else head) r

/-- The segments that ATTACH finds with good headers (R323), each where its LSEQ places it (R319). -/
def foundSegs (slots : List Nat) (f : Attach) : List SpoolSeg :=
  let good := (f.segments.filter FoundSegment.ok).foldl (fun l g => insertBy (fun (h : FoundSegment) => seqKey f.lseqNext h.lseq) g l) ([] : List FoundSegment)
  good.filterMap (fun g => (locateIn f.epochs (fun d => slots.getD d 0) g.lseq).map (fun (at' : Nat × Nat) =>
    { lseq := g.lseq, prev := 0, stream := g.stream % 8, archive := g.archive, epoch := ((epochIn f.epochs g.lseq).map SpoolEpoch.number).getD 0, drive := at'.1, slot := at'.2,
      items := parseItems none g.items, delivered := g.archive, stale := true }))

/-- The later of two log sequences. -/
def laterSeq (a b : Nat) : Nat := if seqFrom a b then b else a

/-- The last segment of a stream and kind in a log; 0 for none (Table 9.11). -/
def lastSeg (segs : List SpoolSeg) (n : Nat) (archive : Bool) : Nat :=
  match (segs.filter (fun g => g.stream == n && g.archive == archive)).map SpoolSeg.lseq with
  | [] => 0
  | l :: r => r.foldl laterSeq l

/-- The drives of DRIVES with a 4096-byte format enter service; the others leave it (R314). -/
def attachDrives (ds : List DriveInfo) (s : State) : State :=
  let links := 2 ^ s.spool.cfg.bifurcation
  { s with spool.drives := (withIdx 0 s.spool.drives).map (fun e =>
      let d := ds.getD e.1 {}
      if bit s.spool.cfg.drives e.1 && decide (e.1 < links) && decide (0 < d.slots) then
        { e.2 with state := 1, slots := Nat.min 2097152 d.slots, mdts := d.mdts, serial := d.serial, recent := [] }
      else { e.2 with state := 0 }) }

/-- Commands to a drive's admin queue, in order. -/
def adminCmds (d : Nat) (ops : List Nat) (s : State) : State := ops.foldl (fun s op => emit (.nvme d 0 op 0 0 []) s) s

/-- The links that SPOOL_CFG gives to drives. -/
def spoolLinks (s : State) : List Nat :=
  (List.range 8).filter (fun d => s.spool.cfg.enable == 1 && bit s.spool.cfg.drives d && decide (d < 2 ^ s.spool.cfg.bifurcation))

/-- The device looks at the drives of DRIVES (R314): Identify of the controller and Get Log Page, and four I/O queue pairs where it has none, completion queues first. It deletes those of a drive that leaves, submission queues first (log 88). -/
def probeDrives (s : State) : State :=
  let keep := spoolLinks s
  (List.range 8).foldl (fun s d =>
    let has := (s.spool.drives.getD d {}).queues
    let mark := fun (b : Bool) (s : State) => { s with spool.drives := nmod {} s.spool.drives d (fun v => { v with queues := b }) }
    if keep.contains d then mark true (adminCmds d ([6, 2] ++ if has then [] else [5, 1, 5, 1, 5, 1, 5, 1]) s)
    else if has then mark false (adminCmds d [0, 4, 0, 4, 0, 4, 0, 4] s)
    else s) s

/-- The two slot keys unwrapped under SPOOL_WRAP (R318), none where there is no wrapping key or it is another. -/
def openKeys (s : State) (wrapped : List Byte) : Option (List Byte × List Byte) :=
  (s.sec.spoolWrap.bind (fun w => keyUnwrap (leBytes 32 w) wrapped)).map (fun k => (slice k 0 32, slice k 32 32))

/-- Two fresh slot keys from the random source, wrapped (R318). -/
def drawKeys (s : State) : State :=
  let k1 := leBytes 32 (Config.random s.free).toNat
  let k2 := leBytes 32 (Config.random (s.free + 1)).toNat
  { s with free := s.free + 2, spool.keys := some (k1, k2), spool.wrapped := match s.sec.spoolWrap with | some w => keyWrap (leBytes 32 w) (k1 ++ k2) | none => [] }

/-- SPOOL_ATTACH_COMPLETE. -/
def attachComplete (f : Attach) (s : State) : State :=
  match s.host.outstanding.find? (ofOpcode 0x0804) with
  | none => s
  | some _ =>
    if s.spool.cfg.action = 1 then s
    else
      let before := drivesIn s
      let s := attachDrives f.drives s
      let s := (drivesIn s).foldl (fun s d => clearFault 0x0401 d s) s
      if s.spool.opened then
        complete (ofOpcode 0x0804) 0 0 0 (if drivesIn s = before then s else newEpoch s)
      else
        match if f.readable then openKeys s f.keys else none with
        | none => complete (ofOpcode 0x0804) jobFailed ((Config.freeValue s.free).toNat % 65536) 0 { s with free := s.free + 1 }
        | some keys =>
          let segs := foundSegs (f.drives.map DriveInfo.slots) f
          let next := (segs.map (fun g => wrapInc 64 g.lseq)).foldl laterSeq (f.lseqNext % 2 ^ 64)
          let s := { s with spool.opened := true, spool.spoolId := f.spoolId % 2 ^ 32, spool.lseq := next, spool.epochs := f.epochs,
                            spool.epoch := ((f.epochs.getLast?).map SpoolEpoch.number).getD 0, spool.segs := segs,
                            spool.writers := segs.foldl (fun t g => tset 0 (g.drive * 2 ^ 24 + g.slot) g.epoch t) [],
                            spool.index := segs.foldl (fun l g => indexSeg g l) [], spool.keys := some keys, spool.wrapped := f.keys,
                            dlv.streams := (withIdx 0 s.dlv.streams).map (fun (e : Nat × Stream) => { e.2 with prevLseq := lastSeg segs e.1 false, prevArch := lastSeg segs e.1 true }) }
          complete (ofOpcode 0x0804) 0 0 0 (if (curEpoch s).map SpoolEpoch.drives = some (drivesIn s) then s else newEpoch s)

/-- SPOOL_FORMAT_COMPLETE: the log is new; what the old one held is lost (log 25). -/
def formatComplete (ds : List DriveInfo) (s : State) : State :=
  match s.host.outstanding.find? (ofOpcode 0x0804) with
  | none => s
  | some _ =>
    if s.spool.cfg.action != 1 then s
    else
      let s := loseAll 3 (s.spool.segs.map SpoolSeg.lseq) s
      let s := attachDrives ds s
      let s := (drivesIn s).foldl (fun s d => clearFault 0x0401 d s) s
      let s := { s with spool.opened := true, spool.spoolId := (Config.random s.free).toNat % 2 ^ 32, free := s.free + 1,
                        spool.epochs := [], spool.epoch := 0, spool.writers := [], spool.lseq := 1, spool.segs := [], spool.index := [], spool.cmds := [],
                        dlv.streams := s.dlv.streams.map (fun x => { x with prevLseq := 0, prevArch := 0, store := x.store.map (fun g => { g with lseq := none }) }) }
      complete (ofOpcode 0x0804) 0 0 0 (newEpoch (drawKeys s))

/-- Where the per-repeat index says that a range begins (R325): the earliest segment with a repeat record in it, or the last one before it, from which the log is read on. -/
def replayFrom (s : State) (r : Replay) : Option Nat :=
  let mine := s.spool.index.filter (fun e => e.stream == r.src)
  let starts := fun (e : IndexEntry) => if r.range = 0 then e.repeatNo == r.first % 2 ^ 32 else atOrAfter48 e.first (r.first % 2 ^ 48)
  let within := fun (e : IndexEntry) => inRange r { bytes := [], repeatNo := e.repeatNo, first := e.first }
  let earliest := fun (l : List IndexEntry) => match l.map IndexEntry.lseq with | [] => none | a :: t => some (t.foldl (fun b c => if seqFrom c b then c else b) a)
  if r.range = 0 then earliest (mine.filter (fun e => starts e || within e))
  else
    match (mine.filter starts).getLast? with
    | some e => earliest (mine.filter (fun d => d.repeatNo == e.repeatNo && d.first == e.first))
    | none => none

/-- Begin a replay (R324, R325): the segments of the source stream with items in the range, in log order, from where the index says it begins; from the oldest one where the index no longer says. A segment of this run with a lower LSEQ, whose place is behind the record's, is in the range too: the record's own write was then made again. -/
def beginReplay (src dst range rate first last : Nat) (s : State) : State :=
  let r : Replay := { src := src, dst := dst, range := range, rate := rate, first := first, last := last, toRead := [], items := [], ready := false, missing := 0 }
  let from' := replayFrom s r
  let segs := s.spool.segs.filter (fun g => g.stream == src && (match from' with | some l => seqFrom l g.lseq || s.spool.segs.any (fun h => h.lseq == l && h.stale == g.stale && !g.stale && decide (h.ord ≤ g.ord)) | none => true) && g.items.any (inRange r))
  let segs := segs.foldl (fun l g => insertBy (fun (h : SpoolSeg) => seqKey s.spool.lseq h.lseq) g l) ([] : List SpoolSeg)
  replayRead { s with spool.replay := some { r with toRead := segs.map SpoolSeg.lseq } }

/-- SPOOL_REPLAY_COMPLETE (R325). -/
def replayComplete (s : State) : State :=
  match s.spool.replay with
  | some r => if r.ready && r.items.isEmpty then endReplay 0 s else s
  | none => s

/-! ### Status (R326) -/

/-- Lines and bytes held in the refuge (R313). -/
def heldItems (s : State) (x : Stream) : List Item :=
  x.fetched ++ x.spooled.flatMap (fun l => if x.fetchedOf = some l then [] else ((s.spool.segs.find? (fun g => g.lseq == l)).map SpoolSeg.items).getD [])
    ++ x.store.flatMap StoreSeg.items ++ (match x.buf with | some b => if b.kind = 1 then b.items else [] | none => [])

/-- The stream part of SPOOL_STAT. -/
def streamStat (s : State) (x : Stream) : List (Nat × Nat × Nat) :=
  let held := heldItems s x
  let hl := sumN (held.map Item.lines)
  let hb := itemsSize held
  let t := fun i => x.terms.getD i 0
  [(0x48, 8, t 0 + t 1 + hl + t 2), (0x50, 8, t 0), (0x58, 8, t 1), (0x60, 8, hl), (0x68, 8, t 2),
   (0x70, 8, t 3 + t 4 + hb + t 5), (0x78, 8, t 3), (0x80, 8, t 4), (0x88, 8, hb), (0x90, 8, t 5),
   (0x98, 8, heldStore x), (0xA0, 8, heldSpool s x), (0xA8, 4, x.stalls), (0xAC, 4, x.gaps), (0xB0, 4, x.rejects)]

def spoolStat (n : Nat) (s : State) : List Byte :=
  let occupied := (s.spool.segs.filter (fun g => !g.delivered && (drivesIn s).contains g.drive)).length
  layout 184 ([(0, 8, storeTotal s), (8, 4, slotsAll s), (0x0C, 4, slotsAll s - occupied), (0x10, 4, undelivered s), (0x14, 4, s.spool.epoch), (0x18, 8, s.spool.lseq),
    (0x20, 4, spillRate s), (0x24, 4, readRate s), (0x28, 4, s.spool.archSkipped)]
    ++ (List.range 8).map (fun d => (0x2C + d, 1, (s.spool.drives.getD d {}).state))
    ++ (List.range 8).map (fun d => (0x34 + 2 * d, 2, Nat.min 65535 (s.spool.drives.getD d {}).timeouts))
    ++ (if n < 8 then streamStat s (streamOf s n) else []))

end Sys2Proof.Machine
end

