-- ==== Sys2Proof/Machine/CodecOps.lean ====
section
/-! DEFINITION. Memory-to-memory codec jobs (R286 to R291). -/

namespace Sys2Proof.Machine

open Sys2Proof

/-- The parameters of a job as applied (Tables 8.9 and 11.6). -/
structure JobCfg where
  decompress : Bool
  coding  : Nat
  boltH   : Nat
  target  : Nat
  tableId : Nat
  depth   : Nat
  slot    : Nat
  /-- 0 LIVE, 1 HOST, 2 HBM. -/
  tables  : Nat
  /-- 0 HOST, 1 HBM, 2 SPOOL. -/
  srcKind : Nat
  dstKind : Nat
  epoch   : Nat
  columns : Nat
  lines   : Nat
  first   : Nat
  seq0    : Nat
  src     : Nat
  srcBytes : Nat
  dst     : Nat
  dstBytes : Nat
  tabAddr : Nat
deriving DecidableEq, Repr

/-- DEPTH and BOLT_H name codes; any other takes the default (R345). -/
def depthField (v d : Nat) : Nat := if v = 8 || v = 10 || v = 12 || v = 16 then v else d
def boltHField (v : Nat) : Nat := if v = 4 || v = 8 || v = 16 || v = 32 then v else 8

/-- TARGET in quarter bits: 2.00 to min(12.00, d) (Table 8.1). -/
def targetField (v d : Nat) : Nat := clampN v 8 (Nat.min 48 (4 * d))

def enumField (v n d : Nat) : Nat := if v < n then v else d

/-- The job that parameter bytes ask for. -/
def jobCfg (p : List Byte) : JobCfg :=
  let d := depthField (field p 5 1) 12
  { decompress := field p 0 1 == 1, coding := enumField (field p 1 1) 4 0, boltH := boltHField (field p 2 1), target := targetField (field p 3 1) d, tableId := field p 4 1,
    depth := d, slot := Nat.min 3 (field p 6 1), tables := enumField (field p 7 1) 3 0, srcKind := enumField (field p 8 1) 3 0, dstKind := enumField (field p 9 1) 2 0,
    epoch := field p 0x0A 2, columns := clampN (field p 0x0C 4) 1 163840, lines := clampN (field p 0x10 4) 1 (2 ^ 24), first := field p 0x14 4, seq0 := field p 0x18 4,
    src := field p 0x20 8, srcBytes := field p 0x28 8, dst := field p 0x30 8, dstBytes := field p 0x38 8, tabAddr := field p 0x40 8 }

/-- What a job makes: output, the guard that ends it (0 none), bolts done, input bytes used, largest MAXERR, failing bolt. -/
structure JobRun where
  output : List Byte := []
  guard  : Nat := 0
  bolts  : Nat := 0
  used   : Nat := 0
  maxErr : Nat := 0
  fail   : Nat := 0
deriving DecidableEq, Repr

/-- Rows of samples of a compression's input: c-byte words, low d bits. -/
def inputRows (c : JobCfg) (b : List Byte) : List (List Nat) :=
  let w := sampleBytes c.depth
  (List.range c.lines).map (fun j => (List.range c.columns).map (fun i => field b ((j * c.columns + i) * w) w % 2 ^ c.depth))

/-- Code the bolts of a compression in order, each after its reservation (R285, R289); what a bolt codes of the input is then used (R291). An entry is the first line of its plane-row, its rows, and its bolt column. -/
def compressBolts (c : JobCfg) (table : Nat → List Nat) : List (Nat × List (List Nat) × Nat) → JobRun → JobRun
  | [], r => r
  | (l0, rows, b) :: rest, r =>
    let w := boltWidth c.columns b
    if c.dstBytes < r.output.length + 48 + reservedPayload c.coding c.depth w c.target rows.length then { r with guard := 0x10, fail := r.bolts }
    else
      let k := c.first + l0
      let h : BoltHead := { slot := c.slot, depth := c.depth, seq := (c.seq0 + r.bolts) % 2 ^ 32, first := k % 2 ^ 32, epoch := (c.epoch + k / 2 ^ 32) % 2 ^ 16, lines := rows.length,
                            width := w, column := 512 * b, stream := 0xFF, repeatNo := 0 }
      let out := codeBolt c.coding c.depth w c.target c.tableId table (rows.map (boltLine c.columns b))
      compressBolts c table rest { r with output := r.output ++ boltBytes h out, bolts := r.bolts + 1, maxErr := Nat.max r.maxErr out.maxErr,
                                            used := r.used + rows.length * Nat.min 512 (c.columns - 512 * b) * sampleBytes c.depth }

/-- A compression job (R287). -/
def compress (c : JobCfg) (table : Nat → List Nat) (src : List Byte) : JobRun :=
  if c.coding = 2 && !tableValid (table c.tableId) then { guard := 0x0A }
  else
    let rows := inputRows c src
    let cuts := (List.range (ceilN c.lines c.boltH)).flatMap (fun j =>
      (List.range (boltColumns c.columns)).map (fun b => (j * c.boltH, (rows.drop (j * c.boltH)).take c.boltH, b)))
    compressBolts c table cuts {}

/-- A decompression job (R287, R290): bolts back to back until the input is used up; fuel is their number at most. -/
def decompress (dstBytes : Nat) (table : Nat → List Nat) : Nat → List Byte → JobRun → JobRun
  | 0, _, r => r
  | _, [], r => r
  | f + 1, b, r =>
    match decodeBolt table b (dstBytes - r.output.length) with
    | .error g => { r with guard := g, fail := r.bolts }
    | .ok (out, e, n) => decompress dstBytes table f (b.drop n) { r with output := r.output ++ out, bolts := r.bolts + 1, used := r.used + n, maxErr := Nat.max r.maxErr e }

/-- The bolts among the first n bytes of items, and the bytes still to be read: SRC_BYTES counts every item that is read (DEDUCED, log 86). -/
def takeItems : Nat → List Item → List Byte × Nat
  | 0, _ => ([], 0)
  | n, [] => ([], n)
  | n, i :: r =>
    let rest := takeItems (n - i.size) r
    (if i.isBolt then i.bytes.take n ++ rest.1 else rest.1, rest.2)

/-- The bolts of n bytes of segments; none where they run out or one of them is unreadable (R374). -/
def takeBolts : Nat → List SpoolSeg → Option (List Byte)
  | 0, _ => some []
  | _, [] => none
  | n, g :: r =>
    let b := takeItems n g.items
    if g.sealed then none else (takeBolts b.2 r).map (b.1 ++ ·)

/-- The bolts of a segment and of the segments of its stream and kind that follow, until n bytes of items are read (R368); none where they run out or a read fails. -/
def spoolSource (s : State) (lseq n : Nat) : Option (List Byte) :=
  match s.spool.segs.find? (fun g => g.lseq == lseq) with
  | none => none
  | some g0 =>
    let segs := s.spool.segs.filter (fun g => g.stream == g0.stream && g.archive == g0.archive && seqFrom lseq g.lseq)
    takeBolts n (segs.foldl (fun l g => insertBy (fun (h : SpoolSeg) => mdist 64 lseq h.lseq) g l) ([] : List SpoolSeg))

/-- The bytes of an area of kind 0 host, 1 HBM, 2 spool; the host's are the operand, those of HBM are read while the job runs (R337). -/
def readArea (was : List Host.Cell) (s : State) (kind addr n : Nat) (given : SourceData) : Option (List Byte) :=
  match kind with
  | 0 => if given.ok && hostUp s then some (slice given.bytes 0 n) else none
  | 1 => some (readLoad was addr n s)
  | _ => if given.ok then spoolSource s addr n else none

/-- Code lengths of every table ID for a job: 16 loadable tables of 9 bytes, or those of the live bank at job start (R286). -/
def jobTables (s : State) (j : Job) (c : JobCfg) : Option (Nat → List Nat) :=
  if c.tables = 0 then some (fun i => if i < 8 then builtinTable i else tableOf (tget (tableBytes (builtinTable (i % 8))) i j.codes))
  else (readArea j.area s (c.tables - 1) c.tabAddr 144 j.tabs).map (fun b i => if i < 8 then builtinTable i else tableOf (slice b (9 * (i - 8)) 9))

/-- What the job makes of its source and tables; a read that fails gives SOURCE. -/
def runJob (s : State) (j : Job) (c : JobCfg) : JobRun :=
  match readArea j.area s c.srcKind c.src c.srcBytes j.source, jobTables { s with free := s.free + c.srcBytes / 64 + 2 } j c with
  | some b, some t => if c.decompress then decompress c.dstBytes t (b.length / 48 + 1) b {} else compress c t b
  | _, _ => { guard := 0x11 }

def jobAt (s : State) (decompress : Bool) (state : Nat) : Option Job := s.dlv.jobs.find? (fun j => j.decompress == decompress && j.state == state)

def setJob (j : Job) (s : State) : State := { s with dlv.jobs := s.dlv.jobs.map (fun k => if k.id = j.id && decide (k.state < 2) then j else k) }

/-- A running job works through its source as the load area stands now (R337). -/
def workJob (j : Job) (s : State) : State :=
  let c := jobCfg j.params
  let r := runJob s j c
  let hbm := c.srcKind == 1 || c.dstKind == 1 || c.tables == 2
  setJob { j with state := 1, seen := s.hbm, result := r.guard, output := r.output, bolts := r.bolts, bytesIn := r.used, maxErr := r.maxErr, failBolt := r.fail }
    (if hbm then drewLoad (c.srcBytes + 256) s else s)

/-- CODEC_JOB_START (R288): the oldest queued job of a direction starts once none of it runs. -/
def startJob (dec : Bool) (source tables : SourceData) (s : State) : State :=
  if (jobAt s dec 1).isSome then s
  else
    match jobAt s dec 0 with
    | none => s
    | some j => workJob { j with source := source, tabs := tables, codes := s.banks.live.codes } s

/-- Bytes of a job go to its destination. -/
def jobWrite (c : JobCfg) (b : List Byte) (s : State) : State :=
  if b.isEmpty then s else if c.dstKind = 1 then hbmWrite c.dst b s else if hostUp s then emit (.hostWrite c.dst b) s else s

/-- What a job that fails has left in its destination is undefined (R289): free values. -/
def jobVoid (c : JobCfg) (n : Nat) (s : State) : State :=
  jobWrite c ((List.range n).map (fun i => (Config.freeValue (s.free + i)).truncate 8)) { s with free := s.free + n }

/-- How far a running job had come when something else ends it: the manual gives no time by which each bolt is done, so each figure is free up to what the whole run makes (R291, log 27). -/
def cutJob (s : State) (j : Job) : Job :=
  let v := fun (i x : Nat) => (Config.freeValue (s.free + i)).toNat % (x + 1)
  { j with bolts := v 0 j.bolts, bytesIn := v 1 j.bytesIn, maxErr := v 2 j.maxErr, failBolt := v 0 j.bolts }

/-- End a job as failed (R289); one that is cut short while it runs has done a part of it. -/
def failJob (guard : Nat) (j : Job) (s : State) : State :=
  let c := jobCfg j.params
  let cut := j.state = 1 && guard != j.result
  let j := if cut then cutJob s j else j
  let s := if cut then { s with free := s.free + 3 } else s
  let s := if j.state = 1 then jobVoid c j.output.length s else s
  let s := setJob { j with state := 3, guard := guard, bytesOut := 0, output := [] } s
  complete (fun p => p.src == j.src && p.seq == j.seq && p.opcode == 0x0702) jobFailed guard 0 s

/-- End a running job (R289). -/
def finishJob (j : Job) (s : State) : State :=
  if j.result != 0 then failJob j.result j s
  else
    let s := jobWrite (jobCfg j.params) j.output s
    let s := setJob { j with state := 2, bytesOut := j.output.length, output := [] } s
    complete (fun p => p.src == j.src && p.seq == j.seq && p.opcode == 0x0702) 0 0 0 s

/-- CODEC_JOB_COMPLETE (R289): where HBM has changed since the job started, it may have read the old or the new content (R337). -/
def completeJob (dec : Bool) (s : State) : State :=
  match jobAt s dec 1 with
  | none => s
  | some j =>
    if j.seen = s.hbm then finishJob j s
    else
      let s := workJob j s
      match jobAt s dec 1 with
      | none => s
      | some k => finishJob k s

/-- Entry to STANDBY, ACTIVATE or RESET ends every job (R288). -/
def failJobs (s : State) : State := (s.dlv.jobs.filter (fun j => decide (j.state < 2))).foldl (fun s j => failJob 0x12 j s) s

/-- The job form of CODEC_JOB_STAT: the progress of a running job is open (log 27). -/
def jobStat (s : State) (id : Nat) : List Byte :=
  match s.dlv.jobs.find? (fun j => j.id == id) with
  | none => layout 32 [(0, 1, 4)]
  | some j =>
    let v := fun (i x : Nat) => if j.state = 1 then (Config.freeValue (s.free + i)).toNat % (x + 1) else if j.state = 0 then 0 else x
    layout 32 [(0, 1, j.state), (1, 1, j.guard), (4, 4, v 0 j.bolts), (8, 8, v 1 j.bytesIn), (0x10, 8, if j.state = 1 then v 2 j.output.length else j.bytesOut),
               (0x18, 2, Nat.min 65535 (v 3 j.maxErr)), (0x1C, 4, if j.state = 3 then j.failBolt else 0)]

end Sys2Proof.Machine
end

