-- ==== Sys2Proof/Machine/MotMath.lean ====
section
/-! DEFINITION. Motion profiles in closed form and the voltage-mode drive (R420 to R428). -/

namespace Sys2Proof.Machine

/-- Position, speed and acceleration after part of a phase. -/
def segAt (p v : Frac) (g : Seg) (d : Frac) : Frac × Frac × Frac :=
  let d2 := d.sq
  (p.add ((v.mul d).add (((g.a.mul d2).half).add ((g.j.mul (d2.mul d)).div ⟨6, 1⟩))), v.add ((g.a.mul d).add ((g.j.mul d2).half)), g.a.add (g.j.mul d))

/-- Position, speed, acceleration and phase at elapsed time d; none once the phases have ended, with the position and speed there. -/
def walk : List Seg → Frac → Frac → Frac → (Frac × Frac × Frac) × Option Nat
  | [], p, v, _ => ((p, v, {}), none)
  | g :: r, p, v, d =>
    if d.lt g.dur then (segAt p v g d, some g.phase)
    else let (p', v', _) := segAt p v g g.dur; walk r p' v' (d.sub g.dur)

/-- Distance that phases cover from speed v. -/
def segsDist (gs : List Seg) (v : Frac) : Frac :=
  (gs.foldl (fun (acc : Frac × Frac) g => let (p', v', _) := segAt acc.1 acc.2 g g.dur; (p', v')) (({} : Frac), v)).1

/-- The phases of a change of speed from v0 with acceleration a0 to v1 with none, under a limit A; with J every change of acceleration takes place at J (R426). -/
def speedChange (v0 a0 v1 lim : Frac) (jerk : Option Frac) (phase : Nat) : List Seg :=
  match jerk with
  | none =>
    let d := v1.sub v0
    if d.isZero then [] else [{ dur := d.abs.div lim, a := lim.scale d.sgn, j := {}, phase := phase }]
  | some jk =>
    let vz := v0.add ((a0.mul a0.abs).div (jk.scale 2))
    let d := v1.sub vz
    let s : Int := if d.isZero then -a0.sgn else d.sgn
    let ap2 := (jk.mul ((v1.sub v0).scale s)).add (a0.sq.half)
    let ap := if d.isZero then ({} : Frac) else (ap2.sqrt).min lim
    let sa := a0.scale s
    let d1 := (ap.sub sa).abs.div jk
    let j1 := (jk.scale (ap.sub sa).sgn).scale s
    let d2 := ap.div jk
    let dv1 := ((ap.add sa).half.mul d1).scale s
    let dv2 := ((ap.half).mul d2).scale s
    let rest := ((v1.sub v0).sub (dv1.add dv2)).scale s
    let hold := if ap.isZero then ({} : Frac) else (rest.max {}).div ap
    [{ dur := d1, a := a0, j := j1, phase := phase }, { dur := hold, a := ap.scale s, j := {}, phase := phase },
     { dur := d2, a := ap.scale s, j := jk.scale (-s), phase := phase }].filter (fun g => !g.dur.isZero)

/-- The largest x of [lo, hi] with ok x, ok holding below it, to 2^−n of the interval. -/
def bisect (ok : Frac → Bool) : Nat → Frac → Frac → Frac
  | 0, lo, _ => lo
  | n + 1, lo, hi => let m := (lo.add hi).half; if ok m then bisect ok n m hi else bisect ok n lo m

/-- A motion forward over distance d ≥ 0 from speed v ≥ 0 and acceleration a, when the stop at dec fits in d (R426): peak, cruise and stop. -/
def forwardPlan (v a d : Frac) (vmax acc dec : Frac) (jerk : Option Frac) : List Seg :=
  let up := fun (w : Frac) => speedChange v a w (if v.le w then acc else dec) jerk (if v.le w then 0 else 2)
  let down := fun (w : Frac) => speedChange w {} {} dec jerk 2
  let dist := fun (w : Frac) => (segsDist (up w) v).add (segsDist (down w) w)
  let peak :=
    if (dist vmax).le d then vmax
    else match jerk with
      | none => (((d.scale 2).add (v.sq.div acc)).div (((Frac.ofInt 1).div acc).add ((Frac.ofInt 1).div dec))).sqrt
      | some _ => bisect (fun w => (dist w).le d) 96 {} vmax
  let left := d.sub (dist peak)
  up peak ++ (if peak.isZero || !(Frac.lt {} left) then [] else [{ dur := left.div peak, a := {}, j := {}, phase := 1 }]) ++ down peak

/-- The deceleration that stops from v and a within d (R428); none where the jerk allows no stop so short. -/
def stopWithin (v a d dec : Frac) (jerk : Option Frac) : Option Frac :=
  match jerk with
  | none => if d.isZero then none else some (v.sq.div (d.scale 2))
  | some jk =>
    let top := ((jk.mul v).add (a.sq.half)).sqrt.max dec
    if d.lt (segsDist (speedChange v a {} top jerk 2) v) then none
    else some (top.sub (bisect (fun w => (segsDist (speedChange v a {} (top.sub w) jerk 2) v).le d) 96 {} (top.sub dec)))

/-- Mirror phases for the reverse direction. -/
def mirror (s : Int) (gs : List Seg) : List Seg := gs.map (fun g => { g with a := g.a.scale s, j := g.j.scale s })

/-- The phases of a move from (p, v, a) to a target (R426, R428), with the ACCEL of their acceleration phases: acc for one in progress, that of the motion set for a leg that starts anew from rest. -/
def planMove (p v a : Frac) (target : Int) (m : MotionSet) (acc : Nat) (jerkOn : Bool) : List Seg × Nat :=
  let jerk := if jerkOn then some (Frac.ofInt (m.jerk : Int)) else none
  let vmax := Frac.ofInt (m.vmax : Int)
  let ac := Frac.ofInt (acc : Int)
  let de := Frac.ofInt (m.decel : Int)
  let goal := Frac.ofInt target
  let rel := goal.sub p
  let s : Int := if !v.isZero then v.sgn else if !a.isZero then a.sgn else if rel.isZero then 1 else rel.sgn
  let vf := v.scale s
  let af := a.scale s
  let df := rel.scale s
  let stop := speedChange vf af {} de jerk 2
  let fresh := fun (from' : Frac) =>
    let r := goal.sub from'
    mirror r.sgn (forwardPlan {} {} r.abs vmax (Frac.ofInt (m.accel : Int)) de jerk)
  if (segsDist stop vf).le df then (mirror s (forwardPlan vf af df vmax ac de jerk), acc)
  else if df.lt {} then (mirror s stop ++ fresh (p.add ((segsDist stop vf).scale s)), m.accel)
  else
    match stopWithin vf af df de jerk with
    | some w => (mirror s (speedChange vf af {} w jerk 2), acc)
    | none =>
      let top := match jerk with | some jk => ((jk.mul vf).add (af.sq.half)).sqrt.max de | none => de
      let st := speedChange vf af {} top jerk 2
      (mirror s st ++ fresh (p.add ((segsDist st vf).scale s)), m.accel)

/-- The phases of a profile stop (R429). -/
def planStop (v a : Frac) (m : MotionSet) (jerkOn : Bool) : List Seg :=
  let s : Int := if !v.isZero then v.sgn else a.sgn
  mirror s (speedChange (v.scale s) (a.scale s) {} (Frac.ofInt (m.decel : Int)) (if jerkOn then some (Frac.ofInt (m.jerk : Int)) else none) 2)

/-- d(v) of R426. -/
def rampDist (v acc : Frac) (jerk : Option Frac) : Frac := segsDist (speedChange {} {} v acc jerk 0) {}

/-- S31.32 as a fraction. -/
def ofPos (x : Int) : Frac := Frac.mk' x (2 ^ 32)

/-- Where a motion stands at instant t: position, speed, acceleration, phase (none once it has ended). -/
def motionAt (m : Motion) (t : Nat) : (Frac × Frac × Frac) × Option Nat :=
  let (x, ph) := walk m.segs m.p0 m.v0 (Frac.mk' ((t - m.t0 : Nat) : Int) 1000000000)
  match ph, m.target with
  | none, some g => ((Frac.ofInt g, {}, {}), none)
  | none, none => ((x.1, {}, {}), none)
  | _, _ => (x, ph)

/-- A position on the S31.32 grid: where it lies between two neighbours, up says which (R425, log 13). -/
def toGrid (p : Frac) (up : Bool) : Int :=
  let x := p.scale (2 ^ 32)
  if x.den = 1 then x.num else x.floor + (if up then 1 else 0)

/-- Commanded position in microsteps, nearest with ties toward plus infinity (R425). -/
def microsteps (pos : Int) : Int := sarRound pos 32

/-! ### Voltage-mode drive (R420 to R422) -/

def milli (n : Nat) : F32 := f32OfRat (n : Int) 1000
def micro (n : Nat) : F32 := f32OfRat (n : Int) 1000000

/-- 2π in binary32. -/
def twoPi : F32 := 0x40C90FDB

/-- V_A and V_B of R421 at commanded position p (S31.32) and speed v with current amplitude mA. -/
def coilVoltages (c : AxisCfg) (p : Int) (v : Frac) (ma : Nat) : F32 × F32 :=
  let ang := (p % (2 ^ 42 : Int)).toNat
  let vf := v.toF32
  let i := milli ma
  let we := f32Mul (f32Mul twoPi vf) 0x3A800000
  let e := f32Mul (f32Mul (micro c.ke) vf) 0x3B800000
  let x := f32Add (f32Mul (f32Mul we (micro c.ind)) i) e
  let ri := f32Mul (milli c.res) i
  let cs := f32OfRat (turnCosSin ang).1 (2 ^ 200)
  let sn := f32OfRat (turnCosSin ang).2 (2 ^ 200)
  let va := f32Sub (f32Mul ri cs) (f32Mul x sn)
  let vb := f32Add (f32Mul ri sn) (f32Mul x cs)
  (va, if c.invert = 1 then f32Flip vb else vb)

/-- The duty code of a coil with its sign in bit 15 (R422), and whether it is saturated. A supply of 0 gives the largest duty. -/
def dutyOf (v : F32) (vm : Int) : Nat × Bool :=
  let (m, e) := f32Parts v
  let n := 4095 * m.natAbs * 65536 * 2 ^ (e + 149).toNat
  let c := if vm ≤ 0 then (if m = 0 then 0 else 4095) else Nat.min (roundUpDiv (n : Int) (vm * (2 ^ 149 : Int))).toNat 4095
  (c + (if m < 0 then 32768 else 0), c == 4095)

end Sys2Proof.Machine
end

