-- ==== Sys2Proof/Machine/MotOps.lean ====
section
/-! DEFINITION. Axes: stops, switches, homing, profile ticks, and the stop cycle of the proof transport (chapter 13). -/

namespace Sys2Proof.Machine

def axisOf (s : State) (n : Nat) : Axis := s.mot.axes.getD n {}

/-- A switch is active: its input is at the level that SWITCH_POL names (Table 13.1, R431). -/
def Axis.active (a : Axis) (sw : Nat) : Bool := (a.switches.getD sw {}).high == bit a.cfg.pol sw

def modAxis (n : Nat) (f : Axis → Axis) (s : State) : State := { s with mot.axes := nmod {} s.mot.axes n f }

/-- What the bridge outputs must carry in the axis's state (Table 13.2); AXIS_CFG with ENABLE 1 raises them after a stop too (R419). -/
def wantDrive (s : State) (a : Axis) : BridgeDrive :=
  if a.cfg.enable != 1 || a.state == 0 || s.sys.mode == .reset || s.sys.mode == .boot || s.sys.mode == .recovery then .low
  else if a.state = 4 && !a.raised then (if a.cfg.stopMode = 1 then .low else .brake)
  else .pwm

def setDrive (n : Nat) (d : BridgeDrive) (s : State) : State := modAxis n (fun a => { a with drive := d }) (emit (.bridge n (d != .low)) s)

/-- The outputs follow the axis states (R418, R419, R446); those of an axis that stops under Table 13.3 change at the next PWM period boundary (R429). -/
def bridgeStep (s : State) : State :=
  [0, 1, 2, 3].foldl (fun s n =>
    let a := axisOf s n
    let w := wantDrive s a
    if w = a.drive || (a.drive == .pwm && a.state == 4 && a.cfg.enable == 1) then s else setDrive n w s) s

/-- The disabled levels of RESET (R446). -/
def stopBridges (s : State) : State := [0, 1, 2, 3].foldl (fun s n => if (axisOf s n).drive == .low then s else setDrive n .low s) s

/-- EV_AXIS (Table 11.14). -/
def evAxis (kind sw n : Nat) (s : State) : State :=
  post 10 n (layout 16 [(0, 1, kind), (1, 1, sw), (4, 4, ofS 32 (microsteps (axisOf s n).pos))]) s

/-- EV_AXIS of kinds 7 and 8 with the last committed line (R441, R444). -/
def evAxisLine (kind n line : Nat) (s : State) : State :=
  post 10 n (layout 16 [(0, 1, kind), (4, 4, ofS 32 (microsteps (axisOf s n).pos)), (8, 4, lineNo line), (12, 2, epochOf line)]) s

/-- The axis that paces capture now, with its source (R416, R436). -/
def pacedAxis (s : State) : Option Nat :=
  if s.sys.mode = .proof && s.proof.proofAxis < 4 then some s.proof.proofAxis
  else if s.sys.mode = .bench && s.proof.benchAxis < 4 then some s.proof.benchAxis
  else none

/-- Outstanding AXIS_MOVE and AXIS_HOME of an axis end. -/
def axisDone (n status detail : Nat) (s : State) : State :=
  completeAll (fun p => (p.opcode == 0x0A02 || p.opcode == 0x0A03) && p.res == n) status detail s

/-- AXIS_STOP PROFILE commands that waited for axis n to rest (R371). -/
def stopDone (n : Nat) (s : State) : State :=
  let l := s.mot.stops.map (fun e => (e.1, setBit e.2 n false))
  let s := { s with mot.stops := l.filter (fun e => e.2 != 0) }
  (l.filter (fun e => e.2 == 0)).foldl (fun s e => complete (fun q => q.src * 2 ^ 32 + q.seq == e.1) 0 0 0 s) s

/-- AXIS_STOP commands of axis n are superseded (R371). -/
def stopsSuperseded (n : Nat) (s : State) : State :=
  let hit := s.mot.stops.filter (fun e => bit e.2 n)
  let s := { s with mot.stops := s.mot.stops.filter (fun e => !(bit e.2 n)) }
  hit.foldl (fun s e => complete (fun q => q.src * 2 ^ 32 + q.seq == e.1) jobFailed 1 0 s) s

/-- The outputs take the STOP_MODE levels and the position is LOST (R429, R430). -/
def loseAxis (n : Nat) (s : State) : State :=
  let was := (axisOf s n).lost
  let s := modAxis n (fun a => { a with state := 4, raised := false, lost := true, motion := none, req := none, homing := none, vel := {}, dutyA := 0, dutyB := 0, satSince := 0, satPosted := false }) s
  if was then s else evAxis 4 0 n s

/-- A fault of a paced axis ends capture (R436, Table 1.3). -/
def endPaced (n : Nat) (s : State) : State :=
  if pacedAxis s = some n then { s with mot.cycle := none, tr.closed := true, tr.resumes := false } else s

/-- A fault stop (R429). -/
def faultStop (n : Nat) (s : State) : State :=
  if (axisOf s n).state = 0 || (axisOf s n).state = 4 then s
  else
    let paced := pacedAxis s == some n
    let s := loseAxis n (modAxis n (fun a => { a with faults := satInc 32 a.faults }) s)
    let s := raise 0x0601 n (evAxis 1 0 n s)
    let s := if paced then raise 0x0602 n s else s
    stopDone n (axisDone n jobFailed 0 (endPaced n s))

/-- The commanded position and its speed, acceleration and phase now. -/
def axisNow (s : State) (n : Nat) : (Frac × Frac × Frac) × Option Nat :=
  let a := axisOf s n
  match a.motion with
  | some m => motionAt m s.now
  | none => ((ofPos a.pos, {}, {}), none)

/-- The profile has a speed or acceleration other than 0, or is about to start. -/
def axisMoving (a : Axis) : Bool := a.motion.isSome || a.req.isSome

/-- The largest speed of an axis (R425). -/
def vmaxLimit (c : AxisCfg) : Nat := Nat.min (2 ^ 24) (128 * c.pwm * 1000)

/-- The axis at rest as a motion without phases. -/
def restOf (a : Axis) : Motion := { t0 := a.restAt, p0 := ofPos a.pos, v0 := {}, segs := [], target := none, accel := a.set.accel }

/-- Former motions back to the one in force at instant t. -/
def trimPast (t : Nat) : List Motion → List Motion
  | [] => []
  | m :: r => if m.t0 ≤ t then [m] else m :: trimPast t r

/-- What the axis does now goes to its past, of which 10 ms are kept: the longest DEBOUNCE. -/
def keepPast (now : Nat) (a : Axis) : List Motion := trimPast (now - 10000000) (a.motion.getD (restOf a) :: a.past)

/-- The commanded position at an instant within the longest DEBOUNCE (R431). -/
def placeAt (a : Axis) (t : Nat) : Frac :=
  match (a.motion.getD (restOf a) :: a.past).find? (fun m => decide (m.t0 ≤ t)) with
  | some m => (motionAt m t).1.1
  | none => ofPos a.pos

/-- Move the position count by a shift in S31.32, what the axis does and has done with it (R434). -/
def shiftAxis (shift : Int) (a : Axis) : Axis :=
  let move := fun (m : Motion) => { m with p0 := m.p0.add (ofPos shift) }
  { a with pos := a.pos + shift, motion := a.motion.map move, past := a.past.map move }

/-- Plan the request of axis n from this tick on (R428). -/
def planNow (n : Nat) (s : State) : State :=
  let a := axisOf s n
  match a.req with
  | none => s
  | some r =>
    let r := { r with set := { r.set with vmax := Nat.min r.set.vmax (vmaxLimit a.cfg) } }
    let ((p, v, ac), ph) := axisNow s n
    let jerk := a.cfg.profile == 1
    let acc := match a.motion, ph with | some m, some 0 => m.accel | _, _ => r.set.accel
    let plan := match r.target with
      | some g => planMove p v ac g r.set acc jerk
      | none => (planStop v ac r.set jerk, acc)
    modAxis n (fun a => { a with req := none, holding := false, past := keepPast s.now a,
                                 motion := some { t0 := s.now, p0 := p, v0 := v, segs := plan.1, target := r.target, accel := plan.2 } }) s

/-- Ask for a profile stop at the next plan (R429), with the motion's own DECEL. -/
def askStop (n : Nat) (s : State) : State :=
  let a := axisOf s n
  if axisMoving a then
    let set := match a.homing with | some h => { a.set with accel := h.accel, decel := h.accel, vmax := h.speed } | none => a.set
    modAxis n (fun a => { a with req := some { target := none, set := set } }) s
  else s

/-- Evaluate the profile at this tick (R425): the position goes to the S31.32 grid; a motion that has ended rests. -/
def evalAxis (n : Nat) (s : State) : Bool × State :=
  let a := axisOf s n
  match a.motion with
  | none => (false, s)
  | some m =>
    let ((p, v, _), ph) := motionAt m s.now
    let pos := toGrid p (Config.profileRound s.free)
    let s := { s with free := s.free + 1 }
    if ph.isNone then (true, modAxis n (fun a => { a with pos := pos, vel := {}, motion := none, past := keepPast s.now a, restAt := s.now, satSince := 0, satPosted := false }) s)
    else (false, modAxis n (fun a => { a with pos := pos, vel := v }) s)

/-- A search or leg of homing starts: a move far beyond MAX_TRAVEL (R434). -/
def homeLeg (n : Nat) (h : Homing) (dir : Int) (s : State) : State :=
  let a := axisOf s n
  let set := { a.set with vmax := h.speed, accel := h.accel, decel := h.accel }
  modAxis n (fun a => { a with homing := some { h with legFrom := a.pos }, req := some { target := some (microsteps a.pos + dir * 2 ^ 40), set := set } }) s

/-- HOME has held the inactive state long enough (R434 step 1). -/
def homeClear (s : State) (a : Axis) : Bool :=
  let w := a.switches.getD 0 {}
  !(a.active 0) && decide (w.since + (if a.cfg.debounce = 0 then 4000 else a.cfg.debounce * 400000) ≤ s.now)

/-- Homing at a tick (R434, R435); rest tells whether the axis has come to rest at this tick. -/
def homeTick (n : Nat) (rest : Bool) (s : State) : State :=
  let a := axisOf s n
  match a.homing with
  | none => s
  | some h =>
    let setPhase := fun (p : Nat) (s : State) => modAxis n (fun a => { a with homing := some { h with phase := p } }) s
    let finish := fun (ok : Bool) (s : State) =>
      let s := modAxis n (fun a => { a with homing := none, state := 1, lost := if ok then false else a.lost }) s
      if ok then
        let s := evAxis 3 0 n s
        axisDone n 0 0 (clearFault 0x0601 n (clearFault 0x0602 n (clearFault 0x0603 n s)))
      else axisDone n jobFailed 0 s
    match h.phase with
    | 0 => if homeClear s a then setPhase 1 (askStop n s) else s
    | 1 => if rest then homeLeg n { h with phase := 2 } h.dir s else s
    | 2 => if (h.maxTravel : Int) * 2 ^ 32 < ((a.pos - h.legFrom).natAbs : Int) then setPhase 5 (askStop n s) else s
    | 3 => if rest then homeLeg n { h with phase := 2, dir := -h.dir } (-h.dir) s else s
    | 4 => if rest then finish true s else s
    | _ => if rest then finish false s else s

/-! ### Switches (R431 to R435) -/

/-- An active end switch on the way of a motion in direction dir. -/
def limitAhead (a : Axis) (dir : Int) : Bool :=
  if 0 < dir then a.active 1 else if dir < 0 then a.active 2 else false

/-- An end-switch edge in the sample of the HOME edge: the HOME edge is ignored (R435). -/
def homeIgnored (n : Nat) (h : Homing) (s : State) : Homing × State :=
  if h.phase = 4 && h.edgeAt = s.now + 1 then
    let h' := { h with phase := 2, edgeAt := 0, shift := 0 }
    (h', modAxis n (fun a => { shiftAxis (-h.shift) a with homing := some h' }) s)
  else (h, s)

/-- A qualifying edge into the active state. -/
def activeEdge (n sw : Nat) (s : State) : State :=
  let a := axisOf s n
  match a.homing with
  | some h =>
    if sw = 0 then
      if h.phase != 2 then s
      else
        let tEdge := s.now - a.cfg.debounce * 100000
        let shift := h.offset * 2 ^ 32 - toGrid (placeAt a tEdge) (Config.profileRound s.free)
        askStop n (modAxis n (fun a => { shiftAxis shift a with homing := some { h with phase := 4, edgeAt := s.now + 1, shift := shift } }) { s with free := s.free + 1 })
    else
      let (h, s) := homeIgnored n h s
      let dirOf : Int := if sw = 1 then 1 else -1
      let orig := if h.reversed then -h.dir else h.dir
      let leaving := decide (h.phase ≤ 1)
      if !leaving && dirOf = h.dir && orig = dirOf && !h.reversed && decide (h.phase = 2) then
        askStop n (modAxis n (fun a => { a with homing := some { h with phase := 3, reversed := true } }) s)
      else if decide (h.phase ≤ 3) then faultStop n s
      else s
  | none =>
    if sw = 0 then s
    else
      let toward := if sw = 1 then decide (0 < a.vel.num) else decide (a.vel.num < 0)
      let s := evAxis 2 sw n s
      if toward then faultStop n s else s

/-- The debounced level of a switch's input changes (R431, R432); SWITCH_POL tells whether that is its active state. An input that changes in RESET changes its level only. -/
def switchEdge (n sw : Nat) (level : Bool) (s : State) : State :=
  let a := axisOf s n
  let w := a.switches.getD sw {}
  if level = w.high || 4 ≤ n || 3 ≤ sw then s
  else if s.sys.mode = .reset then modAxis n (fun a => { a with switches := a.switches.set sw { w with high := level } }) s
  else
    let active := level == bit a.cfg.pol sw
    let hold := if a.cfg.debounce = 0 then 4000 else a.cfg.debounce * 400000
    let held := decide (w.since + hold ≤ s.now)
    let ok := held || !(if active then w.waitA else w.waitI)
    let w' : Switch := { high := level, since := s.now, waitA := w.waitA || active, waitI := w.waitI || !active }
    let s := modAxis n (fun a => { a with switches := a.switches.set sw w' }) s
    if ok && active then activeEdge n sw s else s

/-! ### The proof transport (R437 to R445) -/

/-- A ratio that nothing has measured: free and above 0 (log 69). -/
def freeRatio (s : State) : Frac := Frac.mk' ((1 + (Config.freeValue s.free).toNat : Nat) : Int) 65536

/-- Where the transport stood when the axis passed a position: between two marks the corrected position is taken as moving evenly; before the oldest mark, that mark. -/
def markAt (p : Int) : List (Int × Int) → Option (Frac × Frac)
  | [] => none
  | [(q, x)] => some (Frac.ofInt q, Frac.ofInt x)
  | (q1, x1) :: (q0, x0) :: r =>
    if q0 ≤ p && p < q1 then some (Frac.ofInt p, (Frac.ofInt x0).add ((Frac.ofInt ((x1 - x0) * (p - q0))).div (Frac.ofInt (q1 - q0))))
    else markAt p ((q0, x0) :: r)

/-- Ticks per microstep of the proof transport (R442): with a physical source over the last 65 536 microsteps of forward travel, up to now. A scale of 0 and a source that has measured no forward travel give a free ratio. -/
def proofRatio (s : State) : Frac :=
  let p1 := microsteps (axisOf s s.proof.proofAxis).pos
  let x1 := correctedAt s.tr s.now
  if s.proof.proofSource = 4 && s.proof.proofScale != 0 then Frac.mk' (s.proof.proofScale : Int) 65536
  else
    match markAt (p1 - 65536) s.mot.marks with
    | some (p0, x0) =>
      let dp := (Frac.ofInt p1).sub p0
      let dx := (Frac.ofInt x1).sub x0
      if Frac.lt {} dp && Frac.lt {} dx then (dx.div dp).div (Frac.ofInt 65536) else freeRatio s
    | none => freeRatio s

/-- The cut of R440. A final cut brings no restart (Table 13.4). -/
def startCut (final : Bool) (s : State) : State :=
  let n := s.proof.proofAxis
  let c := nextTicketLine s
  let res := s.tr.nextK
  let pos := microsteps (axisOf s n).pos
  let x := correctedAt s.tr s.now
  let r := proofRatio s
  let ticks := fun (t : Int) => (Frac.mk' t 65536).div r
  let ahead := ((ticks ((lookAhead s : Int) * (s.tr.cfg.pitch : Int))).scale (2 ^ 32)).ceil
  let pRes := pos + (ticks (gridPos s.tr res - x)).ceil
  let cy : Cycle := { phase := .cut, last := c - 1, resume := res, pCut := (axisOf s n).pos, xCut := x, ratio := r, ahead := ahead, pRes := pRes, final := final }
  { s with free := s.free + 1, mot.cycle := some cy, tr.leadStop := some res, tr.stopAt := some c, tr.resumes := !final,
           sys.stopping := if final then some s.now else s.sys.stopping }

/-- The cycle in progress brings no restart, and a motion of the back-off or the re-approach makes a profile stop (Table 13.4). -/
def endCycle (s : State) : State :=
  match s.mot.cycle with
  | none => s
  | some c =>
    let turn := c.phase == .approach || c.phase == .backoff
    let c' := { c with final := true, phase := if turn then .decel else c.phase, pulses := [] }
    let n := s.proof.proofAxis
    let s := { s with mot.cycle := some c', tr.resumes := false, sys.stopping := some (s.sys.stopping.getD s.now) }
    if axisMoving (axisOf s n) then (if c'.phase == .decel then askStop n s else s)
    else if c'.phase == .cut then s
    else modAxis n (fun a => { a with state := if a.state = 5 then 1 else a.state }) s

/-- d_s of R442 in microsteps. -/
def settleDist (s : State) (cy : Cycle) (m : MotionSet) : Int :=
  let pitches := ((Frac.mk' (24 * (s.tr.cfg.pitch : Int)) 65536).div cy.ratio).ceil
  let time : Int := ((m.vmax * 5 + 999) / 1000 : Nat)
  if pitches < time then time else pitches

/-- B_T of R442. -/
def backoffTo (s : State) (cy : Cycle) (a : Axis) : Int :=
  let a := { a with set := { a.set with vmax := Nat.min a.set.vmax (vmaxLimit a.cfg) } }
  let jerk := if a.cfg.profile = 1 then some (Frac.ofInt (a.set.jerk : Int)) else none
  let da := (rampDist (Frac.ofInt (a.set.vmax : Int)) (Frac.ofInt (a.set.accel : Int)) jerk).ceil
  cy.pRes - (a.cfg.backlash : Int) - da - settleDist s cy a.set

def setCycle (f : Cycle → Cycle) (s : State) : State := { s with mot.cycle := s.mot.cycle.map f }

/-- A move with the motion set, planned at this tick. -/
def moveNow (n : Nat) (target : Option Int) (s : State) : State :=
  planNow n (modAxis n (fun a => { a with req := some { target := target, set := a.set }, target := target.getD a.target }) s)

/-- The stop cycle at a profile tick; rest tells whether the proof axis has come to rest at this tick (R441 to R443). -/
def cycleTick (rest : Bool) (s : State) : State :=
  let n := s.proof.proofAxis
  match s.mot.cycle with
  | none => s
  | some cy =>
    let a := axisOf s n
    let stopped := fun (s : State) =>
      let s := setCycle (fun c => { c with phase := .rest, told := true }) (if cy.told then s else evAxisLine 7 n cy.last s)
      if cy.final then stopDone n (modAxis n (fun a => { a with state := if a.state = 5 then 1 else a.state }) s) else s
    match cy.phase with
    | .cut =>
      if cy.pCut + cy.ahead ≤ a.pos || a.motion.isNone then
        let s := setCycle (fun c => { c with phase := .decel }) s
        if a.motion.isNone then stopped s else moveNow n none s
      else s
    | .decel => if rest then stopped s else s
    | .rest => if cy.final then s else setCycle (fun c => { c with phase := .backoff }) (moveNow n (some (satS 32 (backoffTo s cy a))) s)
    | .backoff => if rest then setCycle (fun c => { c with phase := .wait }) s else s
    | .wait => s
    | .approach =>
      if s.dlv.proofStop then setCycle (fun c => { c with phase := .decel }) (moveNow n none s) else s

/-- RE_APPROACH (R443). -/
def reApproach (s : State) : State :=
  match s.mot.cycle with
  | none => s
  | some cy =>
    if cy.phase != .wait || cy.final || s.dlv.proofStop || s.sys.mode != .proof || decide (s.now < (axisOf s s.proof.proofAxis).restAt + 25000) then s
    else
      let ps := (List.range 4).filterMap (fun i => if 4 - i ≤ cy.resume then some (cy.resume - (4 - i)) else none)
      setCycle (fun c => { c with phase := .approach, pulses := ps, steady := none }) (moveNow s.proof.proofAxis (some (2 ^ 31 - 1)) s)

/-- The steady-speed watch of R444: v̂ against the commanded speed converted through r. -/
def watchSpeed (s : State) : State :=
  match s.mot.cycle with
  | none => s
  | some cy =>
    if cy.phase != .approach then s
    else
      let cmd := ((axisNow s s.proof.proofAxis).1.2.1.mul cy.ratio).scale (2 ^ 40)
      let v := (Frac.ofInt s.tr.v).scale 1000000000
      let ok := Frac.lt {} cmd && ((v.sub cmd).abs.scale 200).le cmd
      setCycle (fun c => { c with steady := if ok then (match c.steady with | some x => some x | none => some s.tr.x) else none }) s

/-- The instant of the check of R444: Transit would freeze R_L now. -/
def restartDue (s : State) (cy : Cycle) : Bool :=
  match s.tr.regime with
  | .spec =>
    (match crossing { s.tr with nextK := cy.resume } cy.resume with
     | some tc => decide ((tc - (((bankOf s (ridAt s cy.resume 0 (gridPos s.tr cy.resume))).expo / 2 : Nat) : Int)).toNat ≤ s.now + leadTime s)
     | none => false)
  | _ => decide (gridPos s.tr cy.resume ≤ correctedAt s.tr s.now)

/-- RESTART_CHECK (R444). -/
def restartCheck (s : State) : State :=
  match s.mot.cycle with
  | none => s
  | some cy =>
    let n := s.proof.proofAxis
    if !(cy.phase == .approach && !cy.final && restartDue s cy) then s
    else
      let steady := match cy.steady with | some x => decide (16 * (s.tr.cfg.pitch : Int) ≤ s.tr.x - x) | none => false
      if s.tr.regime == .spec && steady then
        let s := { s with mot.cycle := none, tr.stopAt := none, tr.leadStop := none, tr.resumes := false, tr.nextK := cy.resume, tr.mark := cy.resume,
                          tr.rowN := cy.resume, tr.lineFrom := cy.last + 1 }
        freezeSpec (evAxisLine 8 n cy.last s)
      else if 1 ≤ cy.failures then faultStop n (raise 0x0603 n s)
      else setCycle (fun c => { c with phase := .decel, failures := c.failures + 1 }) (moveNow n none s)

/-- The start of the axis's first PWM period from now on, the first whose duty is computed from the present position (R421, R436). An axis that has had none starts one now. -/
def nextPwm (s : State) (a : Axis) : Nat :=
  let per := 1000000 / a.cfg.pwm
  if a.pwmAt = 0 then s.now else a.pwmAt - 1 + (s.now + 1 - a.pwmAt + per - 1) / per * per

/-- A report of the virtual encoder (R81, R436). DESIGN CHOICE (log 97): the first report after the mode is entered is kept as the reference for the next and makes no measurement. -/
def veReport (n : Nat) (s : State) : State :=
  let a := axisOf s n
  let paced := pacedAxis s == some n && transitSource s == 4
  if !paced || a.state = 0 || a.state = 4 then s
  else
    let p := microsteps a.pos
    match a.reported with
    | none => modAxis n (fun a => { a with reported := some p }) s
    | some q =>
      if p = q then s
      else
        let s := modAxis n (fun a => { a with reported := some p }) s
        let scale := if s.sys.mode = .proof then s.proof.proofScale else s.proof.benchScale
        measure { t := nextPwm s a + s.proof.lag * 1000, z := p * (scale : Int), span := 0, down := decide (q < p), edge := p } s

/-- The marks back to the first at or below a position. -/
def trimMarks (p : Int) : List (Int × Int) → List (Int × Int)
  | [] => []
  | (q, x) :: r => if q ≤ p then [(q, x)] else (q, x) :: trimMarks p r

/-- A mark at each tick that has moved forward by a microstep, kept over 65 536 (R442). -/
def markTravel (n : Nat) (s : State) : State :=
  if s.sys.mode != .proof || s.proof.proofAxis != n || s.mot.cycle.isSome then s
  else
    let p := microsteps (axisOf s n).pos
    let add := match s.mot.marks with | (q, _) :: _ => decide (q < p) | [] => true
    if add then { s with mot.marks := trimMarks (p - 65536) ((p, correctedAt s.tr s.now) :: s.mot.marks) } else s

/-- One axis at a profile tick. A move completes where the axis rests on its target (R427). -/
def axisTick (n : Nat) (s : State) : State :=
  let s := planNow n s
  let goal := (axisOf s n).motion.bind Motion.target
  let (rest, s) := evalAxis n s
  let a := axisOf s n
  let proofAx := s.sys.mode == .proof && s.proof.proofAxis == n
  let s := if a.homing.isSome then homeTick n rest s
    else if rest then
      let s := if goal = some a.target then axisDone n 0 0 s else s
      stopDone n (modAxis n (fun a => { a with state := if a.state = 2 then 1 else a.state }) s)
    else s
  let s := if proofAx then cycleTick rest s else s
  let s := if proofAx && rest && s.mot.cycle.isNone && s.mot.scan then { startCut true s with mot.scan := false } else s
  markTravel n (veReport n s)

/-- PROFILE_TICK (R425): every enabled axis, each 25 µs. -/
def profileTick (s : State) : State :=
  if s.now + 1 < s.mot.tickAt + 25000 && s.mot.tickAt != 0 then s
  else [0, 1, 2, 3].foldl (fun s n => if (axisOf s n).cfg.enable = 1 then axisTick n s else s) { s with mot.tickAt := s.now + 1 }

/-- The reset that ends ACTIVATE (R430, R446): every position is LOST, and the enabled axes hold from the end of BOOT. -/
def axesReset (s : State) : State :=
  [0, 1, 2, 3].foldl (fun s n => modAxis n (fun a =>
    { a with state := if a.cfg.enable = 1 then 1 else 0, lost := true, motion := none, req := none, homing := none, vel := {}, holding := true, dutyA := 0, dutyB := 0, satSince := 0, satPosted := false }) s) s

/-- Every moving axis makes a profile stop and its commands end (R446, R50). -/
def stopAllAxes (s : State) : State :=
  [0, 1, 2, 3].foldl (fun s n =>
    let a := axisOf s n
    if !axisMoving a then s
    else
      let s := axisDone n jobFailed 0 (askStop n s)
      modAxis n (fun a => { a with homing := none, state := if a.state = 3 then 2 else a.state }) s) s

/-- The proof axis leaves the device's control with a profile stop (R446). -/
def releaseProof (s : State) : State :=
  let n := s.proof.proofAxis
  if 4 ≤ n || (axisOf s n).state != 5 then { s with mot.cycle := none, mot.marks := [], mot.scan := false, tr.resumes := false }
  else
    let s := askStop n s
    let s := modAxis n (fun a => { a with state := if axisMoving a then 2 else 1 }) s
    { s with mot.cycle := none, mot.marks := [], mot.scan := false, tr.resumes := false }

/-- The device takes the proof axis at the entry to PROOF (R437). A homing in progress ends: its AXIS_HOME completes as failed and the axis makes a profile stop. -/
def takeProof (s : State) : State :=
  let n := s.proof.proofAxis
  if s.sys.mode = .proof && n < 4 then
    let s := if (axisOf s n).homing.isSome then axisDone n jobFailed 0 (askStop n s) else s
    modAxis n (fun a => { a with state := 5, reported := none, homing := none }) { s with mot.marks := [] }
  else if s.sys.mode = .bench && s.proof.benchAxis < 4 then modAxis s.proof.benchAxis (fun a => { a with reported := none }) s
  else s

/-- The scan starts with the session (R437). DESIGN CHOICE (log 97): it takes over the motion of an AXIS_MOVE or AXIS_STOP still outstanding on the axis, which completes as superseded. -/
def startScan (s : State) : State :=
  let n := s.proof.proofAxis
  if s.sys.mode = .proof && n < 4 then
    let s := stopsSuperseded n (axisDone n jobFailed 1 s)
    modAxis n (fun a => { a with target := 2 ^ 31 - 1, req := some { target := some (2 ^ 31 - 1), set := a.set } }) { s with mot.scan := true }
  else s

end Sys2Proof.Machine
end

