-- ==== Sys2Proof/Machine/TileLink.lean ====
section
/-! DEFINITION. The Greninavo Tile Link below its packets: 64b/66b blocks, the scrambler, block lock, rows, lane order, polarity and deskew, and the Manchester cells of the control lane (R125 to R129, R136). -/

namespace Sys2Proof.Machine

/-! ### Blocks and the scrambler (R125) -/

/-- Sync headers as values, the first-sent bit in bit 0. -/
def headControl : Nat := 1

/-- Of a data block. -/
def headData : Nat := 2

/-- A received payload as the descrambler gives it, by x^58 + x^39 + 1: every bit plus the bits received 39 and 58 earlier. hist holds the last 58 bits received, the oldest in bit 0. -/
def descramble (hist pay : Nat) : Nat :=
  let s := hist + pay * 2 ^ 58
  pay ^^^ ((s >>> 19) % 2 ^ 64) ^^^ (s % 2 ^ 64)

/-- The last 58 bits received after a payload. -/
def histAfter (hist pay : Nat) : Nat := (hist + pay * 2 ^ 58) >>> 64

/-- The payload that a scrambler sends for data d after the bits of hist: the first 39 bits depend on hist alone, the others on them too. -/
def scramble (hist d : Nat) : Nat :=
  let low := (d ^^^ (hist >>> 19) ^^^ hist) % 2 ^ 39
  let s := hist + low * 2 ^ 58
  (d ^^^ (s >>> 19) ^^^ s) % 2 ^ 64

/-- A 66-bit block: the header's two bits first, then the payload. -/
def blockOf (head pay : Nat) : Nat := head + 4 * pay

/-! ### Block lock (R129) -/

/-- Bits set among the low n. -/
def ones (n x : Nat) : Nat := ((List.range n).filter (fun i => bit x i)).length

/-- One sync header: 64 consecutive valid ones give lock, 16 invalid ones within 64 lose it. -/
def headIn (b : BallRx) (head : Nat) : BallRx :=
  let valid := head == headControl || head == headData
  let bad := (2 * b.bad + if valid then 0 else 1) % 2 ^ 64
  let good := if valid then Nat.min (b.good + 1) 64 else 0
  if b.locked then { b with good := good, bad := bad, locked := valid || decide (ones 64 bad < 16) }
  else if good = 64 then { b with good := good, bad := 0, locked := true }
  else { b with good := good, bad := bad }

/-- One block at a ball: its header moves the lock, its payload is descrambled, and it waits for the other lanes unless the deskew skips it. -/
def ballIn (aligned : Bool) (b : BallRx) (raw : Nat) : BallRx :=
  let pay := raw / 4 % 2 ^ 64
  let b' := { headIn b (raw % 4) with hist := histAfter b.hist pay }
  if 0 < b.skip then { b' with skip := b.skip - 1 }
  else { b' with fifo := if aligned then b.fifo ++ [(raw % 4, descramble b.hist pay)] else [(raw % 4, descramble b.hist pay)] }

/-! ### Rows (R126, Table 4.3) -/

/-- A block of an inverted lane, put right: header and payload are complemented (R128). -/
def uninvert (b : Nat × Nat) : Nat × Nat := (3 - b.1, 2 ^ 64 - 1 - b.2)

/-- A control block of type IDLE. -/
def isIdle (b : Nat × Nat) : Bool := b.1 == headControl && b.2 % 256 == 0x1E

/-- LANE and ALIGN_NO of a valid ALIGN block. -/
def alignOf (b : Nat × Nat) : Option (Nat × Nat) :=
  if b.1 = headControl && b.2 % 256 = 0x4B && b.2 / 2 ^ 32 = 0x96F03CA5 then some (bits b.2 8 2, bits b.2 16 16) else none

/-- The payload of an ALIGN block. -/
def alignPayload (lane no : Nat) : Nat := 0x4B + 256 * lane + 65536 * no + 2 ^ 32 * 0x96F03CA5

/-- The kinds of row. -/
inductive RowKind where
  | idle
  | align (nos : List Nat)
  | words (ws : List (BitVec 64))
  | mixed
deriving DecidableEq, Repr

/-- The kind of a row of four blocks in the order of the lanes; a row that is none of the three kinds is a block error (R126). -/
def rowKind (row : List (Nat × Nat)) : RowKind :=
  if row.all isIdle then .idle
  else if row.all (fun b => (alignOf b).isSome) then .align (row.map (fun b => ((alignOf b).getD (0, 0)).2))
  else if row.all (fun b => b.1 == headData) then .words (row.map (fun b => BitVec.ofNat 64 b.2))
  else .mixed

/-! ### Lane order, polarity and deskew (R128, R129) -/

/-- What a ball's block says of its lane: lane number, ALIGN_NO and whether the lane is inverted. -/
def laneSeen (b : Nat × Nat) : Option (Nat × Nat × Bool) :=
  match alignOf b with
  | some (l, n) => some (l, n, false)
  | none => (alignOf (uninvert b)).map (fun e => (e.1, e.2, true))

/-- a − b of two ALIGN_NO values, as a signed distance modulo 2^16 (R10). -/
def alignDist (a b : Nat) : Int := if (a + 65536 - b) % 65536 < 32768 then (((a + 65536 - b) % 65536 : Nat) : Int) else (((a + 65536 - b) % 65536 : Nat) : Int) - 65536

/-- The largest of a list of whole numbers and 0. -/
def maxI (l : List Int) : Int := l.foldl (fun a b => if a < b then b else a) 0
/-- The smallest of a list of whole numbers and 0. -/
def minI (l : List Int) : Int := l.foldl (fun a b => if b < a then b else a) 0

/-- Ball that carries logical lane i (R364). -/
def ballOf (order i : Nat) : Nat := bits order (2 * i) 2

/-- What the newest blocks of the four balls show of the lanes: order, polarity by logical lane, ALIGN_NO distance of each ball from ball 0. None unless each is an ALIGN block, every lane is there once, and the skew lies within 32 blocks. -/
def findLanes (balls : List BallRx) : Option (Nat × Nat × List Int) :=
  let seen := balls.map (fun b => (b.fifo.getLast?).bind laneSeen)
  let at' := fun (b : Nat) => ((seen.getD b none).getD (0, 0, false))
  let find := fun (i : Nat) => (List.range 4).find? (fun b => (at' b).1 == i)
  if balls.length != 4 || seen.any Option.isNone || (List.range 4).any (fun i => (find i).isNone) then none
  else
    let d := (List.range 4).map (fun b => alignDist (at' b).2.1 (at' 0).2.1)
    if maxI d - minI d > 32 then none
    else
      let order := sumN ((List.range 4).map (fun i => (find i).getD 0 * 4 ^ i))
      let pol := sumN ((List.range 4).map (fun i => if (at' ((find i).getD 0)).2.2 then 2 ^ i else 0))
      some (order, pol, d)

/-- Start the deskew at the newest block of the lane that arrives first: every other ball skips the blocks before its block of that number. -/
def deskew (d : List Int) (balls : List BallRx) : List BallRx :=
  (List.range 4).map (fun i =>
    let b := balls.getD i {}
    let late := (maxI d - d.getD i 0).toNat
    if late = 0 then { b with fifo := b.fifo.drop (b.fifo.length - 1), skip := 0 } else { b with fifo := [], skip := late - 1 })

/-- SKEW of each logical lane in blocks: how much later than lane 0 it arrives (log 85). -/
def laneSkew (order : Nat) (d : List Int) : List Int := (List.range 4).map (fun i => d.getD (ballOf order 0) 0 - d.getD (ballOf order i) 0)

/-- The next row, once every ball has a block of it: the row in the order of the lanes with inverted lanes put right, and the balls without it. -/
def popRow (order pol : Nat) (balls : List BallRx) : Option (List (Nat × Nat) × List BallRx) :=
  if balls.any (fun b => b.fifo.isEmpty) then none
  else
    some ((List.range 4).map (fun i => let b := ((balls.getD (ballOf order i) {}).fifo.headD (0, 0)); if bit pol i then uninvert b else b),
          balls.map (fun b => { b with fifo := b.fifo.drop 1 }))

/-- The blocks of one period in which every ball carries an IDLE block. -/
def idleBlocks (order pol : Nat) (balls : List BallRx) : List Nat :=
  (List.range 4).map (fun b =>
    let inv := (List.range 4).any (fun i => ballOf order i == b && bit pol i)
    let h := (balls.getD b {}).hist
    if inv then blockOf headData (scramble h (2 ^ 64 - 1 - 0x1E)) else blockOf headControl (scramble h 0x1E))

/-! ### The control lane (R136) -/

/-- Bytes as the levels of half cells: each byte bit 0 first, a 1 as low then high, a 0 as high then low. -/
def manchester (bs : List Byte) : List Bool :=
  bs.flatMap (fun b => (List.range 8).flatMap (fun i => if bit b.toNat i then [false, true] else [true, false]))

/-- The bits of Manchester cells; none where a cell has no transition. -/
def cellBits : List Bool → Option (List Bool)
  | [] => some []
  | a :: b :: r => if a == b then none else (cellBits r).map (fun l => b :: l)
  | [_] => none

/-- Bits to bytes, bit 0 first; bits of an unfinished byte are dropped. -/
def bytesOfBits (n : Nat) (l : List Bool) : List Byte :=
  (List.range n).map (fun i => BitVec.ofNat 8 (sumN ((List.range 8).map (fun j => if l.getD (8 * i + j) false then 2 ^ j else 0))))

/-- The bytes from TYPE to CRC of a frame received, none without preamble and start delimiter. -/
def frameBytes (levels : List Bool) : Option (List Byte) :=
  match cellBits levels with
  | none => none
  | some l =>
    match bytesOfBits (l.length / 8) l with
    | a :: b :: r => if a = 0x55 && b = 0xD5 then some r else none
    | _ => none

end Sys2Proof.Machine
end

