-- ==== Sys2Proof/Machine/PortOps.lean ====
section
/-! DEFINITION. SYNC, the control lane, rows and packets, error events, training, retirement and readmission of the sensor ports (chapter 4). -/

namespace Sys2Proof.Machine

/-- A control-lane frame as its cells (R136, R137): preamble, delimiter, TYPE and fields, CRC-8. -/
def ctlFrame (body : List Byte) : List Bool := manchester ([0x55, 0xD5] ++ body ++ [BitVec.ofNat 8 (crc8 body)])

def expoFrame (tag : Nat) : List Bool := ctlFrame (leBytes 1 1 ++ leBytes 2 tag)
def readFrame (addr : Nat) : List Bool := ctlFrame (leBytes 1 2 ++ leBytes 2 addr)
def writeFrame (addr data : Nat) : List Bool := ctlFrame (leBytes 1 3 ++ leBytes 2 addr ++ leBytes 4 data)

/-- The oldest exposure of a port that still owes packets: slot index and slot (R134). -/
def oldestOwed (s : State) (p : Nat) : Option (Nat × Slot) :=
  ((List.range s.gate.length).zip s.gate).find? (fun e =>
    !(e.2.due.contains p) && e.2.tpls.any (fun t => t.port == p && !t.complete && !t.absent))

/-- Send an EXPO frame, of 48 bits at 20 ns: it follows one that is still being sent. -/
def sendExpo (p tag : Nat) (s : State) : State :=
  emit (.ctl p (expoFrame tag)) (modPort p (fun x => { x with expoEnd := Nat.max x.expoEnd s.now + 960 }) s)

/-! ### SYNC (R121 to R123) -/

/-- Drive the rising edge of a slot on a port and send its EXPO frame, or owe it while a transaction runs (R121, R123, R139). No edge is driven in a mode without capture (R122). -/
def syncRise (p : Nat) (s : State) : State :=
  match ((List.range s.gate.length).zip s.gate).find? (fun e => e.2.due.contains p) with
  | none => s
  | some (i, g) =>
    if !inService s p || !s.sys.mode.cap || s.now + tTileOf s p < g.ts then s
    else
      let s := { s with gate := s.gate.set i { g with due := g.due.erase p, high := g.high ++ [p] } }
      let s := portCount p 0 (emit (.sync p true) (modPort p (fun x => { x with sync := true, owed := x.owed ++ [g.expo] }) s))
      if (portOf s p).tx.isSome then portCount p 14 (modPort p (fun x => { x with frameDue := x.frameDue ++ [g.expo % 65536] }) s)
      else sendExpo p (g.expo % 65536) s

/-- Drive the scheduled falling edge (R121). -/
def syncFall (p : Nat) (s : State) : State :=
  match ((List.range s.gate.length).zip s.gate).find? (fun e => e.2.high.contains p) with
  | none => s
  | some (i, g) =>
    if !s.sys.mode.cap || s.now + tTileOf s p < g.ts + g.e then s
    else syncLow [p] { s with gate := s.gate.set i { g with high := g.high.erase p } }

/-- SYNC of a port goes low at once, and its scheduled fall is dropped. DESIGN CHOICE (log 84): the manual says only that SYNC stops at an error event, in training and at a retirement. -/
def portQuiet (p : Nat) (s : State) : State :=
  let s := if (portOf s p).sync then syncLow [p] s else s
  { s with gate := s.gate.map (fun g => { g with high := g.high.erase p }) }

/-- Mark absent every tile-plane-line of the port that f picks among those not complete, by slot (R147). -/
def absentIn (p : Nat) (f : Slot → Bool) (s : State) : State :=
  let open' := fun (t : Tpl) => t.port == p && !t.complete && !t.absent
  let n := sumN (s.gate.map (fun g => if f g then (g.tpls.filter open').length else 0))
  let drop := fun (g : Slot) =>
    if f g then { g with due := g.due.erase p, tpls := g.tpls.map (fun t => if open' t then { t with absent := true, codes := [], dark := [] } else t) } else g
  modPort p (fun x => { x with counters := nmod 0 x.counters 2 (fun c => satInc 32 c n) }) { s with gate := s.gate.map drop }

/-- Mark absent every tile-plane-line of the port that is not complete (R147). -/
def markAbsent (p : Nat) (s : State) : State :=
  modPort p (fun x => { x with owed := [], frameDue := [] }) (absentIn p (fun _ => true) s)

/-- Capture ends with exposures whose SYNC has not fallen (R122): no further edge is driven, so they have no samples. DESIGN CHOICE (log 84): a SYNC that is high goes low at once. -/
def cutSync (s : State) : State :=
  (List.range 32).foldl (fun s p =>
    if s.gate.any (fun g => g.due.contains p || g.high.contains p) then portQuiet p (absentIn p (fun g => g.due.contains p || g.high.contains p) s) else s) s

/-- First line with a tile-plane-line of the port still incomplete, else the next line. -/
def firstOpenLine (s : State) (p : Nat) : Nat :=
  ((s.gate.find? (fun g => g.tpls.any (fun t => t.port == p && !t.complete))).map Slot.line).getD s.tr.nextK

/-! ### Register transactions (R137 to R139) -/

/-- Send EXPO frames that waited for a transaction to end, in the order of their edges (R139). -/
def sendDueFrames (p : Nat) (s : State) : State :=
  let due := (portOf s p).frameDue
  if due.isEmpty then s
  else due.foldl (fun s tag => sendExpo p tag s) (modPort p (fun x => { x with frameDue := [] }) s)

/-- The free window of R139: no exposure waits for its EXPO frame or for the end of it, and the next predicted rising edge lies at least 4.0 µs ahead. A port that drives no SYNC has neither. -/
def ctlFree (s : State) (p : Nat) : Bool :=
  (portOf s p).tx.isNone &&
  (!inService s p ||
    ((portOf s p).frameDue.isEmpty && decide ((portOf s p).expoEnd ≤ s.now) && !(s.gate.any (fun g => g.due.contains p)) &&
     (if s.tr.session && s.tr.regime == .spec then
        match crossing s.tr s.tr.nextK with
        | none => true
        | some tc => decide ((s.now : Int) + 4000 ≤ tc - ((halfExpo s s.tr.nextK + tTileOf s p : Nat) : Int))
      else true)))

/-- The first cell of a register transaction, behind an EXPO frame that is still being sent. -/
def startTx (p : Nat) (x : CtlTx) (s : State) : State :=
  emit (.ctl p (if x.write then writeFrame x.addr x.data else readFrame x.addr)) (modPort p (fun y => { y with tx := some { x with start := Nat.max s.now y.expoEnd } }) s)

/-- A register write, at once or when the transaction in progress has ended. -/
def sendWrite (p addr data : Nat) (s : State) : State :=
  let x : CtlTx := { write := true, addr := addr, data := data, tries := 0, start := s.now }
  if (portOf s p).tx.isSome then modPort p (fun y => { y with again := some x }) s else startTx p x s

/-- LINK of Table 4.9. -/
def linkWord (mode half : Nat) : Nat := mode + 4 * half

/-! ### Training (R143 to R145) -/

/-- Address of the register read i of steps 1 and 2: TILE_ID, LINK_VERSION, GEOMETRY, DEPTHS, T_TILE, ROW_COLOUR. -/
def trainReg (i : Nat) : Nat := 4 * i

/-- Colour of a sensor row in ROW_COLOUR. -/
def rowColour (w row : Nat) : Nat := bits w (8 * row) 8

/-- Check of the tile's answers at step 2 of training (R144). -/
def configFits (c : PortCfg) (ans : List Nat) : Bool :=
  let w := fun (i : Nat) => ans.getD i 0
  w 1 % 256 == 1 && decide (c.columns ≤ bits (w 2) 0 13) && decide (c.dark ≤ bits (w 2) 20 7)
  && (if c.depth = 10 then bit (w 3) 0 else if c.depth = 12 then bit (w 3) 1 else bit (w 3) 2)
  && (c.half == 0 || bit (w 1) 8)
  && (slotsOf c).all (fun q => ((List.range 4).filter (fun row => rowColour (w 5) row == c.colours.getD q 0)).length == 1)
  && (c.tTile != 0xFFFF || decide (w 4 % 8192 ≤ 4800))

/-- CONFIG (Table 4.8) from PORT_CFG: each enabled slot goes to the row of matching colour (R117, R143). -/
def tileConfig (c : PortCfg) (rows : Nat) : Nat :=
  let route := fun (row : Nat) => match (slotsOf c).find? (fun q => rowColour rows row == c.colours.getD q 0) with
    | none => 0
    | some q => 2 ^ (2 + row) + q * 2 ^ (6 + 2 * row)
  (if c.depth = 10 then 0 else if c.depth = 12 then 1 else 2) + sumN ((List.range 4).map route) + c.dark * 2 ^ 14

/-- The register writes of steps 3 to 5: LINK.MODE = OFF, CONFIG, COLS, HALF_RATE, LINK.MODE = TRAIN, LINK.MODE = RUN. -/
def trainWrite (x : Port) (rows : Nat) : Nat → Nat × Nat
  | 0 => (0x28, linkWord 0 x.tileHalf)
  | 1 => (0x20, tileConfig x.cfg rows)
  | 2 => (0x24, x.cfg.columns)
  | 3 => (0x28, linkWord 0 x.cfg.half)
  | 4 => (0x28, linkWord 1 x.cfg.half)
  | _ => (0x28, linkWord 2 x.cfg.half)

/-- Move a training to a step. -/
def toStep (p : Nat) (st : TrainStep) (s : State) : State :=
  modPort p (fun x => { x with trainer := x.trainer.map (fun t => { t with step := st }) }) s

/-- Send what the step in progress needs of the control lane, once that is free and no write waits for it. -/
def kickTrainer (p : Nat) (s : State) : State :=
  let x := portOf s p
  match x.trainer with
  | none => s
  | some t =>
    if x.tx.isSome then s
    else if x.again.isSome then startTx p (x.again.getD { write := false, addr := 0, data := 0, tries := 0, start := 0 }) (modPort p (fun x => { x with again := none }) s)
    else
      let s := if t.step == .due then toStep p (if t.retrain then .write 4 else .read 0) s else s
      match (if t.step == .due then (if t.retrain then TrainStep.write 4 else .read 0) else t.step) with
      | .read i => startTx p { write := false, addr := trainReg i, data := 0, tries := 0, start := s.now } s
      | .write i => let (a, d) := trainWrite x (t.answers.getD 5 0) i; startTx p { write := true, addr := a, data := d, tries := 0, start := s.now } s
      | _ => s

/-- Begin a training or a retrain; a transaction in progress ends first (R145), and so does a write of LINK that a retirement asks for (R150). -/
def beginTrainer (retrain : Bool) (p : Nat) (s : State) : State :=
  kickTrainer p (modPort p (fun x => { x with trainer := some { retrain := retrain, step := .due, start := s.now }, again := x.again.filter (fun y => y.write && y.addr == 0x28) }) s)

/-- Lanes that start anew: every ball is out of lock, and the lanes that were in lock lose it now (R129, R149). -/
def freshLanes (p : Nat) (s : State) : State :=
  modPort p (fun x => { x with rx := {}, lock := x.lock.map (fun v => if v = 0 then s.now + 1 else v) }) s

/-- The tile has answered the transaction of a training step with OK: the next step follows at once. -/
def trainReply (p : Nat) (w : Nat) (s : State) : State :=
  let x := portOf s p
  match x.trainer with
  | none => s
  | some t =>
    match t.step with
    | .read i =>
      let ans := t.answers ++ [w]
      let s := modPort p (fun x => { x with trainer := some { t with answers := ans } }) s
      if i < 5 then kickTrainer p (toStep p (.read (i + 1)) s)
      else if configFits x.cfg ans then kickTrainer p (toStep p (.write 0) s)
      else toStep p .failed s
    | .write 4 => freshLanes p (toStep p .lanes s)
    | .write 5 => modPort p (fun x => { x with rx := { x.rx with good := 0, since := 0, words := [] } }) (toStep p .check s)
    | .write i =>
      let s := if i = 3 then modPort p (fun x => { x with tileHalf := x.cfg.half }) s else s
      kickTrainer p (toStep p (.write (i + 1)) s)
    | _ => s

/-- Instant up to which step 1 waits for an answer (R143): the clock has run for t_BOOT, or 1 ms has passed. -/
def bootWait (s : State) (t : Trainer) : Nat :=
  let ref := s.ports.tRef.getD t.start
  if t.start < ref + 100000000 then ref + 100000000 else t.start + 1000000

/-- Instant at which a training or a retrain must be over (R143, R145). -/
def trainLimit (s : State) (t : Trainer) : Nat :=
  let ref := s.ports.tRef.getD t.start
  if t.retrain then t.start + 20000
  else if t.start < ref + 100000000 then ref + 105000000 else t.start + 5000000

/-- Start training a port (R143). -/
def startTraining (p : Nat) (s : State) : State :=
  beginTrainer false p (modPort p (fun x => { x with state := .training, event := false }) (markAbsent p (portQuiet p s)))

/-! ### Completion of commands, retirement and error events -/

/-- Trainings that have ended, in the order of acceptance: one waits behind an earlier one of its opcode that is still open and names a port of it (R377). -/
def trainsOver : List TrainTx → List TrainTx → List TrainTx
  | _, [] => []
  | before, e :: r =>
    if e.left = 0 && before.all (fun b => b.op != e.op || b.mask &&& e.mask == 0) then e :: trainsOver before r else trainsOver (e :: before) r

/-- The commands whose trainings are over complete (R152, R364), those that retired a port with RETIRED: port p has just retired with this cause. -/
def endTrains (p cause : Nat) (s : State) : State :=
  let fin := trainsOver [] s.ports.trains
  let s := { s with ports.trains := s.ports.trains.filter (fun e => !(fin.contains e)) }
  fin.foldl (fun s e =>
    match maskIdx 32 e.failed with
    | [] => complete (fun q => q.src * 2 ^ 32 + q.seq == e.key) 0 0 0 s
    | low :: _ => complete (fun q => q.src * 2 ^ 32 + q.seq == e.key) 0x30 low (if low = p then cause else 0) s) s

/-- The PORT_TRAIN and PORT_CFG commands that wait for a training of port p (R152, R364). -/
def trainingDone (p : Nat) (ok : Bool) (cause : Nat) (s : State) : State :=
  let step := fun (e : TrainTx) =>
    if bit e.left p then { e with left := setBit e.left p false, failed := if ok then e.failed else setBit e.failed p true } else e
  endTrains p cause { s with ports.trains := s.ports.trains.map step }

/-- The last enabled port has retired in a capture mode (R151): every enabled port is in the retired mask. -/
def allRetiredCheck (s : State) : State :=
  if s.sys.mode.cap && !(enabledPorts s).isEmpty && (enabledPorts s).all (fun p => bit s.ports.retired p)
      && !faultActive s 0x0102 0xFFFF then raise 0x0102 0xFFFF s else s

/-- Retire a port (R150, R151, R153). A calibration run goes on without it, and without what it has measured (R259). LINK.MODE = OFF keeps HALF_RATE, which a tile in RUN would refuse to change (R141). -/
def retirePort (p cause : Nat) (s : State) : State :=
  let first := ((s.gate.find? (fun g => g.mask.isNone)).map Slot.line).getD s.tr.nextK
  let wasWaiting := (portOf s p).readmit = 2
  let s := markAbsent p (portQuiet p s)
  let s := sendWrite p 0x28 (linkWord 0 (portOf s p).tileHalf) s
  let s := modPort p (fun x => { x with state := .retired, cause := cause, event := false, fails := 0, trainer := none, rx := {}, lock := [0, 0, 0, 0] }) s
  let s := setRun (fun r => { r with ports := setBit r.ports p false }) { s with ports.retired := setBit s.ports.retired p true }
  let s := post 4 p (layout 16 [(0, 1, cause), (4, 4, lineNo first), (8, 2, epochOf first), (12, 4, s.ports.retired)]) s
  let s := raiseWith 0x0101 p (faultData 1 (leBytes 1 cause)) 0 s
  let s :=
    if wasWaiting then beginTrainer false p (modPort p (fun x => { x with readmit := 1, readmitAt := none, state := .training }) s)
    else modPort p (fun x => if x.readmit = 3 then { x with readmit := 0, readmitAt := none } else x) s
  releaseAll (allRetiredCheck s)

/-- A packet error (R134, R146, R149): open an error event, or belong to the open one. -/
def errorEvent (p cause : Nat) (s : State) : State :=
  let x := portOf s p
  if x.state == .retraining then releaseAll (markAbsent p s)
  else if x.state != .ready then s
  else
    let first := firstOpenLine s p
    let errs := (s.now :: x.errs).filter (fun t => decide (s.now ≤ t + 1000000000))
    let s := portCount p (2 + cause) (modPort p (fun x => { x with errs := errs, event := true, rx := { x.rx with words := [] } }) s)
    let x := portOf s p
    let s :=
      if x.posted != 0 && s.now < x.posted - 1 + 1000000 then
        portCount p 15 (modPort p (fun x => { x with suppressed := satInc 32 x.suppressed }) s)
      else
        post 3 p (layout 16 [(0, 1, cause), (1, 1, Nat.min errs.length 255), (4, 4, lineNo first), (8, 2, epochOf first), (12, 4, x.suppressed)])
          (modPort p (fun x => { x with posted := s.now + 1, suppressed := 0 }) s)
    let s := markAbsent p (portQuiet p s)
    if 8 ≤ errs.length then retirePort p 0x10 s
    else releaseAll (beginTrainer true p (modPort p (fun x => { x with state := .retraining }) s))

/-! ### Packets (R130 to R134) -/

/-- What the next packet of a tile-plane-line must be (R133). -/
def packetFits (c : PortCfg) (t : Tpl) (k : Packet) : Bool :=
  k.depth == c.depth && k.plane == t.slot && decide (1 ≤ k.count) &&
  (if c.dark != 0 && t.dark.isEmpty then k.dark && k.seg == 0 && !k.last && k.firstCol == 0 && k.count == c.dark
   else !k.dark && k.seg == t.seg && decide (t.seg < 8) && k.firstCol == t.codes.length
        && decide (t.codes.length + k.count ≤ c.columns) && (k.last == decide (t.codes.length + k.count = c.columns)))

/-- The first error of a packet's first row, in the order its words arrive (R134), 0 for none. -/
def headError (c : PortCfg) (g : Slot) (t : Tpl) (k : Packet) : Nat :=
  if k.sync != 0x4C1EB7A5 then 2 else if k.tag != g.expo % 65536 then 4 else if !packetFits c t k then 3 else 0

/-- N of R130 for a packet whose first words have arrived. -/
def packetWords (k : Packet) : Nat := 4 * ceilN (ceilN (k.count * k.depth) 64 + 3) 4

/-- The tile-plane-line whose packets a port sends next, with its slot. -/
def nextTpl (s : State) (p : Nat) : Option (Nat × Slot × Tpl) :=
  match oldestOwed s p with
  | none => none
  | some (i, g) => (g.tpls.find? (fun t => t.port == p && !t.complete && !t.absent)).map (fun t => (i, g, t))

/-- Replace a tile-plane-line of slot i. -/
def putTpl (i : Nat) (t : Tpl) (s : State) : State :=
  match s.gate[i]? with
  | none => s
  | some g => { s with gate := s.gate.set i { g with tpls := g.tpls.map (fun u => if u.port == t.port && u.slot == t.slot then t else u) } }

/-- The first row of a packet of the port's oldest outstanding exposure: the line enters the Gate (R18), and the tile-plane-line latches its inputs (R158). -/
def beginPacket (i : Nat) (t : Tpl) (s : State) : State :=
  let b := bankOf s t.rid
  let t' := if t.entered then t else { t with entered := true, w := rwNow s b.sv t.port t.slot, gen := (rwSeen s).2.getD t.slot 0 }
  enterGate i (putTpl i t' s)

/-- A good packet joins its tile-plane-line (R133, R158, R159). -/
def takePacket (i : Nat) (t : Tpl) (k : Packet) (s : State) : State :=
  let t' := if k.dark then { t with dark := k.codes } else { t with codes := t.codes ++ k.codes, seg := t.seg + 1, complete := k.last }
  let s := putTpl i t' s
  let s := if k.inferred then portCount t.port 13 s else s
  let s := portCount t.port 1 s
  let s := if k.dark then s else { s with meter.samplesIn := wrapInc 64 s.meter.samplesIn k.count }
  releaseAll (correctReady i s)

/-- Change the receiver of a port. -/
def modRx (p : Nat) (f : PortRx → PortRx) (s : State) : State := modPort p (fun x => { x with rx := f x.rx }) s

/-- Four words of a packet (R130, R134): the first row carries the header, the last the CRC. -/
def packetRow (p : Nat) (ws : List Word64) (s : State) : State :=
  if (portOf s p).state != .ready then s
  else
    let words := (portOf s p).rx.words ++ ws
    let s := modRx p (fun r => { r with words := words }) s
    match nextTpl s p with
    | none => errorEvent p 4 s
    | some (i, g, t) =>
      let k := parsePacket words
      let s := if words.length = 4 && k.sync == 0x4C1EB7A5 && k.tag == g.expo % 65536 then beginPacket i t s else s
      let e := if words.length = 4 then headError (portOf s p).cfg g t k else 0
      if e != 0 then errorEvent p e s
      else if words.length < packetWords k then s
      else
        let s := modRx p (fun r => { r with words := [] }) s
        if !k.crcOk then errorEvent p 1 s
        else match nextTpl s p with
          | none => s
          | some (i, _, t) => takePacket i t k s

/-! ### Rows (R126 to R129) -/

/-- An alignment row of TRAIN (R127, R143): 64 error-free ones in a row let the tile RUN. -/
def trainRow (p : Nat) (nos : List Nat) (s : State) : State :=
  let r := (portOf s p).rx
  let same := nos.all (fun n => n == nos.headD 0)
  let good := same && (r.good == 0 || nos.headD 0 == (r.last + 1) % 65536)
  let s := modRx p (fun r => { r with good := if good then r.good + 1 else 0, last := nos.headD 0, aligned := same }) s
  if 64 ≤ (portOf s p).rx.good then kickTrainer p (toStep p (.write 5) s) else s

/-- A row of RUN (R127, R129): its number within 1024 and, where it is an alignment row, ALIGN_NO. The first error is skew, or a block error of a mixed row. -/
def runRow (p : Nat) (k : RowKind) (s : State) : State :=
  let since := (portOf s p).rx.since + 1
  let s := modRx p (fun r => { r with since := since }) s
  match k with
  | .idle => modRx p (fun r => { r with words := [] }) s
  | .align nos =>
    let s := modRx p (fun r => { r with since := 0, last := nos.headD 0 }) s
    if nos.all (fun n => n == nos.headD 0) && since == 1024 then s else errorEvent p 7 s
  | .words ws => packetRow p ws s
  | .mixed => errorEvent p 6 s

/-- A row of the check in RUN (R143, R145): a retrain verifies row 0, a training a second alignment row 1024 rows later too. Alignment rows of TRAIN may still come first. -/
def checkRow (p : Nat) (k : RowKind) (s : State) : State :=
  let r := (portOf s p).rx
  let retrain := match (portOf s p).trainer with | some t => t.retrain | none => false
  let since := r.since + 1
  match k with
  | .align nos =>
    let same := nos.all (fun n => n == nos.headD 0)
    let n := nos.headD 0
    if !same then toStep p .failed s
    else if r.good = 0 && n = 0 then
      let s := modRx p (fun r => { r with good := 1, since := 0, last := 0, words := [] }) s
      if retrain then toStep p .done s else s
    else if r.good = 0 && n = (r.last + 1) % 65536 then modRx p (fun r => { r with last := n }) s
    else if r.good = 1 && n = 1 && since = 1024 then toStep p .done (modRx p (fun r => { r with good := 2, since := 0, last := n }) s)
    else toStep p .failed s
  | .idle => modRx p (fun r => { r with since := since }) s
  | _ => toStep p .failed s

/-- One row of the deskewed lanes. -/
def rowIn (p : Nat) (row : List (Nat × Nat)) (s : State) : State :=
  let x := portOf s p
  match x.trainer with
  | some { step := .lanes, .. } =>
    (match rowKind row with | .align nos => trainRow p nos s | _ => modRx p (fun r => { r with good := 0 }) s)
  | some { step := .write 5, .. } => (match rowKind row with | .align nos => modRx p (fun r => { r with last := nos.headD 0 }) s | _ => s)
  | some { step := .check, .. } => checkRow p (rowKind row) s
  | _ => if x.rx.aligned then runRow p (rowKind row) s else s

/-- Lanes that are not aligned yet (R128, R129): once every ball is in lock and carries an ALIGN block, their order, polarity and skew are known. -/
def tryAlign (p : Nat) (s : State) : State :=
  let x := portOf s p
  if x.rx.aligned || !(x.rx.balls.all BallRx.locked) then s
  else
    match findLanes x.rx.balls with
    | none => s
    | some (order, pol, d) =>
      modPort p (fun x => { x with laneOrder := order, polarity := pol, skew := laneSkew order d, rx := { x.rx with aligned := true, balls := deskew d x.rx.balls } }) s

/-- Rows that the lanes now hold complete. -/
def drainRows (p : Nat) : Nat → State → State
  | 0, s => s
  | n + 1, s =>
    let x := portOf s p
    if !x.rx.aligned then s
    else
      match popRow x.laneOrder x.polarity x.rx.balls with
      | none => s
      | some (row, balls) => drainRows p n (rowIn p row (modRx p (fun r => { r with balls := balls }) s))

/-- The lock stamps after the balls' headers (R149): a ball out of lock keeps the instant it lost it. -/
def lockStamps (now : Nat) (lock : List Nat) (balls : List BallRx) : List Nat :=
  (List.range 4).map (fun i => if (balls.getD i {}).locked then 0 else if lock.getD i 0 = 0 then now + 1 else lock.getD i 0)

/-- A ball that was in lock has lost it. -/
def lostLock (old new : List BallRx) : Bool := (List.range 4).any (fun i => (old.getD i {}).locked && !((new.getD i {}).locked))

/-- The lanes of a port carry something: it is trained, or its training has reached step 4. -/
def lanesLive (x : Port) : Bool :=
  x.state == .ready ||
  (match x.trainer with
   | some t => t.step == .lanes || t.step == .write 5 || t.step == .check || t.step == .done
   | none => false)

/-- One block period: a 66-bit block at each ball. A lane that loses lock is a block error (R134). -/
def periodIn (p : Nat) (raws : List Nat) (s : State) : State :=
  let x := portOf s p
  if !lanesLive x then s
  else
    let balls := (List.range 4).map (fun i => ballIn x.rx.aligned (x.rx.balls.getD i {}) (raws.getD i 0))
    let lost := lostLock x.rx.balls balls
    let s := modPort p (fun x => { x with rx := { x.rx with balls := balls }, lock := lockStamps s.now x.lock balls }) s
    let s := if lost then errorEvent p 6 s else s
    drainRows p 64 (tryAlign p s)

/-- Block periods in which every ball carries IDLE. -/
def idleIn (p n : Nat) (s : State) : State :=
  (List.range n).foldl (fun s _ => let x := portOf s p; periodIn p (idleBlocks x.laneOrder x.polarity x.rx.balls) s) s

/-- Idle block periods, then those given. -/
def rowsIn (p idles : Nat) (blocks : List (List Nat)) (s : State) : State := blocks.foldl (fun s raws => periodIn p raws s) (idleIn p idles s)

/-- The sync headers that a ball receives (R129). -/
def headersIn (p ball : Nat) (headers : List Nat) (s : State) : State :=
  let x := portOf s p
  if !lanesLive x then s
  else
    let b := headers.foldl headIn (x.rx.balls.getD ball {})
    let balls := x.rx.balls.set ball b
    let lost := lostLock x.rx.balls balls
    let s := modPort p (fun x => { x with rx := { x.rx with balls := balls }, lock := lockStamps s.now x.lock balls }) s
    if lost then errorEvent p 6 s else s

/-! ### Ends of trainings and retrains -/

/-- A retrain ends (R145, R149). -/
def retrainEnd (p : Nat) (ok : Bool) (s : State) : State :=
  if (portOf s p).state != .retraining then s
  else if ok then
    portCount p 11 (modPort p (fun x => { x with state := .ready, event := false, fails := 0, trainer := none, lock := [0, 0, 0, 0] }) s)
  else
    let s := portCount p 12 (modPort p (fun x => { x with fails := x.fails + 1, failAt := s.now, trainer := none }) s)
    if 3 ≤ (portOf s p).fails then retirePort p 0x11 s else s

/-- A training ends (R143, R144, R150, R152). -/
def trainEnd (p : Nat) (ok : Bool) (ans : List Nat) (s : State) : State :=
  let x := portOf s p
  if x.state != .training then s
  else if ok then
    let s := modPort p (fun x => { x with state := .ready, event := false, fails := 0, trainer := none, tileId := ans.getD 0 0, declared := ans.getD 4 0 % 8192, tTile := if x.cfg.tTile = 0xFFFF then ans.getD 4 0 % 8192 else x.cfg.tTile, lock := [0, 0, 0, 0] }) s
    let s :=
      if x.readmit = 1 then
        if s.sys.mode.cap then modPort p (fun x => { x with readmit := 2, readmitT := s.now, readmitAt := none }) s
        else
          let s := clearFault 0x0101 p (clearFaults 0x0102 (modPort p (fun x => { x with readmit := 0 }) { s with ports.retired := setBit s.ports.retired p false }))
          complete (ofOpRes 0x0203 p) 0 0 0 s
      else clearFaults 0x0102 s
    trainingDone p true 0 s
  else
    let cause := if 6 ≤ ans.length && !configFits x.cfg ans then 0x13 else 0x14
    let s := modPort p (fun x => { x with readmit := 0, readmitAt := none }) s
    let s := retirePort p cause s
    let s := if x.readmit = 1 then complete (ofOpRes 0x0203 p) 0x30 p 0 s else s
    trainingDone p false cause s

/-- How a training or retrain in progress stands at its row: done, failed or past its limit, or none of these. -/
def trainResult (s : State) (t : Trainer) : Option Bool :=
  if t.step == .done then some true else if t.step == .failed || decide (trainLimit s t ≤ s.now) then some false else none

/-- TRAINING_COMPLETE (R143): the training of the port has ended as the row tells. -/
def trainingOver (p : Nat) (ok : Bool) (s : State) : State :=
  match (portOf s p).trainer with
  | none => s
  | some t => if trainResult s t = some ok then trainEnd p ok t.answers s else s

/-- RETRAIN_COMPLETE (R145): the retrain has ended as the row tells, and of a success its lanes are as the row tells. -/
def retrainOver (p : Nat) (ok : Bool) (laneOrder polarity : Nat) (skew : List Int) (s : State) : State :=
  let x := portOf s p
  match x.trainer with
  | none => s
  | some t =>
    if trainResult s t = some ok && (!ok || (x.laneOrder == laneOrder && x.polarity == polarity && x.skew == skew)) then retrainEnd p ok s else s

/-- RETRAIN_RETRY (R149): the next retrain starts 100 µs after the one that failed. -/
def retrainRetry (p : Nat) (s : State) : State :=
  let x := portOf s p
  if x.state == .retraining && x.trainer.isNone && decide (0 < x.fails) && decide (x.failAt + 100000 ≤ s.now) then beginTrainer true p s else s

/-- The lanes go off (Table 2.2). -/
def lanesOff (p : Nat) (s : State) : State := modPort p (fun x => { x with event := false, trainer := none, again := none, rx := {}, lock := [0, 0, 0, 0] }) s

/-- Abandon a training or retrain without counting it (R153): the port waits for the next READY. -/
def abandonTraining (p : Nat) (s : State) : State :=
  let x := portOf s p
  if x.state == .training || x.state == .retraining then
    modPort p (fun x => { x with state := if bit s.ports.retired p then .retired else .off, fails := 0, readmit := 0 }) (lanesOff p s)
  else s

/-- A readmission that still waits when the session ends is done at once, for no line of the session is left to divide. -/
def finishReadmissions (s : State) : State :=
  (List.range 32).foldl (fun s p =>
    if 2 ≤ (portOf s p).readmit then
      complete (ofOpRes 0x0203 p) 0 0 0 (clearFault 0x0101 p (clearFaults 0x0102
        (modPort p (fun x => { x with readmit := 0, readmitAt := none }) { s with ports.retired := setBit s.ports.retired p false })))
    else s) s

/-! ### Replies on the control lane (R138) -/

/-- Last cell of a request to the end of the wait for a preamble. -/
def replyLimit (x : CtlTx) : Nat := x.start + (if x.write then 1600 else 960) + 1000

/-- After a transaction: the EXPO frames that wait, then a training step that waits, then a write that waits. -/
def afterTx (p : Nat) (s : State) : State :=
  let s := kickTrainer p (sendDueFrames p s)
  match (portOf s p).again with
  | some x => if ctlFree s p then startTx p x (modPort p (fun y => { y with again := none }) s) else s
  | none => s

/-- A reply is lost (R138): the transaction is repeated twice, once the window of R139 is free again, and the third loss is a CTL error. Step 1 of a training asks on while it may wait; a retrain that waits takes the lane from the old transaction. -/
def ctlLost (p : Nat) (s : State) : State :=
  match (portOf s p).tx with
  | none => s
  | some x =>
    let s := modPort p (fun y => { y with tx := none }) s
    match (portOf s p).trainer with
    | some t =>
      if t.step == .due then afterTx p s
      else if t.step == .read 0 then (if s.now < bootWait s t then kickTrainer p s else toStep p .failed s)
      else if x.tries < 2 then startTx p { x with tries := x.tries + 1 } s
      else toStep p .failed s
    | none =>
      if x.tries < 2 then
        afterTx p (modPort p (fun y => { y with again := some (y.again.getD { x with tries := x.tries + 1 }) }) s)
      else errorEvent p 8 (afterTx p s)

/-- The bytes of a reply from TYPE to CRC that answer a transaction: DATA and STATUS, none where CRC, TYPE or ADDR is wrong. -/
def replyOf (x : CtlTx) (f : List Byte) : Option (Nat × Nat) :=
  let body := f.take (f.length - 1)
  if f.length == (if x.write then 5 else 9) && field f 0 1 == (if x.write then 0x83 else 0x82) && field f 1 2 == x.addr
    && crc8 body == field f (f.length - 1) 1 then some (if x.write then 0 else field f 3 4, field f (f.length - 2) 1) else none

/-- CTL_REPLY (R137, R138): the levels of each half cell, from the preamble on. -/
def ctlReply (p : Nat) (levels : List Bool) (s : State) : State :=
  match (portOf s p).tx with
  | none => s
  | some x =>
    match (frameBytes levels).bind (replyOf x) with
    | none => ctlLost p s
    | some (w, status) =>
      let s := modPort p (fun y => { y with tx := none, tileId := if status = 0 && !x.write && x.addr == 0 then w else y.tileId }) s
      match (portOf s p).trainer with
      | some t =>
        if t.step == .due then afterTx p s
        else if status = 0 then trainReply p w s
        else toStep p .failed s
      | none => afterTx p s

/-- CTL_REPLY_LOST (R138): no preamble within 1.0 µs of the request's end. -/
def ctlTimeout (p : Nat) (s : State) : State :=
  match (portOf s p).tx with
  | none => s
  | some x => if s.now < replyLimit x then s else ctlLost p s

/-- CTL_TRANSACTION (R137 to R139): one that is to be repeated comes first. The device never accesses the tile maker's own addresses (R140). -/
def ctlTransaction (p : Nat) (write : Bool) (addr data : Nat) (s : State) : State :=
  let x := portOf s p
  if !ctlFree s p then s
  else
    match x.again with
    | some y => startTx p y (modPort p (fun x => { x with again := none }) s)
    | none =>
      if x.state == .ready && decide (addr < 0x1000) then startTx p { write := write, addr := addr, data := data, tries := 0, start := s.now } s else s

/-- The reference clocks of the eight groups start with the first entry to STANDBY after BOOT (R143). -/
def startRefClocks (s : State) : State :=
  if s.ports.tRef.isSome then s
  else (List.range 8).foldl (fun s g => emit (.refclk g true) s) { s with ports.tRef := some s.now }

/-- They stop in RESET, BOOT and RECOVERY (R143). -/
def stopRefClocks (s : State) : State :=
  if s.ports.tRef.isNone then s
  else (List.range 8).foldl (fun s g => emit (.refclk g false) s) { s with ports.tRef := none }

end Sys2Proof.Machine
end

