-- ==== Sys2Proof/Machine/ModeOps.lean ====
section
/-! DEFINITION. Sessions, mode changes, the orderly stop and HOLD (R39 to R54, R75, R105). -/

namespace Sys2Proof.Machine

/-! ### Sessions -/

/-- The tracker restarts at the position of the source that the mode follows (log 65). -/
def restartTracker (s : State) : State :=
  let src := transitSource s
  let axis := if s.sys.mode = .bench then s.proof.benchAxis else s.proof.proofAxis
  let scale := if s.sys.mode = .bench then s.proof.benchScale else s.proof.proofScale
  let x := if src < 4 then 256 * (s.tr.encs.getD src {}).count * 65536 else microsteps (axisOf s axis).pos * (scale : Int)
  { s with tr.x := x, tr.v := 0, tr.a := 0, tr.last := none, tr.hist := [], tr.horizon := [], tr.run := 0, tr.fastFrom := none, tr.regime := .still }

/-- A capture session is armed (R75, R105): the grid is anchored, and its first line ticket will give the session-start Datum. -/
def startSession (s : State) : State :=
  let n0 := s.tr.used
  let x := reported (correctedAt s.tr s.now) * 65536 + (s.tr.cfg.pitch : Int) - (n0 : Int) * (s.tr.cfg.pitch : Int)
  let tr := { s.tr with session := true, closed := false, x0 := x, n0 := n0, nextK := n0, mark := n0, rowN := n0, lineFrom := 0, stopAt := none, leadStop := none, resumes := false }
  startScan { s with tr := tr, datum.list := [], datum.expected := none, datum.taken := false, datum.maxC := none,
                     dlv.outRid := none, dlv.nextOut := n0 + lookAhead s, aln.win := [], aln.store := [], aln.lines := [], aln.squashed := [], lamp.early := none }

/-- Every exposure of the session has its verdict and every line is out (R47 step 3). -/
def captureDone (s : State) : Bool :=
  s.gate.isEmpty && !mayFreeze s && s.aln.lines.all (fun l => decide (l.line < s.dlv.nextOut))

/-- The line index at which the session ends (R47): past the last line whose lead-row part was captured. -/
def stopEnd (s : State) : Nat :=
  match s.tr.stopAt, s.tr.leadStop with
  | some n, _ => n
  | none, some n => n + staggerMax s
  | none, none => s.tr.nextK + staggerMax s

/-- DATUM_FORCE completes in order (R69): its Datum has passed and its line is exposed, or its line will have no ticket. -/
def finishForces : Nat → State → State
  | 0, s => s
  | n + 1, s =>
    match s.datum.forces with
    | [] => s
    | id :: r =>
      match datumById s id with
      | some d =>
        if d.passed && (decide (d.first < s.tr.nextK) || !s.tr.session) then finishForces n (complete (ofOpcode 0x0111) 0 0 0 { s with datum.forces := r })
        else if !s.tr.session then finishForces n (complete (ofOpcode 0x0111) jobFailed 1 0 { s with datum.forces := r })
        else s
      | none => finishForces n (complete (ofOpcode 0x0111) 0 0 0 { s with datum.forces := r })

/-- The session ends (R47 step 4, R50, R69): what is staged closes short, missing lines become a gap, and a Datum that no line reached falls away (log 66). DESIGN CHOICE (log 97): an armed bank whose Datum falls away becomes unbound and stays armed for the first Datum of the next session. -/
def endSession (s : State) : State :=
  let missing := stopEnd s - s.dlv.nextOut
  let s := (List.range 8).foldl (fun s n => closeStream n s) s
  let s := stopGap (if s.sys.mode = .hold then 5 else 4) missing s
  let s := finishReadmissions (dropBlocks s)
  let s := finishForces 4096 { s with tr.session := false, tr.resumes := false }
  let s := (List.range 8).foldl (fun s n => archiveEnd n s) s
  { s with datum.list := s.datum.list.filter Datum.passed, datum.expected := none, datum.taken := false, banks.bound := none, aln.win := [], aln.store := [], aln.lines := [], aln.squashed := [] }

/-- A session whose capture is done and that no restart continues. -/
def sessionOver (s : State) : Bool := s.tr.session && captureDone s && !s.tr.resumes

/-! ### Ports and loopbacks -/

/-- Train every enabled port that is not retired (R54). -/
def trainAll (s : State) : State :=
  ((enabledPorts s).filter (fun p => !(bit s.ports.retired p))).foldl (fun s p => startTraining p s) s

/-- A port still trains. -/
def portsTrain (s : State) : Bool := (enabledPorts s).any (fun p => (portOf s p).state == .training)

/-- The lanes go off (Table 2.2, R153): the commands that wait for a training end as failed. DESIGN CHOICE (log 84): their status is JOB_FAILED, with a DETAIL that the manual does not give (log 5). -/
def portsOff (s : State) : State :=
  let s := (List.range 32).foldl (fun s p =>
    let s := abandonTraining p (portQuiet p s)
    if (portOf s p).state == .ready then modPort p (fun x => { x with state := .off }) (lanesOff p s) else s) s
  let waits := fun (p : Pend) => [0x0201, 0x0202, 0x0203].contains p.opcode
  if s.host.outstanding.any waits then
    completeAll waits jobFailed ((Config.freeValue s.free).toNat % 2 ^ 16) { s with free := s.free + 1, ports.trains := [] }
  else { s with ports.trains := [] }

/-- Ports that a loopback uses: TARGET 0 and 1. -/
def loopPorts (l : Loop) : List Nat := if l.target < 2 then maskIdx 32 l.ports else []

/-- A loopback that a mode change ends (R48): it fails, and its ports train again. -/
def stopLoop (s : State) : State :=
  match s.loop with
  | none => s
  | some l =>
    let s := complete (fun p => p.opcode == 0x0E01 && p.src == l.src && p.seq == l.seq) jobFailed 0 0 { s with loop := none }
    ((loopPorts l).filter (fun p => enabledPort s p && !(bit s.ports.retired p))).foldl (fun s p => startTraining p s) s

/-! ### Entering a mode -/

/-- Codec jobs end at the entry to these modes (R288), and Transit, the lanes and the lamps are off in them. -/
def idleMode (m : Mode) : Bool := m == .reset || m == .boot || m == .recovery || m == .standby || m == .activate

/-- EV_MODE (Table 11.14). The manual gives no SEQ and MAILBOX where no MODE_SET caused the change: they are free (log 5). -/
def evMode (old new : Mode) (cause fault : Nat) (by' : Option ModeReq) (s : State) : State :=
  let put := fun (sq mb : Nat) (s : State) => post 15 0xFFFF (layout 16 [(0, 1, old.code), (1, 1, new.code), (2, 1, cause), (4, 2, fault), (8, 4, sq), (12, 1, mb)]) s
  match by' with
  | some r => put r.seq (if r.src = 4 then 0x10 else r.src) s
  | none => put ((Config.freeValue s.free).toNat % 2 ^ 32) ((Config.freeValue (s.free + 1)).toNat % 256) { s with free := s.free + 2 }

/-- What ends because the device leaves its mode for another (R48, R50, R239, R288, R446). -/
def leaveMode (new : Mode) (s : State) : State :=
  let old := s.sys.mode
  let s := if old = .replay then endReplay jobFailed s else s
  let s := if old = .service then stopLoop s else s
  let s := if old.cap && !new.cap then cutSync s else s
  let s := if old.cap then abortCal chkAborted s else s
  let s := if idleMode new then failJobs s else s
  let s := if old = .proof then releaseProof s else s
  let s := if new = .hold || idleMode new then stopAllAxes s else s
  let s := if idleMode new then portsOff s else s
  if new = .hold then { s with tr.closed := true, tr.resumes := false } else s

/-- Modes in which the HBM stack stays active (Table 2.2). -/
def hbmActive (m : Mode) : Bool := m.cap || m == .replay || m == .service || m == .hold

/-- The HBM column of Table 2.2 at an entry: STANDBY and ACTIVATE put the stack in self-refresh, READY leaves it on demand. Work in progress takes it out again. -/
def hbmEnter (new : Mode) (s : State) : State :=
  if new == .standby || new == .activate then { s with clk.refresh := true } else if new == .ready then s else { s with clk.refresh := false }

/-- The mode changes at this instant (R40, R41). -/
def enterMode (new : Mode) (cause fault : Nat) (by' : Option ModeReq) (s : State) : State :=
  let old := s.sys.mode
  let wasOn := transitOn old
  let src := transitSource s
  let s := leaveMode new s
  let sys := { s.sys with mode := new, prev := old, cause := cause, fault := fault, tEnter := stationTime s, pend := none, stopping := none, stopLate := false,
                          entered := new == .ready || new == .standby, tStandby := if new = .standby && s.sys.tStandby.isNone then some s.now else s.sys.tStandby }
  let s := lampsEnter old new { s with sys := sys, stn.statusDue := true }
  let s := hbmEnter new (takeProof s)
  let s := if anaOn new && !(anaOn old) then startAna s else s
  let s := if transitOn new && (!wasOn || transitSource s != src) then restartTracker s else s
  evMode old new cause fault by' s

/-- Complete the MODE_SET that asked for this mode. -/
def modeDone (r : ModeReq) (s : State) : State := complete (fun p => p.opcode == 0x0101 && p.src == r.src && p.seq == r.seq) 0 0 0 s

/-- A MODE_SET reaches its target: the mode, then its completion (R45, R377). -/
def reachTarget (r : ModeReq) (cause : Nat) (s : State) : State := modeDone r (enterMode r.target cause 0 (some r) s)

/-! ### MODE_SET -/

/-- Table 2.3: targets of MODE_SET. -/
def transition (old new : Mode) : Bool :=
  match old with
  | .standby => new == .ready
  | .ready => new == .standby || new.cap || new == .replay || new == .service
  | .bench | .inline | .proof | .replay | .service => new == .ready
  | .hold => new == .ready || new == .standby
  | _ => false

/-- The host link carries capture and replay (R329): x8 or wider at 16 GT/s or faster. -/
def linkOk (s : State) : Bool := decide (8 ≤ s.host.width) && decide (4 ≤ s.host.rate)

/-- The unmet condition of a MODE_SET (R46, R329, Table 11.13), 0 for none. -/
def modeCondition (new : Mode) (s : State) : Nat :=
  let axis := fun (n missing : Nat) => if 4 ≤ n then missing else if (axisOf s n).lost then 6 else 0
  if (new.cap || new == .replay) && !linkOk s then 9
  else
    match new with
    | .inline =>
      if (s.tr.encs.getD s.tr.cfg.source {}).enable = 0 then 2
      else if (enabledPorts s).all (fun p => (portOf s p).state == .retired) then 3 else 0
    | .proof => axis s.proof.proofAxis 4
    | .bench => axis s.proof.benchAxis 5
    | .replay => if (drivesIn s).isEmpty then 7 else 0
    | .ready => if s.sys.mode = .hold && holdActive s then 8 else 0
    | _ => 0

/-- An orderly stop begins (R47 step 1): the lead row takes no further ticket, and a stop cycle ends its session at L (Table 13.4). -/
def beginStop (s : State) : State :=
  let s := { s with sys.stopping := some s.now, sys.stopLate := false }
  let s := endCycle { s with tr.leadStop := some (s.tr.leadStop.getD s.tr.nextK), tr.resumes := false }
  abortCal chkAborted s

/-- An accepted MODE_SET begins (R45, R47, R48, R54). -/
def beginMode (r : ModeReq) (s : State) : State :=
  let s := { s with sys.pend := some r }
  if r.target != .ready then (if r.target = .standby then stopAllAxes s else s)
  else if s.sys.mode.cap then beginStop s
  else if s.sys.mode = .standby then trainAll { s with host.l1 := false }
  else if s.sys.mode = .replay then endReplay jobFailed s
  else if s.sys.mode = .service then stopLoop s
  else s

/-- PIPELINE_ARMED (R45): a capture mode is entered and its session is armed. -/
def pipelineArmed (s : State) : State :=
  match s.sys.pend with
  | some r => if r.target.cap && s.sys.mode = .ready then modeDone r (startSession (enterMode r.target 1 0 (some r) s)) else s
  | none => s

/-- MODE_CHANGE_COMPLETE (R45): a change that neither starts nor ends capture. READY waits for its ports, HOLD for the session that it ended, and STANDBY for its axes to hold (R446); a move accepted since ends too. -/
def modeChangeComplete (s : State) : State :=
  match s.sys.pend with
  | some r =>
    if r.target.cap || s.sys.mode.cap || s.tr.session || (r.target == .ready && portsTrain s) then s
    else if r.target == .standby && s.mot.axes.any axisMoving then
      (if s.host.outstanding.any (fun p => p.opcode == 0x0A02 || p.opcode == 0x0A03) then stopAllAxes s else s)
    else reachTarget r 1 s
  | none => s

/-- Every line of the session has reached a host ring or the refuge (R47 step 5). -/
def linesOut (s : State) : Bool :=
  !s.tr.session && s.dlv.streams.all (fun x => x.work.isEmpty && x.live.isEmpty && x.row.isEmpty && x.accLines.isEmpty)

/-- ORDERLY_STOP_COMPLETE (R47 step 5). -/
def orderlyStopComplete (s : State) : State :=
  match s.sys.pend with
  | some r => if r.target == .ready && s.sys.mode.cap && linesOut s then reachTarget r (if s.sys.stopLate then 5 else 1) s else s
  | none => s

/-- STOP_TIMEOUT (R47): the web has not carried the last lines past the trail row within 1 s. -/
def stopTimeout (s : State) : State :=
  match s.sys.stopping with
  | some t => if s.tr.session && !captureDone s && decide (t + 1000000000 ≤ s.now) then { s with sys.stopLate := true, tr.closed := true } else s
  | none => s

/-- A fault calls for HOLD (R49, R50): it overrides a MODE_SET in progress, one that is to leave HOLD too. -/
def enterHold (code : Nat) (s : State) : State :=
  let m := s.sys.mode
  let fail := fun (r : ModeReq) (s : State) => complete (fun p => p.opcode == 0x0101 && p.src == r.src && p.seq == r.seq) 0x12 (0xA + 0x800) 0 s
  if m = .hold then (match s.sys.pend with | some r => fail r { s with sys.pend := none } | none => s)
  else if !(m == .ready || m.cap || m == .replay || m == .service) then s
  else
    let superseded := s.sys.pend
    let s := enterMode .hold 2 code none s
    match superseded with
    | some r => fail r s
    | none => s

end Sys2Proof.Machine
end

