-- ==== Sys2Proof/Machine/UpdOps.lean ====
section
/-! DEFINITION. Field update: images, download, verification, activation, switch-over, trial and rollback (R495 to R515). -/

namespace Sys2Proof.Machine

/-! ### Components and combinations (R497, R498) -/

/-- A component of the factory image (Table 15.7). -/
def factoryComp (c : Nat) : Comp where
  version := (Config.factoryVersion c).toNat
  gen := (Config.factoryGen c).toNat
  iface := (Config.factoryIface c).toNat
  req := (List.range 4).map (fun d => ((Config.factoryReqLo c d).toNat, (Config.factoryReqHi c d).toNat))

/-- Component c of slot i (0 A, 1 B), the factory's where the slot holds no image of its own. -/
def slotComp (s : State) (i c : Nat) : Comp := (((s.upd.slots.getD i none).getD []))[c]?.getD (factoryComp c)

/-- Component c of the combination that sel names (Table 15.10). -/
def selComp (s : State) (sel c : Nat) : Comp := slotComp s (b2n (bit sel c)) c

/-- The running component c. -/
def runningComp (s : State) (c : Nat) : Comp := selComp s s.upd.boot.sel c

/-- The inactive slot: no component of SEL runs from it; in RECOVERY, where neither slot holds a full set that passes verification, slot A (R500). -/
def inactiveSlot (s : State) : Nat :=
  if s.sys.mode = .recovery && s.upd.noSet then 0 else if s.upd.boot.sel % 16 = 15 then 0 else 1

/-- Address of a byte of slot i in the boot flash (Table 15.9). -/
def slotAddr (i o : Nat) : Nat := (if i = 0 then 0x0800000 else 0x2400000) + o

/-- The generation floor of component c (R497). -/
def floorOf (s : State) (c : Nat) : Nat :=
  match s.upd.boot.floors with
  | some l => l.getD c 0
  | none => (Config.factoryGen c).toNat

/-- A generation equals or follows its floor (R10, R497). -/
def genOk (s : State) (l : List Comp) : Bool :=
  (List.range 4).all (fun c => (l.getD c {}).gen == floorOf s c || follows 16 (floorOf s c) (l.getD c {}).gen)

/-- A combination is compatible (R498). -/
def compatible (l : List Comp) : Bool :=
  (List.range 4).all (fun x => (List.range 4).all (fun y => x == y ||
    (let r := (l.getD x {}).req.getD y (0, 65535); decide (r.1 ≤ (l.getD y {}).iface) && decide ((l.getD y {}).iface ≤ r.2))))

/-- The combinations C1 to C4 of R508 are compatible, and their components respect the floors. -/
def stepsOk (s : State) (new : List Comp) : Bool :=
  genOk s new && [1, 2, 3, 4].all (fun k => compatible ((List.range 4).map (fun c => if c < k then new.getD c {} else runningComp s c)))

/-! ### Pieces (R502) -/

/-- 1 KiB pieces of an image. -/
def pieceCount (bytes : Nat) : Nat := ceilN bytes 1024

/-- A 1 KiB piece is needed: a header piece, or one that overlaps a component of this unit; before the header has passed every piece is. -/
def needed (d : Download) (i : Nat) : Bool :=
  decide (i < 64) ||
  (match d.comps with
   | none => true
   | some l => l.any (fun c => decide (c.offset < 1024 * (i + 1)) && decide (1024 * i < c.offset + c.bytes)))

/-- Held, or not needed. -/
def received (d : Download) (i : Nat) : Bool := bit d.held i || !needed d i

/-- RECEIVED in pieces of n KiB (R502). -/
def receivedCount (d : Download) (n : Nat) : Nat :=
  ((List.range (ceilN (pieceCount d.bytes) n)).filter (fun j => (List.range n).all (fun k => decide (pieceCount d.bytes ≤ n * j + k) || received d (n * j + k)))).length

/-- Every needed piece is held. -/
def allHeld (d : Download) : Bool := d.comps.isSome && (List.range (pieceCount d.bytes)).all (received d)

/-- The header area's pieces of an image. -/
def headerPieces (d : Download) : List Nat := List.range (Nat.min 64 (pieceCount d.bytes))

/-- BYTES of the 1 KiB piece i of an image. -/
def pieceBytes (d : Download) (i : Nat) : Nat := Nat.min 1024 (d.bytes - 1024 * i)

/-! ### States and events -/

/-- Enter an update state; the change is due in a STATUS frame (R484). -/
def setUpd (st : Nat) (s : State) : State :=
  if s.upd.state = st then s else { s with upd.state := st, stn.statusDue := true }

/-- EV_UPDATE (Table 11.14); its REASON is the LAST_RESULT from then on. -/
def evUpdate (kind comp reason : Nat) (s : State) : State :=
  post 12 0xFFFF (layout 16 [(0, 1, kind), (1, 1, comp), (2, 2, reason), (4, 4, s.upd.dl.id), (8, 4, receivedCount s.upd.dl 1)]) { s with upd.result := reason }

/-- The update fails (R496, R505): FAILED with a REASON, told by EV_UPDATE VERIFY_FAILED. -/
def updFail (reason : Nat) (s : State) : State := evUpdate 3 0xFF reason (setUpd 7 s)

/-- What a copy of the download area holds (Table 15.9): the image header received, the schedule and the piece bitmap. DESIGN CHOICE (log 97): IMAGE_ID and IMAGE_BYTES stand before them, no part is padded, and what has not come reads as erased flash. -/
def downloadBytes (d : Download) (c : Option Sched) : List Byte :=
  leBytes 4 d.id ++ leBytes 4 d.bytes ++ (List.range 64).flatMap (fun i => tget (List.replicate 1024 0xFF) i d.header) ++
    (match c with
     | some c => leBytes 8 c.time ++ leBytes 1 c.policy ++ leBytes 4 c.window ++ leBytes 4 c.confirm
     | none => List.replicate 17 0xFF) ++ leBytes 6144 d.held

/-- Save the download state into the copy of the download area that is not the newest (R499, R503). DESIGN CHOICE (log 97): the copies stand at the halves of the area. -/
def saveDownload (s : State) : State :=
  let k := 1 - s.upd.savedCopy
  emit (.flash (0x400000 + 0x200000 * k) (downloadBytes s.upd.dl s.upd.sched)) { s with upd.saved := some s.upd.dl, upd.savedCopy := k, upd.fresh := 0 }

/-! ### The image header (R495, R496) -/

/-- The header bytes received. -/
def headerBytesOf (d : Download) : List Byte := (headerPieces d).flatMap (fun i => slice (tget [] i d.header) 0 (pieceBytes d i))

/-- An entry of the header (Table 15.7): component, STEP_MASK, and what the device keeps of it. -/
def headerEntry (h : List Byte) (k : Nat) : Nat × Nat × Comp :=
  let e := slice h (0x20 + 96 * k) 96
  (field e 0 1, field e 2 2,
   { version := field e 4 4, gen := field e 8 2, iface := field e 10 2, offset := field e 12 4, bytes := field e 16 4,
     req := (List.range 4).map (fun i => (field e (0x14 + 4 * i) 2, field e (0x16 + 4 * i) 2)), image := field h 8 4, digest := slice e 0x30 48 })

/-- This unit's entry for component c, where exactly one has its STEP. -/
def unitComp (h : List Byte) (c : Nat) : Option Comp :=
  match ((List.range (field h 6 2)).map (headerEntry h)).filter (fun e => e.1 == c && bit e.2.1 (Config.step).toNat) with
  | [e] => some e.2.2
  | _ => none

/-- Check 1 of R496. -/
def headerForm (h : List Byte) : Bool :=
  let n := field h 6 2
  field h 0 4 == 0x474E5655 && field h 4 2 == 1 && decide (4 ≤ n) && decide (n ≤ 32) && field h 0x10 4 == 0x20 + 96 * n && decide (0x20 + 96 * n + 192 ≤ 65536)

/-- A signature of the header at offset o over the bytes before it, under a public key (Table 15.8). -/
def signedBy (key : BitVec 768) (h : List Byte) (o : Nat) : Bool := ecdsaVerify (beBytes 96 key.toNat) (sha384 (h.take o)) (slice h o 96)

/-- Check 3 of R496: the owner key that the running CFG names. -/
def ownerOk (s : State) (h : List Byte) : Bool :=
  match Config.cfgOwnerKey (runningComp s 3).image with
  | none => true
  | some k => bit (field h 0x14 4) 0 && signedBy k h (field h 0x10 4 + 96)

/-- The checks of R496 in order: the four components, or the REASON of the first that fails. -/
def checkHeader (s : State) (h : List Byte) : Except Nat (List Comp) :=
  if !headerForm h || !signedBy Config.vendorKey h (field h 0x10 4) then .error 1
  else if !ownerOk s h then .error 1
  else
    match unitComp h 0, unitComp h 1, unitComp h 2, unitComp h 3 with
    | some a, some b, some c, some d =>
      let l := [a, b, c, d]
      if !(l.all (fun x => decide (x.offset + x.bytes ≤ field h 0x0C 4))) || decide (28 * 2 ^ 20 - 65536 < sumN (l.map (fun x => (x.bytes + 4095) / 4096 * 4096))) then .error 2
      else if !genOk s l || !compatible l then .error 2
      else .ok l
    | _, _, _, _ => .error 2

/-- The header is checked once all its pieces are there (R502). -/
def headerDone (s : State) : State :=
  let d := s.upd.dl
  if d.comps.isSome || !((headerPieces d).all (fun j => (d.header.map Prod.fst).contains j)) then s
  else
    match checkHeader s (headerBytesOf d) with
    | .ok l => saveDownload { s with upd.dl := { d with comps := some l } }
    | .error r => updFail r s

/-- A header piece joins the download; the last of them has the header checked (R502). -/
def takeHeader (i : Nat) (bytes : List Byte) (s : State) : State :=
  headerDone (emit (.flash (slotAddr (inactiveSlot s) (1024 * i)) bytes) { s with upd.dl := { s.upd.dl with header := tset [] i bytes s.upd.dl.header } })

/-- DOWNLOADED and VERIFYING once every needed piece is held (R505). -/
def tryVerify (s : State) : State :=
  if s.upd.state = 1 && allHeld s.upd.dl then setUpd 2 (evUpdate 1 0xFF 0 (saveDownload s)) else s

/-- Where piece i of the body lies in a slot (R499): the components are packed from 64 KiB on, each at a boundary of 4 KiB. -/
def packedAt (l : List Comp) (i : Nat) : Nat :=
  (l.foldl (fun (acc : Nat × Nat) c =>
    (acc.1 + (c.bytes + 4095) / 4096 * 4096, if c.offset < 1024 * (i + 1) && 1024 * i < c.offset + c.bytes then acc.1 + 1024 * i - c.offset else acc.2)) (65536, 0)).2

/-- One 1 KiB piece of the download (R502): a body piece before the header has passed is discarded; a piece held already is ignored. -/
def takePiece1 (i : Nat) (bytes : List Byte) (s : State) : State :=
  let d := s.upd.dl
  if bit d.held i then s
  else if i < 64 then
    takeHeader i bytes { s with upd.dl := { d with held := setBit d.held i true }, upd.fresh := s.upd.fresh + 1 }
  else if d.comps.isNone then s
  else
    let s := if needed d i then emit (.flash (slotAddr (inactiveSlot s) (packedAt (d.comps.getD []) i)) bytes) { s with upd.dl := { d with body := tset [] i bytes d.body } } else s
    { s with upd.dl := { s.upd.dl with held := setBit s.upd.dl.held i true }, upd.fresh := s.upd.fresh + 1 }

/-- The download state is saved after every 64 pieces newly held (R503). -/
def saveEvery (s : State) : State := if 64 ≤ s.upd.fresh then saveDownload s else s

/-- A download starts or resumes (R501): the response data of UPD_BEGIN follows from the state it leaves. One that failed goes on with the pieces that it holds, and meets the checks that they are ready for once more. -/
def startDownload (image bytes : Nat) (s : State) : State :=
  if s.upd.state = 1 && s.upd.dl.id = image then s
  else if s.upd.state = 7 && s.upd.dl.id = image && s.upd.dl.bytes != 0 then
    let s := headerDone (setUpd 1 { s with upd.lastPiece := s.now })
    if s.upd.state = 1 then tryVerify s else s
  else setUpd 1 { s with upd.dl := { id := image, bytes := Nat.min bytes (48 * 2 ^ 20) }, upd.fresh := 0, upd.saved := none, upd.lastPiece := s.now, upd.late := [],
                         upd.sched := none, upd.waiting := false }

/-- The download goes on from its saved state (R503, R516). -/
def fromSaved (s : State) : State :=
  if s.upd.state = 1 then { s with upd.dl := s.upd.saved.getD { id := s.upd.dl.id, bytes := s.upd.dl.bytes }, upd.fresh := 0 } else s

/-- A start of this image is legal (R501). -/
def mayStart (image : Nat) (s : State) : Bool :=
  s.upd.state == 0 || s.upd.state == 7 || (s.upd.state == 1 && s.upd.dl.id == image)

/-- UPD_NEED (R504): the lowest needed piece and the map of the next 1024. -/
def sendNeed (s : State) : State :=
  let d := s.upd.dl
  match (List.range (pieceCount d.bytes)).find? (fun i => !received d i) with
  | none => s
  | some f =>
    let m := sumN ((List.range 1024).map (fun i => if decide (f + i < pieceCount d.bytes) && !received d (f + i) then 2 ^ i else 0))
    nspMaster 0x12 (layout 136 [(0, 4, d.id), (4, 4, f), (8, 128, m)]) s

/-! ### Verification, schedule and activation (R505 to R508) -/

/-- The bytes of a component as the pieces in the inactive slot hold them. -/
def compData (d : Download) (c : Comp) : List Byte :=
  slice ((List.range (ceilN (c.offset % 1024 + c.bytes) 1024)).flatMap (fun k => slice (tget [] (c.offset / 1024 + k) d.body) 0 1024)) (c.offset % 1024) c.bytes

/-- Component c reads back with the DIGEST of its entry; bit c of readErrors tells that the flash gave other bytes than were programmed. -/
def digestOk (d : Download) (readErrors c : Nat) : Bool :=
  let x := (d.comps.getD []).getD c {}
  !(bit readErrors c) && sha384 (compData d x) == x.digest

/-- VERIFICATION_COMPLETE (R505). Pieces that came meanwhile are ignored as held, or written after a return to DOWNLOADING (R516). -/
def verified (readErrors : Nat) (flashOk : Bool) (s : State) : State :=
  if s.upd.state != 2 then s
  else if !flashOk then updFail 6 { s with upd.late := [] }
  else
    let late := s.upd.late
    let s := { s with upd.late := [] }
    let l := s.upd.dl.comps.getD []
    match (List.range 4).filter (fun c => !(digestOk s.upd.dl readErrors c)) with
    | [] =>
      if genOk s l && compatible l && (s.sys.mode == .recovery || stepsOk s l) then
        evUpdate 2 0xFF 0 (setUpd 3 { s with upd.slots := s.upd.slots.set (inactiveSlot s) (some l), upd.newSlot := inactiveSlot s, upd.noSet := false })
      else updFail 2 s
    | bad =>
      let lost := fun (i : Nat) => decide (64 ≤ i) && bad.any (fun c => let x := l.getD c {}; decide (x.offset < 1024 * (i + 1)) && decide (1024 * i < x.offset + x.bytes))
      let held := (maskIdx (pieceCount s.upd.dl.bytes) s.upd.dl.held).foldl (fun h i => if lost i then setBit h i false else h) s.upd.dl.held
      let s := setUpd 1 (bad.foldl (fun s c => evUpdate 3 c 5 s) (saveDownload { s with upd.dl := { s.upd.dl with held := held }, upd.lastPiece := s.now }))
      if late.isEmpty then s else tryVerify (late.foldl (fun s e => if s.upd.state = 1 then saveEvery (takePiece1 e.1 e.2 s) else s) s)

/-- UPD_SCHEDULE of the verified image (R507). -/
def schedule (c : Sched) (s : State) : State :=
  evUpdate 4 0xFF 0 (setUpd 4 (saveDownload { s with upd.sched := some c, upd.waiting := false }))

/-- The schedule ends without an activation: back to VERIFIED. -/
def unschedule (kind reason : Nat) (s : State) : State :=
  evUpdate kind 0xFF reason (setUpd 3 { s with upd.sched := none, upd.waiting := false, spool.drainAll := false })

/-- READY or STANDBY, no MODE_SET in progress, no axis moving (R508). -/
def quietNow (s : State) : Bool :=
  (s.sys.mode == .ready || s.sys.mode == .standby) && s.sys.pend.isNone && s.mot.axes.all (fun a => !axisMoving a)

/-- The spool can take what the ring store holds (R327). -/
def canDrain (s : State) : Bool :=
  s.spool.opened && !(drivesIn s).isEmpty &&
  decide (sumN (s.dlv.streams.map (fun x => x.store.length)) ≤ slotsAll s - undelivered s)

/-- DLV begins to spill every segment, closing the open ones (R327). -/
def drainStore (s : State) : State :=
  { s with spool.drainAll := true,
           dlv.streams := s.dlv.streams.map (fun x => { x with store := (x.store.filter (fun g => !g.items.isEmpty)).map (fun g => { g with closed := true }) }) }

/-- Enter ACTIVATE, or refuse the activation (R508). Mailbox service and the download stop; the schedule stays in the download state until the trial begins (R514). -/
def activate (s : State) : State :=
  if !stepsOk s (s.upd.dl.comps.getD []) then unschedule 6 2 s
  else
    let window := (s.upd.sched.map Sched.confirm).getD 900
    let s := setUpd 5 { s with upd.waiting := false, spool.drainAll := false, upd.boot := { s.upd.boot with window := window } }
    enterMode .activate 4 0 none { s with sys.service := false }

/-- The device can activate (R508). -/
def canActivate (s : State) : Bool := quietNow s && storeTotal s == 0

/-- Station time has reached TIME + WINDOW (R508). -/
def windowOver (s : State) (c : Sched) : Bool := decide (c.time + c.window * 1000000000 ≤ stationTime s)

/-- ACTIVATION_TIME (R508): station time has reached TIME. -/
def activationTime (s : State) : State :=
  match s.upd.sched with
  | none => s
  | some c =>
    if s.upd.state != 4 || stationTime s < c.time || s.upd.waiting then s
    else if canActivate s then activate s
    else if c.policy = 0 then unschedule 5 3 s
    else if windowOver s c then unschedule 5 4 s
    else { s with upd.waiting := true }

/-- ACTIVATION_WINDOW_END (R508). -/
def activationWindowEnd (s : State) : State :=
  match s.upd.sched with
  | some c => if s.upd.state == 4 && s.upd.waiting && windowOver s c then unschedule 5 4 s else s
  | none => s

/-- The test at an entry to READY or STANDBY under WAIT, until TIME + WINDOW (R508). -/
def entryActivate (s : State) : State :=
  match s.upd.sched with
  | some c => if !(s.upd.state == 4 && s.upd.waiting) then s else if windowOver s c then unschedule 5 4 s else if canActivate s then activate s else s
  | none => s

/-- READY or STANDBY with a schedule (R327). -/
def schedQuiet (s : State) : Bool := s.upd.state == 4 && (s.sys.mode == .ready || s.sys.mode == .standby)

/-- A scheduled activation has the ring store spilled, where the spool can take it (R327, R508, R516). DESIGN CHOICE (log 97): DLV begins as soon as the device is in READY or STANDBY with a schedule, so that the store is empty at TIME. While it is not, the device counts as not in READY or STANDBY, so its end is an entry for WAIT. -/
def drainStep (s : State) : State :=
  let q := schedQuiet s
  let want := q && canDrain s
  let s := if want then (if s.spool.drainAll && s.dlv.streams.all (fun x => x.store.all (fun g => g.closed)) then s else drainStore s) else if s.spool.drainAll then { s with spool.drainAll := false } else s
  let block := q && s.upd.waiting && storeTotal s != 0
  let s := if q && s.upd.blocked && !block then { s with sys.entered := true } else s
  if s.upd.blocked = block then s else { s with upd.blocked := block }

/-! ### Boot records: switch-over, trial, rollback (R509 to R513) -/

/-- The fields of Table 15.10 in order, with their CRC-32C. DESIGN CHOICE (log 84): the record has no padding. -/
def recordBytes (s : State) (b : BootRec) : List Byte :=
  let r := leBytes 4 b.seq ++ [b.sel, b.prevSel, b.act, b.step, b.trialBoots].flatMap (leBytes 1) ++ ((List.range 4).map (floorOf { s with upd.boot := b })).flatMap (leBytes 2) ++ leBytes 4 b.window
  r ++ leBytes 4 (crc32c r)

/-- Commit a boot record into the copy that holds the older one (R500). -/
def commitRecord (b : BootRec) (s : State) : State :=
  let b := { b with seq := wrapInc 32 s.upd.boot.seq }
  emit (.flash (0x10000 * (1 - s.upd.copy)) (recordBytes s b)) { s with upd.boot := b, upd.older := some s.upd.boot, upd.copy := 1 - s.upd.copy, upd.wroteAt := s.now + 1 }

/-- A reset interrupts the record whose write began at this instant: the boot ROM uses the other copy, whose CRC is valid (R500, Table 15.11). DESIGN CHOICE (log 97): a record is written within the instant of its commit, so only a reset at the same instant finds it unfinished. -/
def cutRecord (now : Nat) (u : UpdSt) : UpdSt :=
  match u.older with
  | some b =>
    if u.wroteAt != now + 1 then u
    else
      let u := { u with boot := b, older := none, copy := 1 - u.copy, wroteAt := 0 }
      match u.trialOf with
      | some (d, f) => if b.act = 2 then { u with dl := d, saved := some d, fromRecovery := f } else u
      | none => u
  | none => u

/-- SEL of C_k: components 0 to k − 1 from the inactive slot of prev. -/
def selStep (prev k : Nat) : Nat := (List.range k).foldl (fun m c => setBit m c (!(bit prev c))) prev

/-- Commit step k of a switch-over. -/
def commitStep (k : Nat) (s : State) : State :=
  let b := s.upd.boot
  let prev := if b.act = 1 then b.prevSel else b.sel
  commitRecord { b with act := 1, step := k, prevSel := prev, sel := selStep prev k } { s with upd.confirmed := false }

/-- A rollback begins (R511). -/
def beginRollback (reason failed : Nat) (s : State) : State :=
  commitRecord { s.upd.boot with act := 3, step := 0 } { s with upd.reason := reason, upd.failed := failed, upd.confirmed := false }

/-- Reverse the highest component that still differs from PREV_SEL (R511): the component, if one is left. -/
def reverseOne (s : State) : Option Nat × State :=
  let b := s.upd.boot
  match ((List.range 4).filter (fun c => bit b.sel c != bit b.prevSel c)).getLast? with
  | none => (none, s)
  | some c => (some c, commitRecord { b with sel := setBit b.sel c (bit b.prevSel c), step := b.step + 1 } s)

/-- The rollback has reached the old combination (R511). -/
def endRollback (s : State) : State :=
  let s := commitRecord { s.upd.boot with act := 0, step := 0, trialBoots := 0 } s
  let s := raise 0x0C01 s.upd.failed (evUpdate 9 0xFF s.upd.reason s)
  setUpd 0 { s with upd.dl := {}, upd.saved := none, upd.sched := none, upd.trialAt := none, upd.expired := false, upd.fromRecovery := false, upd.failed := 0xFFFF }

/-- UPD_CONFIRM (R512). -/
def confirmTrial (s : State) : State :=
  let s := { s with upd.trialOf := some (s.upd.dl, s.upd.fromRecovery) }
  let floors := (List.range 4).map (fun c => let g := (runningComp s c).gen; if follows 16 (floorOf s c) g then g else floorOf s c)
  let s := commitRecord { s.upd.boot with act := 0, step := 0, trialBoots := 0, floors := some floors } s
  let s := evUpdate 8 0xFF 0 s
  setUpd 0 { s with upd.dl := {}, upd.saved := none, upd.sched := none, upd.trialAt := none, upd.expired := false, upd.fromRecovery := false }

/-- UPD_ABORT (R506). -/
def abortUpdate (s : State) : State :=
  let s := evUpdate 10 0xFF 0 { s with upd.saved := none, upd.sched := none, upd.waiting := false, upd.fresh := 0, upd.late := [], spool.drainAll := false }
  setUpd 0 { s with upd.dl := {} }

end Sys2Proof.Machine
end

