-- ==== Sys2Proof/Machine/StnOps.lean ====
section
/-! DEFINITION. The station bus, the tests of a received frame, commands of the station master, and station time (R475 to R493). -/

namespace Sys2Proof.Machine

open Sys2Proof

/-! ### Station time (R489 to R492) -/

/-- Move station time by −off, by a slew or a step (R491): off is station time minus the reference. -/
def correctTime (off : Int) (s : State) : State :=
  let c := s.time
  let base := c.offset + slewed c s.now
  let slew := decide (off.natAbs < 1000000) || (s.sys.mode.cap && decide (off.natAbs < 100000000))
  if slew then { s with time := { c with offset := base, slew := -off, slewAt := s.now, everSet := true } }
  else { s with time := { c with offset := base - off, slew := 0, slewAt := s.now, everSet := true }, stn.cnt := { s.stn.cnt with steps := satInc 32 s.stn.cnt.steps } }

/-- HOST_TIME sets station time to v as of the doorbell at rung, where the source takes it (R492). -/
def hostTime (v rung : Nat) (s : State) : State :=
  if v = 0 || !(s.time.source == 1 || s.time.state == 0 || s.time.state == 3) then s
  else
    let s := correctTime ((stationAt s rung : Int) - (v : Int)) s
    { s with time := { s.time with state := 1, lastHost := s.now, good := 0 } }

/-- The bus takes part: it is enabled and participation runs (R476). -/
def stnOn (s : State) : Bool := s.stn.up && s.stn.cfg.enable == 1

/-- A valid frame has arrived (Table 16.4). -/
def validFrame (s : State) : State := clearFault 0x0901 0xFFFF { s with stn.lastRx := s.now }

/-- SYNC_MESSAGE (R490, R491): offset is station time minus the grandmaster's. The row's Sync is of the device's own domain. DESIGN CHOICE (log 97): the device asks the node that it follows for a peer-delay exchange at each Sync, since no rule gives the interval. -/
def syncMessage (off : Int) (s : State) : State :=
  if !stnOn s then s
  else
    let s := validFrame s
    if s.time.source != 0 then s
    else
      let good := if off.natAbs ≤ 1000 then s.time.good + 1 else 0
      let s := correctTime off (emit (.peerDelayReq (Config.stationMac).toNat s.time.domain) s)
      { s with time := { s.time with measured := clampI off (-(2 ^ 31)) (2 ^ 31 - 1), good := Nat.min good 8, lastSync := s.now, state := if 8 ≤ good then 2 else s.time.state } }

/-- HOLDOVER (R490). -/
def holdover (s : State) : State :=
  if s.time.state = 2 && decide (s.time.lastSync + 1000000000 ≤ s.now) then { s with time := { s.time with state := 3, good := 0 } } else s

/-- HOST_TIME_DECAY (R492). -/
def hostDecay (s : State) : State :=
  if s.time.state = 1 && decide (s.time.lastHost + 600000000000 ≤ s.now) then { s with time := { s.time with state := 0 } } else s

/-- PEER_DELAY_FRAME (R490). -/
def peerDelay (d : Nat) (s : State) : State :=
  if !stnOn s then s
  else
    let s := validFrame s
    if s.time.source != 0 then s else { s with time := { s.time with delay := Nat.min d (2 ^ 32 - 1) } }

/-! ### Acceptance (R481 to R483) -/

/-- Change the counters of Table 15.5. -/
def stnCount (f : StnCounters → StnCounters) (s : State) : State := { s with stn.cnt := f s.stn.cnt }

/-- The bucket of a source address: its own where it is MASTER_MAC or one of 63 others tracked, else the shared one (R482). -/
def bucketOf (mac : Nat) (s : State) : Nat × State :=
  if mac = s.stn.cfg.mac || s.stn.tracked.contains mac then (mac, s)
  else if s.stn.tracked.length < 63 then (mac, { s with stn.tracked := s.stn.tracked ++ [mac] })
  else (2 ^ 48, s)

/-- Test 1 (R481): take a token. -/
def takeToken (mac : Nat) (s : State) : Bool × State :=
  let (k, s) := bucketOf mac s
  let n := tget 0 k s.stn.spent
  if n < s.stn.cfg.rate then (true, { s with stn.spent := tset 0 k (n + 1) s.stn.spent }) else (false, s)

/-- A stranger's frame (R483). -/
def stranger (mac : Nat) (s : State) : State :=
  let (at', n) := tget (0, 0) mac s.stn.strangers
  if at' != 0 && decide (s.now < at' - 1 + 10000000000) then { s with stn.strangers := tset (0, 0) mac (at', n + 1) s.stn.strangers }
  else post 14 0xFFFF (layout 16 [(0, 1, 5), (4, 4, n + 1), (8, 6, mac)]) { s with stn.strangers := tset (0, 0) mac (s.now + 1, 0) s.stn.strangers }

/-- Test 4 (R481). -/
def freshFrame (f : NspFrame) (s : State) : Bool :=
  match tget none f.srcMac s.stn.peers with
  | some (b, q) =>
    if b = f.srcBoot then follows 32 q f.seq else timely
  | none => timely
where
  /-- A new SRC_BOOT with TIME_VALID must carry a TIME near the device's own synchronised time. -/
  timely : Bool := !(bit f.nflags 0 && (s.time.state == 2 || s.time.state == 3)) || decide (((f.time : Int) - (stationTime s : Int)).natAbs ≤ 2000000000)

/-- The bytes of a frame from VERSION to the end of PAYLOAD (Table 15.1). -/
def nspBytes (f : NspFrame) : List Byte :=
  layout 24 [(0, 1, f.version), (1, 1, f.kind), (2, 1, f.srcNode), (3, 1, f.dstNode), (4, 2, f.payload.length), (6, 2, f.nflags), (8, 4, f.srcBoot), (12, 4, f.seq), (16, 8, f.time)] ++ f.payload

/-- Test 3 (R479, R481). -/
def tagOk (f : NspFrame) (s : State) : Bool := f.tag == nspTag (s.sec.stationKey.getD 0) f.dstMac f.srcMac (nspBytes f)

/-- TYPE is one of Table 15.2. -/
def nspType (k : Nat) : Bool := [1, 2, 3, 4, 0x10, 0x11, 0x12, 0x13].contains k

/-- Test 5 (R480, R481): a COMMAND needs a station master, and RESPONSE, EVENT and UPD_NEED are never accepted. -/
def permitted (f : NspFrame) (s : State) : Bool :=
  if f.kind = 1 then true
  else if f.kind = 2 then f.srcMac == s.stn.cfg.mac && s.stn.cfg.master != 255
  else if f.kind = 0x10 || f.kind = 0x11 || f.kind = 0x13 then f.srcMac == s.stn.cfg.mac
  else false

/-- The tests of R481 in order. A frame for another node is dropped before them (log 71). -/
def nspTest (f : NspFrame) (s : State) : Bool × State :=
  let here := f.dstNode == s.stn.cfg.nodeId || f.dstNode == 255
  if !stnOn s then (false, s)
  else
    let s := { s with stn.lastRx := s.now }
    if !here then (false, s)
    else if f.version != 1 || !nspType f.kind then (false, stnCount (fun c => { c with other := satInc 32 c.other }) s)
    else
      match takeToken f.srcMac s with
      | (false, s) => (false, stnCount (fun c => { c with rateDrop := satInc 32 c.rateDrop }) s)
      | (true, s) =>
        if s.sec.stationKey.isNone then (false, stnCount (fun c => { c with noKey := satInc 32 c.noKey }) s)
        else if !tagOk f s then (false, stranger f.srcMac (stnCount (fun c => { c with strTag := satInc 32 c.strTag }) s))
        else if !freshFrame f s then (false, stranger f.srcMac (stnCount (fun c => { c with strRep := satInc 32 c.strRep }) s))
        else if !permitted f s then (false, stranger f.srcMac (stnCount (fun c => { c with strSrc := satInc 32 c.strSrc }) s))
        else (true, validFrame (stnCount (fun c => { c with rx := satInc 32 c.rx }) { s with stn.peers := tset none f.srcMac (some (f.srcBoot, f.seq)) s.stn.peers }))

/-- Run f on the state of an accepted frame of one type. -/
def onAccepted (kind : Nat) (f : NspFrame) (g : State → State) (s : State) : State :=
  match nspTest f s with
  | (true, s) => if f.kind = kind then g s else s
  | (false, s) => s

/-! ### Frames sent (R484 to R486, R504) -/

/-- The STATUS payload (Table 15.3). -/
def statusPayload (s : State) : List Byte :=
  let m := s.sys.mode
  let d := s.upd.dl
  layout 32 [(0, 1, m.code), (1, 1, s.upd.state), (2, 1, s.time.state),
             (3, 1, b2n (s.upd.boot.act == 2) + 2 * b2n (m == .hold && holdActive s) + 4 * b2n m.cap), (4, 4, d.id), (8, 4, receivedCount d 1),
             (0x0C, 4, pieceCount d.bytes), (0x10, 8, (Config.serial).toNat), (0x18, 4, (runningComp s 2).version),
             (0x1C, 2, Nat.min s.flt.sinceReset 0xFFFF), (0x1E, 2, s.upd.result)]

/-- STATUS_FRAME_SEND (R484): each second, and after a change of mode or update state. -/
def sendStatus (s : State) : State :=
  if !(s.stn.statusDue || decide (s.stn.lastStatus + 1000000000 ≤ s.now)) || !nspReady s then s
  else nspSend (2 ^ 48 - 1) 1 255 (statusPayload s) { s with stn.statusDue := false, stn.lastStatus := s.now }

/-- Fragments of a response: offset and bytes. -/
def fragments : Nat → Nat → List Byte → List (Nat × List Byte)
  | 0, _, _ => []
  | n + 1, o, l => if l.length ≤ 1460 then [(o, l)] else (o, l.take 1460) :: fragments n (o + 1460) (l.drop 1460)

/-- Send every fragment of a RESPONSE (R485). -/
def sendResponse (id : Nat) (rsp : List Byte) (s : State) : State :=
  (fragments 4 0 rsp).foldl (fun s e => nspMaster 3 (layout 8 [(0, 4, id), (4, 2, e.1), (6, 2, rsp.length)] ++ e.2) s) s

/-- The station master's command has its response (R486). -/
def stationAnswer (s : State) : State :=
  let m := s.host.mbs.getD 4 {}
  match s.stn.busyCmd with
  | some id => if m.state == .done then sendResponse id m.rsp { s with stn.lastCmd := some (id, m.rsp), stn.busyCmd := none } else s
  | none => s

/-- NSP_COMMAND (R485, R486). -/
def stationCommand (f : NspFrame) (s : State) : State :=
  let id := field f.payload 0 4
  let m := s.host.mbs.getD 4 {}
  match s.stn.lastCmd with
  | some (i, rsp) => if i = id then sendResponse id rsp s else latch id m s
  | none => latch id m s
where
  /-- A new command is latched, or dropped while an earlier one is BUSY. -/
  latch (id : Nat) (m : Mailbox) (s : State) : State :=
    if m.state == .busy then stnCount (fun c => { c with overrun := satInc 32 c.overrun }) s
    else
      let l : Latched := { opcode := field f.payload 4 2, flags := field f.payload 6 2, length := field f.payload 8 2, params := slice f.payload 12 (field f.payload 8 2) }
      { s with host.mbs := s.host.mbs.set 4 { m with state := .busy, seq := wrapInc 32 m.seq, token := id, rung := s.now, latched := l, area := s.hbm }, host.order := s.host.order ++ [4],
               host.stnServed := true, stn.busyCmd := some id }

/-! ### Updates over the bus (R501, R502, R507) -/

/-- Update download runs in the modes of R42 and in RECOVERY. -/
def updOn (m : Mode) : Bool := m.all || m == .recovery

/-- UPD_ANNOUNCE (R501, R504). -/
def announce (f : NspFrame) (s : State) : State :=
  let id := field f.payload 0 4
  if !updOn s.sys.mode || !mayStart id s then s
  else
    let s := startDownload id (field f.payload 4 4) s
    sendNeed s

/-- Taking piece i leads from s to r by a write to the flash: the piece itself, or the download state (R502, R503). -/
def flashed (d : Download) (i : Nat) (s r : State) : Bool := (!(bit d.held i) && (decide (i < 64) || (d.comps.isSome && needed d i))) || r.upd.saved != s.upd.saved

/-- UPD_PIECE of 1 KiB (R502); a flash failure fails the update (R505), and a piece that comes during VERIFYING is kept until that has its outcome (R516). -/
def nspPiece (f : NspFrame) (flashOk : Bool) (s : State) : State :=
  let i := field f.payload 4 4
  let d := s.upd.dl
  let other := stnCount (fun c => { c with other := satInc 32 c.other }) s
  if !updOn s.sys.mode then s
  else if s.upd.state = 0 || field f.payload 0 4 != d.id || pieceCount d.bytes ≤ i || field f.payload 8 2 != pieceBytes d i || f.payload.length != 12 + pieceBytes d i then other
  else if s.upd.state = 2 then { s with upd.lastPiece := s.now, upd.late := s.upd.late ++ [(i, slice f.payload 12 (pieceBytes d i))] }
  else if s.upd.state != 1 then s
  else
    let s := { s with upd.lastPiece := s.now }
    let r := saveEvery (takePiece1 i (slice f.payload 12 (pieceBytes d i)) s)
    if !flashOk && flashed d i s r then updFail 6 s else tryVerify r

/-- UPD_SCHEDULE as a request or a frame gives it (R507, Table 11.11). -/
def schedOf (time policy window confirm : Nat) : Sched :=
  { time := time, policy := if policy < 2 then policy else 0, window := clampN window 1 604800, confirm := clampN confirm 60 86400 }

/-- UPD_SCHEDULE of the bus (R507). -/
def nspSchedule (f : NspFrame) (s : State) : State :=
  let p := f.payload
  if (s.upd.state == 3 || s.upd.state == 4) && s.sys.mode.all && field p 0 4 == s.upd.dl.id then
    schedule (schedOf (field p 8 8) (field p 4 1) (field p 16 4) (field p 20 4)) s
  else s

/-- UPD_NEED_SEND (R504). -/
def needDue (s : State) : State :=
  if s.upd.state = 1 && updOn s.sys.mode && decide (s.upd.lastPiece + 30000000000 ≤ s.now) then { sendNeed s with upd.lastPiece := s.now } else s

/-- STN_LOST (Table 16.4): the row's own occurrence says that no beacon came either (log 72). -/
def stnLost (s : State) : State :=
  if stnOn s && decide (s.stn.lastRx + 5000000000 ≤ s.now) && !faultActive s 0x0901 0xFFFF then
    let s := raise 0x0901 0xFFFF s
    if s.time.state = 2 then { s with time := { s.time with state := 3, good := 0 } } else s
  else s

end Sys2Proof.Machine
end

