-- ==== Sys2Proof/Machine/BootOps.lean ====
section
/-! DEFINITION. RESET, BOOT and what survives them (R39 to R54, R332, R514, R522, R532, R548, R549). -/

namespace Sys2Proof.Machine

/-- The kinds of reset: what each discards differs (R36, R43, R489, R525). -/
inductive ResetKind where
  /-- POR_N and brown-out. -/
  | por
  /-- SYS_RST_N, and XTAL_25 stopped: the energy counters stay (R36, R549). -/
  | sys
  /-- DEV_RESET. -/
  | dev
  /-- THERMAL_TRIP and CORE_DBE: as DEV_RESET with TARGET 0, but the energy counters stay (R36). -/
  | fault
  /-- The expiry of CONFIRM_WINDOW and a rollback: station time stays set as well (R489). -/
  | internal
deriving DecidableEq, Repr

/-- The energy counters of a reset (R36, R43): POR and DEV_RESET clear them. What an open stream still owed goes with the stream. -/
def meterAfter (k : ResetKind) (m : MeterSt) : MeterSt :=
  if k = .por || k = .dev then { ticks := m.ticks, lastTick := m.lastTick } else { m with lineLeft := [], rowLeft := [] }

/-- Secrets without IDENTITY live in the key registers only (Table 16.7). The debug port locks again, and the open in progress ends (R532). -/
def secAfter (c : SecSt) : SecSt :=
  let c := { c with debugOpen := false, opener := 6, openerSeq := 0, nonce := none }
  if c.identity.isSome then c else { c with stationKey := none, ownerToken := none, spoolWrap := none }

/-- Update state kept in the boot flash (R503, R514): the boot record tells how far a switch-over, a trial or a rollback has come, and before its first step the schedule stands. -/
def updAfter (u : UpdSt) : UpdSt :=
  let u := { u with fresh := 0, pieces := [], late := [], lastPiece := 0, trialAt := none, expired := false, waiting := false, confirmed := false, blocked := false, wroteAt := 0, trialOf := none }
  let a := u.boot.act
  if a = 1 then { u with state := 5 }
  else if a = 2 then { u with state := 6 }
  else if a = 3 then { u with state := if u.state = 0 then 6 else u.state }
  else if u.state = 1 then { u with dl := u.saved.getD {}, state := if u.saved.isSome then 1 else 0 }
  else if u.state = 7 then { u with dl := u.saved.getD {} }
  else if u.state = 5 then { u with state := if u.sched.isSome then 4 else 3 }
  else u

/-- Station time after a reset (R72, R489): it counts from POR_N high with TIME_UNSYNC set. -/
def timeAfter (k : ResetKind) (tPor : Nat) (c : TimeSt) (now : Nat) : TimeSt :=
  if k = .internal then { offset := c.offset + slewed c now, everSet := c.everSet } else { offset := -(tPor : Int) }

/-- Training at a boot that no row reports (Table 16.4): a retired channel trains again and is readmitted, or fails again, which is open (log 5). -/
def retrain (s : State) : Nat := if s.mem.badChannels = 0 then 0 else s.mem.badChannels &&& (Config.freeValue s.free).toNat

/-- RESET ends the coordinator's beacons. -/
def stopBeacons (s : State) : State := if s.stn.beacons = 0 then s else emit (.beacons 0) s

/-- RESET discards everything but what the manual keeps (R43): the pins, the boot flash, OTP and the secure store, and, by the kind, energy and time. DESIGN CHOICE (log 84): a DEV_RESET's request for RECOVERY (R52) is dropped by any other reset that comes before the boot it asked for. -/
def enterReset (k : ResetKind) (s : State) : State :=
  let y := s.sys
  let encs := s.tr.encs.map (fun (e : Encoder) => { a := e.a, b := e.b : Encoder })
  let axes := s.mot.axes.map (fun (a : Axis) => { switches := a.switches.map (fun (w : Switch) => { high := w.high : Switch }) : Axis })
  let sys : SysSt := { mode := .reset, prev := y.mode, tEnter := stationTime s, porN := y.porN, sysRstN := y.sysRstN, perstN := y.perstN, xtalStop := y.xtalStop, brownOut := y.brownOut,
                       thermal := y.thermal, toRecovery := if k = .dev then y.toRecovery else false, bootCause := if k = .dev then 6 else 3, tPor := y.tPor }
  { now := s.now, sys := sys, tr := { encs := encs }, mot := { axes := axes }, flt := { log := s.flt.log, next := s.flt.next, atBoot := s.flt.atBoot }, sec := secAfter s.sec, upd := updAfter (if k = .por || k = .sys || k = .fault then cutRecord s.now s.upd else s.upd),
    mem := { spares := s.mem.spares, repair := s.mem.repair, badChannels := retrain s }, meter := meterAfter k s.meter, time := timeAfter k y.tPor s.time s.now,
    out := (stopBeacons (stopMux (stopVex (stopBridges (stopRefClocks s))))).out, free := if s.mem.badChannels = 0 then s.free else s.free + 1, pending := s.pending }

/-- HBM_CHANNEL of every channel that fails training at this boot (R524, R527). -/
def raiseChannels (s : State) : State := (maskIdx 16 s.mem.badChannels).foldl (fun s c => channelBad c s) s

/-- Entries for faults raised before this boot (R528). -/
def logAtBoot (s : State) : State :=
  let l := s.flt.atBoot
  l.foldl (fun s e => logFault e.1 e.2 5 (faultData 1 []) s) { s with flt.atBoot := [] }

/-- A boot that finds the erase-pending mark completes the erase and does not open the port (R532). -/
def finishErase (s : State) : State :=
  if s.sec.erasePending then { s with sec := { s.sec with stationKey := none, ownerToken := none, spoolWrap := none, identity := none, erased := true, noOwner := false, erasePending := false } } else s

/-- The boot ROM at a record with ACT TRIAL (R513): one more boot, or a rollback after the third. -/
def trialBoot (s : State) : State :=
  let b := s.upd.boot
  if b.act != 2 then s
  else if 3 ≤ b.trialBoots then beginRollback 7 0xFFFF s
  else commitRecord { b with trialBoots := b.trialBoots + 1 } s

/-- The device draws what it draws at each boot, and its converters count from here (R256, R478, R524). -/
def startBoot (s : State) : State :=
  let s := { s with sys := { s.sys with mode := .boot, prev := .reset, tEnter := stationTime s, tPerst := s.now },
                    stn := { s.stn with boot := (Config.random s.free).toNat % 2 ^ 32, seq := 1 }, free := s.free + 1,
                    aux := { s.aux with convs := s.aux.convs.map (fun c => { c with lastRun := s.now, lastConv := s.now }) } }
  raiseChannels (trialBoot (finishErase (logAtBoot s)))

/-- Nothing holds the device in RESET: BOOT follows at once (Table 2.3, R522, R548, R549). -/
def tryBoot (s : State) : State :=
  let y := s.sys
  if y.mode == .reset && y.porN && y.sysRstN && !y.xtalStop && !y.brownOut && !y.thermal then startBoot s else s

/-- An internal reset: RESET, then BOOT at once. -/
def resetTo (k : ResetKind) (s : State) : State := tryBoot (enterReset k s)

/-- The reset that ends ACTIVATE (R332, R510): HST, every setting, open stream and register stay; only the firmware starts again. Participation stops (R476). -/
def bootFromActivate (s : State) : State :=
  let s := configAll (axesReset (stopAna (stopRefClocks s)))
  { s with sys := { s.sys with mode := .boot, prev := .activate, tEnter := stationTime s, service := false, bootCause := 4, afterActivate := true, toRecovery := false },
           stn := { s.stn with up := false, boot := (Config.random s.free).toNat % 2 ^ 32, seq := 1 }, free := s.free + 1 }

/-! ### Pins and supplies -/

/-- POR_N goes low (R44). -/
def porFall (s : State) : State := enterReset .por { s with sys.porN := false }

/-- Entries whose tag fails at boot are dropped and their count is logged (R528). The manual names no code for that entry: it is free (log 5). -/
def dropTags (bad : Nat) (s : State) : State :=
  let keep := ((List.range s.flt.log.length).zip s.flt.log).filter (fun (e : Nat × LogEntry) => !(bit bad e.1))
  let n := s.flt.log.length - keep.length
  if n = 0 then s
  else logFault ((Config.freeValue s.free).toNat % 2 ^ 16) 0xFFFF 0 (faultData n []) { s with flt.log := keep.map Prod.snd, free := s.free + 1 }

/-- The instant POR_N is taken to rise (R72, R489): station time starts from 0; the HBM channels that fail training are retired for this boot (R527). Each of them raises HBM_CHANNEL at this boot. -/
def porEnd (badChannels badTags : Nat) (s : State) : State :=
  if s.sys.mode != .reset then s
  else
    let s := { s with sys.tPor := s.now, time := { offset := -(s.now : Int) }, mem.badChannels := badChannels % 2 ^ 16 }
    if (tryBoot s).sys.mode = .boot then tryBoot (dropTags badTags s) else s

/-- POR_N rises (R51). -/
def porRise (badChannels badTags : Nat) (s : State) : State := if s.sys.porN then s else porEnd badChannels badTags { s with sys.porN := true }

def sysRstFall (s : State) : State := if s.sys.sysRstN then enterReset .sys { s with sys.sysRstN := false } else s

def sysRstRise (s : State) : State := if s.sys.sysRstN then s else tryBoot { s with sys.sysRstN := true }

/-- BROWN_OUT and its recovery act as POR_N low and high (R548). -/
def brownOutStart (s : State) : State := enterReset .por { s with sys.brownOut := true }

def brownOutEnd (s : State) : State := if s.sys.brownOut then porEnd s.mem.badChannels 0 { s with sys.brownOut := false } else s

/-- XTAL_25 stops and runs again (R549). -/
def xtalLost (s : State) : State := enterReset .sys { s with sys.xtalStop := true }

def xtalBack (s : State) : State := if s.sys.xtalStop then porEnd s.mem.badChannels 0 { s with sys.xtalStop := false } else s

/-- THERMAL_TRIP (R522): RESET, held until every sensor reads below 95 °C. -/
def thermalTrip (sensor : Nat) (s : State) : State :=
  if s.sys.mode = .reset then { s with sys.thermal := true }
  else
    let s := raise 0x0703 (sensor % 8) s
    enterReset .fault { s with sys.thermal := true }

def thermalRelease (s : State) : State := if s.sys.thermal then tryBoot { s with sys.thermal := false } else s

/-! ### Boot stages (R51 to R53) -/

/-- The values of the running CFG (R55, R258, R328): into both banks, with the counts of its shading records. -/
def takeCfg (c : CfgPart) (s : State) : State :=
  let s := loadTargets { s with banks := { s.banks with live := c.bank, staged := c.bank }, host := { s.host with subsys := c.subsys } }
  match c.cal with
  | none => s
  | some (n, t, live) => { s with cal := { s.cal with kinds := nmod {} s.cal.kinds 0 (fun k => { k with count := n, tLast := t }), liveCount := live } }

/-- MAILBOX_SERVICE_START (R51, R53): CFG goes into both banks, but for a boot that ends ACTIVATE (R510), and the held doorbells are served. In RECOVERY the recovery firmware starts it, with no CFG (R52). -/
def serviceStart (cfg : Option CfgPart) (s : State) : State :=
  if !(s.sys.mode == .boot || s.sys.mode == .recovery) || s.sys.service then s
  else
    let s : State := match cfg with
      | some c => if s.sys.afterActivate || s.sys.mode = .recovery then s else takeCfg c s
      | none => s
    { s with sys := { s.sys with service := true },
             host := { s.host with mbs := s.host.mbs.map (fun m => if m.state == .queued then { m with state := .busy } else m) } }

/-- The STANDBY or RECOVERY that ends BOOT (R52): participation runs (R476), a stored download starts again (R501), and in STANDBY the reference clocks of the ports (R143). -/
def leaveBoot (m : Mode) (s : State) : State :=
  let cause := s.sys.bootCause
  let s := if m = .standby then startRefClocks s else s
  let s := if s.upd.state = 1 then { s with upd.lastPiece := s.now } else s
  enterMode m cause 0 none { s with stn := { s.stn with up := true, lastRx := s.now }, sys := { s.sys with afterActivate := false, toRecovery := false, bootCause := 3 } }

/-- A schedule found at boot whose TIME has passed (R514). -/
def scheduleAtBoot (s : State) : State :=
  match s.upd.sched with
  | some c =>
    if s.upd.state == 4 && decide (c.time ≤ stationTime s) && !s.upd.waiting then (if c.policy = 0 then unschedule 5 3 s else if windowOver s c then unschedule 5 4 s else { s with upd.waiting := true }) else s
  | none => s

/-- Where RECOVERY has another inactive slot than the download wrote into, that slot holds nothing of it: its read-back fails and fetches the pieces again (R500, R505). -/
def otherSlot (before s : State) : State :=
  if inactiveSlot before = inactiveSlot s then s else { s with upd.dl := { s.upd.dl with body := [] }, upd.saved := s.upd.saved.map (fun d => { d with body := [] }) }

/-- BOOT_COMPLETE (R51, R52, R509, R511, R513). A boot whose switch-over or rollback still runs is not complete, nor is one to STANDBY before mailbox service runs (Table 2.4). -/
def bootComplete (slotOk : Bool) (s : State) : State :=
  let b := s.upd.boot
  if s.sys.mode != .boot then s
  else if b.act = 1 && !(b.step == 4 && s.upd.confirmed) then s
  else if b.act = 3 && b.sel != b.prevSel then s
  else
    let back := b.act = 3 && s.upd.fromRecovery
    let rec' := !slotOk || s.sys.toRecovery || back
    if !rec' && !s.sys.service then s
    else
    let s := if b.act = 1 then setUpd 6 (commitRecord { b with act := 2, trialBoots := 1 } { s with upd.sched := none }) else if b.act = 3 then endRollback s else s
    let s := { s with upd.noSet := !slotOk }
    let s := if rec' then otherSlot s (leaveBoot .recovery s) else scheduleAtBoot (leaveBoot .standby s)
    if s.upd.boot.act = 2 && s.sys.mode = .standby then setUpd 6 { s with upd.trialAt := some s.now } else s

/-- DEV_RESET acts (R332, R515). -/
def devReset (recovery : Bool) (s : State) : State :=
  let slot := s.upd.newSlot
  let s := if s.sys.mode = .recovery && !recovery && s.upd.state == 3 then
      let b := s.upd.boot
      setUpd 6 (commitRecord { b with act := 2, step := 4, prevSel := b.sel, sel := if slot = 1 then 15 else 0, trialBoots := 0 } { s with upd.fromRecovery := true })
    else s
  resetTo .dev { s with sys.toRecovery := recovery }

/-! ### Switch-over, rollback and expiry (R509, R511, R513) -/

/-- SWITCH_OVER_STEP (R509, R510): in ACTIVATE the first step is committed and the device resets into BOOT; in BOOT the present combination is confirmed and the next step is committed. -/
def switchStep (ok : Bool) (cfg : Option Bank) (s : State) : State :=
  let b := s.upd.boot
  if s.sys.mode = .activate then bootFromActivate (evUpdate 7 0 0 (commitStep 1 s))
  else if s.sys.mode != .boot || b.act != 1 || s.upd.confirmed then s
  else if !ok then beginRollback 2 (b.step - 1) s
  else
    let s := if 2 ≤ b.step then evUpdate 7 (b.step - 1) 0 s else s
    if b.step < 4 then commitStep (b.step + 1) s
    else
      let s := { s with upd.confirmed := true }
      match cfg with
      | some k => { s with banks.staged := k }
      | none => s

/-- ROLLBACK_STEP (R511): reversing SC resets into BOOT. -/
def rollbackStep (s : State) : State :=
  if s.sys.mode != .boot || s.upd.boot.act != 3 then s
  else
    match reverseOne s with
    | (some 0, s) => resetTo .internal s
    | (_, s) => s

/-- CONFIRM_WINDOW_EXPIRY (R513). -/
def windowExpiry (s : State) : State :=
  match s.upd.trialAt with
  | some t =>
    if s.upd.state != 6 || s.now < t + s.upd.boot.window * 1000000000 then s
    else if s.sys.mode == .ready || s.sys.mode == .standby then resetTo .internal s
    else { s with upd.expired := true }
  | none => s

end Sys2Proof.Machine
end

