-- ==== Sys2Proof/Machine/CalRunOps.lean ====
section
/-! DEFINITION. Shading and lamp runs on the Bench: the shuttle, the lamp levels, the sweeps and the results (R223 to R249). -/

namespace Sys2Proof.Machine

/-! ### The shuttle (R224, R227, R247) -/

/-- The Bench axis moves to a position at a speed; an axis that cannot move stays where it is. -/
def shuttle (goal : Int) (speed : Nat) (s : State) : State :=
  let n := s.proof.benchAxis
  let a := axisOf s n
  let m := { a.set with vmax := clampN speed 1 (vmaxLimit a.cfg) }
  let dir := (Frac.sub (Frac.ofInt goal) (axisNow s n).1.1).sgn
  if 4 ≤ n || a.state = 0 || a.state = 4 || limitAhead a dir then s
  else modAxis n (fun a => { a with state := 2, homing := none, set := m, target := goal, req := some { target := some goal, set := m } }) s

/-- Start of the sweep, its end and its speed. -/
def runStart (r : CalRun) : Int := if r.kind = 0 then r.shade.runStart else r.lamp.runStart
def runEnd (r : CalRun) : Int := if r.kind = 0 then r.shade.parkPos else r.lamp.whiteEnd
def runSpeed (r : CalRun) : Nat := if r.kind = 0 then r.shade.speed else r.lamp.speed

/-- An accepted run begins (R227 step 1, R371): the lamps go to 0 and the shuttle moves to RUN_START; the ports in the image now take part (R259); an earlier move of the axis is superseded. -/
def startRun (r : CalRun) (s : State) : State :=
  let n := s.proof.benchAxis
  let s := completeAll (fun p => p.opcode == 0x0A02 && p.res == n) jobFailed 1 s
  shuttle (runStart r) (runSpeed r) (overrideLamps (fun _ => 0) { s with cal.run := some { r with tDark := s.now, ports := runPorts s }, lamp.abort := false })

/-- The run's first session takes the limits, and its kind's pending result goes (R235, R241). -/
def latchRun (r : CalRun) (s : State) : State :=
  if r.basis.isSome then s
  else
    let s := setRun (fun r => { r with limits := s.cal.limits }) s
    if r.kind = 0 then { s with cal.pendShade := none } else { s with cal.pendLamp := none }

/-- The session of a sweep is armed at RUN_START (R227 step 2, R247). -/
def armRun (r : CalRun) (s : State) : State :=
  let s := latchRun r (startSession s)
  let s := setRun (fun r => { r with phase := .armed, xStart := correctedAt s.tr s.now }) s
  let s := if r.kind = 1 then overrideLamps (fun _ => 0) s else s
  shuttle (runEnd r) (runSpeed r) s

/-- At DARK_END the strings return to their live targets through the override (R227 step 4). -/
def whiteLevel (r : CalRun) (s : State) : State :=
  if r.kind = 0 && !r.white && decide (r.shade.darkEnd * 2 ^ 32 ≤ (axisOf s s.proof.benchAxis).pos) then
    setRun (fun r => { r with white := true }) (overrideLamps (targetIn s.banks.live) s)
  else s

/-- The last sweep is over: the override ends and the result is computed (R227 step 7). -/
def toCompute (s : State) : State := endOverride (setRun (fun r => { r with phase := .compute }) s)

/-- The shuttle has stopped at the end of a sweep (R227 step 6, R247): a measurement that did not fit moves to the next one. -/
def endSweep (r : CalRun) (s : State) : State :=
  if r.basis.isNone then abortCal chkAborted s
  else if r.kind = 0 then toCompute s
  else
    match r.meas with
    | none => toCompute s
    | some m =>
      let s := setRun (fun r => { r with phase := .approach, meas := none, todo := if m.string = 512 then r.todo else m.string :: r.todo }) s
      shuttle r.lamp.runStart r.lamp.speed { s with tr.closed := true }

/-- A run that an event other than a mode change ends: capture in BENCH goes on, but for a fault stop of the axis that paces it (R436). -/
def abortInBench (s : State) : State :=
  let s := abortCal chkAborted s
  if s.sys.mode != .bench || s.sys.stopping.isSome || (pacedAxis s).any (fun n => (axisOf s n).state == 4) then s
  else if s.tr.session then { s with tr.closed := false } else startSession s

/-- The run takes what steps are due (R227, R239, R247). DESIGN CHOICE (log 97): AXIS_STOP on the bench axis ends the run ABORTED where it is IMMEDIATE, and with PROFILE the run goes on from where the shuttle comes to rest. -/
def calStep (s : State) : State :=
  match s.cal.run with
  | none => s
  | some r =>
    let a := axisOf s s.proof.benchAxis
    let rest := !axisMoving a
    if s.sys.mode != .bench || s.lamp.abort || a.state = 4 then abortInBench s
    else
      match r.phase with
      | .approach => if !rest then s else if s.tr.session then { s with tr.closed := true } else armRun r s
      | .armed => if rest then endSweep r s else s
      | .sweep =>
        let s := whiteLevel r s
        if rest then endSweep r s else if r.kind = 1 && r.meas.isNone then toCompute s else s
      | .compute => s

/-! ### Results -/

/-- The shading result as CAL_STATUS lists it (R233, R234, R259). -/
def listShading (r : CalRun) (tiles : List ((Nat × Nat) × List ColCal × Nat)) (s : State) : State :=
  let out := tiles.flatMap (fun e => (e.2.1.filter (fun c => c.checks != 0)).map (fun c => (e.1.1 * 5120 + c.col, e.1.2, c.checks)))
  let out := (out.foldr (fun e l => insertBy (fun x => 4 * x.1 + x.2.1) e l) []).take 256
  let skipped := (enabledPorts s).filter (fun p => !(tiles.any (fun e => e.1.1 == p)))
  let c := s.cal
  let fail := tiles.find? (fun e => e.2.2 != 0)
  let cal := { c with outList := out, skipped := sumN (skipped.map (fun p => 2 ^ p)), shadeParams := r.shade,
                      failPort := (fail.map (fun e => e.1.1)).getD 255, failSlot := (fail.map (fun e => e.1.2)).getD 255,
                      failOut := (fail.map (fun e => (e.2.1.filter (fun c => c.checks != 0)).length)).getD 0 }
  { s with cal := cal }

/-- AUTO_APPLY of a shading result (Table 7.2): a basis that has changed discards it (R243). -/
def autoGrade (r : CalRun) (s : State) : State :=
  if r.shade.autoApply = 0 then s
  else match startGrade 0 s with
    | .ok s => s
    | .error _ => { s with cal.pendShade := none }

/-- SHADING_RESULT (R230 to R234, R240, R241). -/
def shadingResult (s : State) : State :=
  match s.cal.run with
  | none => s
  | some r =>
    if r.kind != 0 || r.phase != .compute || !s.gate.isEmpty then s
    else
      let tiles := (calTiles s r).map (fun e => (e, tileResult s r e.1 e.2))
      let checks := tiles.foldl (fun m e => m ||| e.2.2) 0
      let s := listShading r tiles { s with cal.run := none }
      let done := fun (status : Nat) (s : State) =>
        complete (ofOpRes 0x0601 0) status checks 0 (calDone 0 status checks 0 (s.cal.failSlot) (s.cal.failPort) (s.cal.failOut) s)
      if checks != 0 then done 0x20 (calResult 0 0x20 checks s)
      else
        let recs := tiles.flatMap (fun e => (e.2.1.filter (fun c => c.checks == 0)).map (fun c => (4 * (e.1.1 * 5120 + c.col) + e.1.2, c.record)))
        let recs := recs.foldr (fun e l => insertBy Prod.fst e l) []
        let strips := (List.range 8).map (fun i => stripValue s r recs (i / 4) (i % 4))
        let res : ShadeResult := { records := recs, strips := strips, basis := r.basis.getD {}, planes := r.shade.planes, steps := r.shade.steps }
        done 0 (autoGrade r (calResult 0 0 0 { s with cal.pendShade := some res }))

/-- LAMP_RESULT (R248, R249). The completion's RESULT names the lowest failing string. -/
def lampResult (s : State) : State :=
  match s.cal.run with
  | none => s
  | some r =>
    if r.kind != 1 || r.phase != .compute || !s.gate.isEmpty then s
    else
      let ts := lampTrims s r
      let bad := (ts.filter (fun e => !e.2.2)).map Prod.fst
      let s := { s with cal.run := none, cal.lampSkipped := r.skipped ++ (r.dones.map (fun e => e.1.string)).filter (skipString s), cal.failString := minN 0xFFFF bad }
      if !bad.isEmpty then
        complete (ofOpRes 0x0601 1) 0x20 chkTrim (minN 0xFFFF bad) (calDone 1 0x20 chkTrim 0 0 255 0 (calResult 1 0x20 chkTrim s))
      else
        let trims := ts.map (fun e => (e.1, e.2.1))
        let s := if r.lamp.autoApply = 1 && bankFree s then applyTrims trims s else { s with cal.pendLamp := some trims }
        complete (ofOpRes 0x0601 1) 0 0 0 (calDone 1 0 0 0 0 255 0 (calResult 1 0 0 s))

end Sys2Proof.Machine
end

