-- ==== Sys2Proof/Machine/Settle.lean ====
section
/-! DEFINITION. What follows at once from a command's effect: the resets, shut-offs and HOLD that faults call for, the ends of sessions, the steps of a calibration run, and the answers that need no command's meaning. -/

namespace Sys2Proof.Machine

open Sys2Proof

/-- The opcodes of the Irvel Command Set (Tables 11.1 to 11.11). -/
def knownOpcodes : List Nat :=
  [0x0001, 0x0002, 0x0101, 0x0102, 0x0110, 0x0111, 0x0112, 0x0201, 0x0202, 0x0203, 0x0204, 0x0301, 0x0302, 0x0303, 0x0304,
   0x0401, 0x0402, 0x0403, 0x0404, 0x0501, 0x0502, 0x0503, 0x0504, 0x0601, 0x0602, 0x0603, 0x0604] ++
  [0x0701, 0x0702, 0x0703, 0x0801, 0x0802, 0x0803, 0x0804, 0x0805, 0x0806, 0x0901, 0x0902, 0x0903, 0x0904, 0x0905, 0x0906, 0x0907,
   0x0A01, 0x0A02, 0x0A03, 0x0A04, 0x0A05, 0x0A06, 0x0B01, 0x0B02, 0x0B03, 0x0B04, 0x0B05] ++
  [0x0C01, 0x0C02, 0x0C10, 0x0C11, 0x0C12, 0x0C13, 0x0C14, 0x0C15, 0x0D01, 0x0D02, 0x0D10, 0x0D11, 0x0E01, 0x0E02]

/-- Requests that are answered before any command's own rule (R343 step 1, R485): an unknown OPCODE, a request of the station master in RECOVERY or beyond 1456 bytes. -/
def answerPlain (src : Nat) (s : State) : State :=
  let m := s.host.mbs.getD src {}
  if !(s.sys.service && m.state == .busy && itsTurn s src) then s
  else if src = 4 && s.sys.mode = .recovery then respond (latchedReq s src) 0x12 s.sys.mode.code [] s
  else if !(knownOpcodes.contains m.latched.opcode) then respond (latchedReq s src) 0x10 0 [] s
  else if src = 4 && 1456 < m.latched.length then respond (latchedReq s src) 0x11 1456 [] s
  else s

/-- Every PENDING frame that is due has been written once, so the responses that waited for them are written (R397). -/
def lateAnswers (s : State) : State :=
  if s.lamp.slices.any (fun e => e.2.pend.isSome && !e.2.written) then s
  else (List.range 5).foldl (fun s i => giveAnswer i s) s

/-- Every source in turn, as often as a held order can need (R53). -/
def answerAll (s : State) : State :=
  if s.host.order.isEmpty then s
  else (List.range 5).foldl (fun s _ => (List.range 5).foldl (fun s i => answerPlain i s) s) s

/-- What the faults of this step call for (R518): RESET, GROUP_OFF, HOLD. -/
def demands (s : State) : State :=
  if s.flt.resetReq then resetTo .fault s
  else
    let s := if s.flt.groupReq.isEmpty then s else shutGroups s
    match s.flt.holdReq with
    | some c => enterHold c { s with flt.holdReq := none }
    | none => s

/-- The vibration channel is bad, or good again (R86): EV_AUX tells it once. A channel bound in place of another is STALE for Transit until its first result (R474). -/
def vibCheck (s : State) : State :=
  let s := if boundVib s = s.tr.vibBound then s else { s with tr.vibBound := boundVib s, tr.vibFrom := if s.tr.vibBound.isSome then s.now + 1 else s.tr.vibFrom }
  if !(transitOn s.sys.mode && decide (s.tr.cfg.vibChannel < 4)) then (if s.tr.vibHeld = 0 then s else { s with tr.vibHeld := 0 })
  else
    let c := (boundVib s).getD 0xFFFF
    let a := auxCh s c
    let bad := a.ovr || a.suspect || a.stale || (s.tr.vibFrom != 0 && a.tEnd.all (fun t => decide (t + 1 ≤ s.tr.vibFrom)))
    if bad && s.tr.vibHeld = 0 then evAux 6 c { s with tr.vibHeld := 1, tr.vB := 0 }
    else if !bad && s.tr.vibHeld != 0 then { s with tr.vibHeld := 0, tr.vB := 0 }
    else s

/-- Delivery's own follow-ups: a requested transport stop begins (R311, R440), spilling ends at SPILL_MARK (R307), the store is drained for an activation (R327, R508), STORE_OVERFLOW clears. -/
def deliveryStep (s : State) : State :=
  let s := if s.dlv.proofStop && s.sys.mode == .proof && s.mot.scan && s.mot.cycle.isNone then startCut false s else s
  let s := drainStep s
  let s := if s.spool.spilling && !(overMark s) && !s.spool.drainAll then { s with spool.spilling := false } else s
  if s.flt.active.isEmpty then s else overflowOver s

/-- The tests at an entry to READY or STANDBY (R508, R513). -/
def entryStep (s : State) : State :=
  if !s.sys.entered then s
  else
    let s := { s with sys.entered := false }
    if s.upd.expired then resetTo .internal s else entryActivate s

/-- Work in progress that reads or writes the HBM stack (R25): exposures, lines and bolts in flight, transfers to and from the drives, jobs and load-area reads. What merely lies in the stack asks for nothing. -/
def hbmBusy (s : State) : Bool :=
  !s.gate.isEmpty || !s.aln.lines.isEmpty || s.dlv.streams.any (fun x => !x.work.isEmpty || !x.row.isEmpty || !x.accLines.isEmpty) || !s.spool.cmds.isEmpty || s.dlv.jobs.any (fun j => j.state == 1) || !s.px.loads.isEmpty || !s.upd.pieces.isEmpty

/-- A request takes the stack out of self-refresh (R25). -/
def wakeHbm (s : State) : State := if hbmBusy s then touchHbm s else s

/-- The host link is idle in STANDBY (Table 2.2): no request, no event and no change of mode is under way. -/
def linkIdle (s : State) : Bool :=
  s.sys.mode == .standby && decide (0 < s.host.rate) && s.sys.pend.isNone && s.host.order.isEmpty && s.host.outstanding.isEmpty && s.host.evq.hold.isEmpty

/-- The coordinator sends beacons while the bus takes part under PLCA with NODE_ID 0, with NODE_COUNT opportunities a cycle (R476, R477). -/
def beaconStep (s : State) : State :=
  let c := s.stn.cfg
  let w := if stnOn s && c.access == 1 && c.nodeId == 0 then c.nodeCount else 0
  if w = s.stn.beacons then s
  else emit (.beacons w) { s with stn.beacons := w, stn.beaconsTo := if w = 0 then s.now + 1 else s.stn.beaconsTo }

/-- The link enters L1 when idle, and is in L0 else (Table 2.2). -/
def linkStep (s : State) : State := { s with host.l1 := linkIdle s }

/-- All of it, in the order of R518 and R539. -/
def settle (s : State) : State :=
  let s := watchSpeed (vibCheck (demands s))
  let s := deliveryStep s
  let s := if sessionOver s then endSession s else s
  let s := demands (calStep (finishForces 80 s))
  linkStep (beaconStep (vexStep (auxStep (bridgeStep (wakeHbm (stationAnswer (answerAll (lateAnswers (entryStep s)))))))))

/-- The state after a command at instant t whose effect on s is e: what the step itself called for follows at once. The time base and the queue are the machine's own: no effect moves them. -/
def after (t : Nat) (s e : State) : State := { settle e with now := Nat.max s.now t, pending := s.pending }

/-- The form of every meaning: the instant, the effect, then what follows at once. -/
def run (t : Nat) (f : State → State) (s : State) : Host.Outcome State Fault Refusal := .next (after t s (f (s.at t)))

end Sys2Proof.Machine
end

