-- ==== Sys2Proof/Machine/Ad2Cmds.lean ====
section
/-! DEFINITION. The conversions of AD2: vibration, calibration, axis supplies, housekeeping and channels (R423, R459, R460, R522, R523). -/

namespace Sys2Proof.Machine

open Sys2Proof

/-! ### Vibration (R85, R86, R460) -/

/-- The bound channel gives Transit one sample of the bar's acceleration. -/
def vibSample (raw : Int) (s : State) : State :=
  match boundVib s with
  | none => s
  | some c =>
    let s := vibCheck (publish c raw (s.now - 1000) s)
    let a := auxCh s c
    if !(transitOn s.sys.mode) || s.tr.vibHeld != 0 || a.ovr || a.suspect || a.stale then s
    else
      let u := barUpdate s.tr.cfg s.tr.dB s.tr.vB a.value
      { s with tr.dB := u.1, tr.vB := u.2, tr.tVib := s.now }

/-! ### Axis supplies (R423) -/

/-- A result of VMn; one with OVR leaves the last good value. -/
def supplyReading (n : Nat) (raw : Int) (s : State) : State :=
  let v := internalValue s (0x44 + n) raw
  if 4 ≤ n || (axisOf s n).cfg.enable = 0 || v.2 then s else modAxis n (fun a => { a with vm := v.1, vmTime := s.now }) s

/-! ### Die temperatures (R522) -/

/-- The die temperature: the highest of the eight, Q16.16 °C. -/
def dieTemp (s : State) : Int := s.flt.temps.foldl (fun (a b : Int) => if a < b then b else a) (s.flt.temps.getD 0 0)

/-- Degrees in Q16.16. -/
def deg (n : Nat) : Int := (n : Int) * 65536

/-- EV_TEMP (Table 11.14). -/
def evTemp (kind sensor limit : Nat) (s : State) : State :=
  post 13 sensor (layout 16 [(0, 1, kind), (2, 2, ofS 16 (sarRound (s.flt.temps.getD sensor 0) 12)), (4, 2, limit * 16)]) s

/-- Every axis makes a fault stop. -/
def stopEveryAxis (s : State) : State := [0, 1, 2, 3].foldl (fun s n => faultStop n s) s

/-- WARN, HIGH and CRITICAL of one reading, and their re-arming 5 °C below. -/
def tempKinds (n : Nat) (s : State) : State :=
  let v := s.flt.temps.getD n 0
  let low := fun (l : Nat) => decide (dieTemp s ≤ deg (l - 5))
  let s := { s with flt.warned := s.flt.warned && !low 95, flt.highed := s.flt.highed && !low 105, flt.crited := s.flt.crited && !low 115 }
  let s := if deg 95 < v && !s.flt.warned then evTemp 1 n 95 { s with flt.warned := true } else s
  let s := if deg 105 < v && !s.flt.highed then evTemp 2 n 105 { s with flt.highed := true, flt.wasHigh := true } else s
  if deg 115 < v && !s.flt.crited then
    stopEveryAxis (raise 0x0702 n (evTemp 3 n 115 { s with flt.crited := true, flt.wasHigh := true }))
  else s

/-- TEMP_HIGH after 100 ms of readings above 105 °C, with the hottest sensor as its resource. -/
def tempHigh (s : State) : State :=
  if dieTemp s ≤ deg 105 then { s with flt.aboveSince := 0 }
  else if s.flt.aboveSince = 0 then { s with flt.aboveSince := s.now + 1 }
  else if s.flt.aboveSince + 100000000 ≤ s.now + 1 && !(s.flt.active.any (fun a => a.code == 0x0701)) then
    raise 0x0701 (s.flt.temps.findIdx (fun v => v == dieTemp s)) s
  else s

/-- A reading of a die sensor. -/
def dieReading (n : Nat) (raw : Int) (s : State) : State :=
  if 8 ≤ n then s
  else
    let s := { s with flt.temps := s.flt.temps.set n (internalValue s (0x48 + n) raw).1 }
    let s := tempHigh (tempKinds n s)
    let s := if dieTemp s < deg 100 then clearFaults 0x0702 (clearFaults 0x0701 s) else s
    if s.flt.wasHigh && decide (dieTemp s < deg 90) then evTemp 4 n 90 { s with flt.wasHigh := false } else s

/-! ### Rails (R523, Table 17.7) -/

/-- Operating limits of VDD_CORE, VDD_IO18 and AVDD in 0.1 mV. -/
def railLimits (n : Nat) : Int × Int := if n = 0 then (7125, 7875) else if n = 1 then (17100, 18900) else (47500, 52500)

/-- A reading of a rail. -/
def railReading (n : Nat) (raw : Int) (s : State) : State :=
  if 3 ≤ n then s
  else
    let v := (internalValue s (0x41 + n) raw).1
    let l := railLimits n
    let s := { s with aux.rails := s.aux.rails.set n v }
    if decide (v * 10000 < l.1 * 65536) || decide (l.2 * 65536 < v * 10000) then
      let k := s.flt.railBad.getD n 0 + 1
      let s := { s with flt.railBad := s.flt.railBad.set n k, flt.railGood := s.flt.railGood.set n 0 }
      if 3 ≤ k && !(faultActive s 0x0704 n) then raise 0x0704 n s else s
    else
      let g := s.flt.railGood.getD n 0
      let s := { s with flt.railBad := s.flt.railBad.set n 0, flt.railGood := s.flt.railGood.set n (if g = 0 then s.now + 1 else g) }
      if g != 0 && decide (g + 100000000 ≤ s.now + 1) then clearFault 0x0704 n s else s

/-! ### The row -/

/-- The index of the 1 µs slot that ends now (R459). DESIGN CHOICE (log 84): slots count from the start of the time base. -/
def slotIndex (s : State) : Nat := s.now / 1000 - 1

/-- It belongs to vibration: index 0 modulo 10 while a channel is bound. -/
def vibSlot (s : State) : Bool := (boundVib s).isSome && slotIndex s % 10 == 0

/-- The number of a sequence slot among the sequence slots. -/
def seqIndex (s : State) : Nat := if (boundVib s).isSome then slotIndex s - slotIndex s / 10 - 1 else slotIndex s

/-- It belongs to a self-calibration of AD2: every seventeenth sequence slot. DESIGN CHOICE (log 84): those whose number is 0 modulo 17. -/
def calSlot (s : State) : Bool := (auxConv s 2).running.isSome && seqIndex s % 17 == 0

/-- A reading that is taken once per period is due. -/
def readingDue (period last now : Nat) : Bool := last == 0 || decide (last - 1 + period ≤ now)

/-- The axis supply that is due, and the housekeeping reading: die temperatures 0 to 7, then the rails. DESIGN CHOICE (log 84): the lowest number goes first. -/
def supplyDue (s : State) : Option Nat :=
  (List.range 4).find? (fun n => (axisOf s n).cfg.enable == 1 && readingDue 100000 (s.aux.supplyAt.getD n 0) s.now)

def houseDue (s : State) : Option Nat := (List.range 11).find? (fun n => readingDue 10000000 (s.aux.houseAt.getD n 0) s.now)

/-- The slot that ends now converts this use: the slots go to the uses in the order of R459. -/
def ad2Ends (u : Ad2Use) (s : State) : Bool :=
  anaOn s.sys.mode && decide (s.aux.slotAt ≤ slotIndex s) &&
  match u with
  | .vibration => vibSlot s
  | .calibration r => !(vibSlot s) && calSlot s && (match (auxConv s 2).running with | some used => used.contains r | none => false)
  | .supply n => !(vibSlot s) && !(calSlot s) && supplyDue s == some n
  | .dieTemp n => !(vibSlot s) && !(calSlot s) && supplyDue s == none && decide (n < 8) && houseDue s == some n
  | .rail n => !(vibSlot s) && !(calSlot s) && supplyDue s == none && houseDue s == some (8 + n)
  | .channel c => !(vibSlot s) && !(calSlot s) && supplyDue s == none && houseDue s == none && nextAd2 s == some c && decide (auxDue (auxCh s c) ≤ s.now)

/-- The slot has been used, and a periodic reading is due again a period later. -/
def slotUsed (u : Ad2Use) (s : State) : State :=
  let s := modConv 2 (fun k => { k with lastConv := s.now }) { s with aux.slotAt := slotIndex s + 1 }
  match u with
  | .supply n => { s with aux.supplyAt := s.aux.supplyAt.set n (s.now + 1) }
  | .dieTemp n => { s with aux.houseAt := s.aux.houseAt.set n (s.now + 1) }
  | .rail n => { s with aux.houseAt := s.aux.houseAt.set (8 + n) (s.now + 1) }
  | _ => s

/-- AD2_CONVERSION (R459). A retired AD2 gives no result (Table 16.4). -/
def ad2Conversion (u : Ad2Use) (raw : Int) (s : State) : State :=
  if !ad2Ends u s then s
  else
    let dead := (auxConv s 2).retired
    let s := slotUsed u s
    match u with
    | .vibration => vibSample raw s
    | .calibration _ => s
    | .channel c => ad2Channel c raw s
    | .supply n => if dead then s else supplyReading n raw s
    | .dieTemp n => if dead then s else dieReading n raw s
    | .rail n => if dead then s else railReading n raw s

def execAd2Conversion (t : Nat) (use : Ad2Use) (raw : Int) (s : State) : Host.Outcome State Fault Refusal := run t (ad2Conversion use raw) s

end Sys2Proof.Machine
end

