-- ==== Sys2Proof/Machine/AuxCmds.lean ====
section
/-! DEFINITION. The auxiliary sensing commands (Table 11.9) and the events of AD0, AD1 and their channels (chapter 14). -/

namespace Sys2Proof.Machine

open Sys2Proof

/-- RATE as the read form shows it (R460). -/
def rateShown (s : State) (c : Nat) : Nat := if boundVib s = some c then 100000000 else (auxCh s c).cfg.rate

/-- AUX_CFG (R448, R449). A channel that is enabled again while its last conversion still runs starts after it (R73). -/
def cmdAuxCfg : Cmd where
  opcode := 0x0B01
  len := fixedLen 24
  modes := Mode.all
  run := fun r s =>
    let c := r.u8 0
    if 16 ≤ c then .error (.tableFull 11)
    else if shuttingDown s c && (r.flag 1 == 1 || s.aux.reopens.any (fun e => e.2.1 == c)) then
      .ok { accepted := some c, act := fun s => { s with aux.reopens := s.aux.reopens ++ [(reqKey r, c, auxCfgOf s r)] } }
    else .ok { act := fun s => applyAuxCfg c (auxCfgOf s r) s }
  readLen := some (fixedLen 4)
  read := fun r s =>
    if 16 ≤ r.u8 0 then .error (.tableFull 11)
    else
      let g := (auxCh s (r.u8 0)).cfg
      .ok (layout 24 [(0, 1, r.u8 0), (1, 1, g.enable), (2, 1, g.conv), (3, 1, g.source), (4, 1, g.gain), (5, 1, g.filter), (6, 1, g.notch),
        (7, 1, g.excite), (8, 4, rateShown s (r.u8 0)), (0x0C, 1, g.iex), (0x0D, 1, g.pinA), (0x0E, 1, g.pinB), (0x0F, 1, g.burnout),
        (0x10, 1, g.caRange), (0x11, 1, g.shared), (0x12, 2, g.every), (0x14, 2, g.limit)])

def execAuxCfg (t src : Nat) (s : State) : Host.Outcome State Fault Refusal := run t (serve cmdAuxCfg src) s

/-- The 16 entries of an AUX_SEQ request: channel and SETTLE. -/
def seqEntries (r : Req) : List (Nat × Nat) := (List.range 16).map (fun i => (r.u8 (4 + 4 * i), Nat.min (r.u16 (6 + 4 * i)) 1000))

/-- AUX_SEQ in force: the conversions in progress are discarded, each converter starts its new order, and the channels of AD0 and AD1 hold until they are visited (R452, R474). -/
def applyAuxSeq (q : AuxSeq) (s : State) : State :=
  let s := { s with aux.seq := q }
  let s := [0, 1].foldl (fun s x => switchTo x ((visits s x).head?.map Prod.fst) s) s
  (chansOn s 0 ++ chansOn s 1).foldl (fun s c => auxStale c s) s

/-- AUX_SEQ (R452). -/
def cmdAuxSeq : Cmd where
  opcode := 0x0B02
  len := fixedLen 68
  modes := Mode.all
  run := fun r _ =>
    let q : AuxSeq := { mode := r.enum 0 2 0, slots := clampN (r.u8 1) 1 16, entries := seqEntries r }
    if (q.entries.take q.slots).any (fun e => decide (16 ≤ e.1)) then .error (.tableFull 11) else .ok { act := applyAuxSeq q }
  readLen := some (fixedLen 0)
  read := fun _ s =>
    .ok (leBytes 1 s.aux.seq.mode ++ leBytes 1 s.aux.seq.slots ++ zeros 2 ++ s.aux.seq.entries.flatMap (fun e => leBytes 1 e.1 ++ zeros 1 ++ leBytes 2 e.2))

def execAuxSeq (t src : Nat) (s : State) : Host.Outcome State Fault Refusal := run t (serve cmdAuxSeq src) s

/-- AUX_READ (R469). -/
def cmdAuxRead : Cmd where
  opcode := 0x0B03
  len := fixedLen 4
  modes := Mode.all
  run := fun r s =>
    .ok { data := leBytes 8 (stationTime s) ++ (maskIdx 16 (r.u16 0)).flatMap (fun c =>
            let a := auxCh s c
            leBytes 4 (ofS 32 a.value) ++ leBytes 2 (auxStatus a % 32) ++ leBytes 2 (auxAge s.now a)) }

def execAuxRead (t src : Nat) (s : State) : Host.Outcome State Fault Refusal := run t (serve cmdAuxRead src) s

/-- AUX_POLY (R464). -/
def cmdAuxPoly : Cmd where
  opcode := 0x0B04
  len := fixedLen 64
  modes := Mode.all
  run := fun r _ =>
    let tc := r.u8 1
    let tc := if tc < 16 || tc = 0xFE then tc else 0xFF
    if 16 ≤ r.u8 0 then .error (.tableFull 11)
    else .ok { act := modAux (r.u8 0) (fun a => { a with tempCh := tc, poly := some ((List.range 15).map (fun i => f32Clean 0x7F7FFFFF (r.u32 (4 + 4 * i)))) }) }
  readLen := some (fixedLen 4)
  read := fun r s =>
    if 16 ≤ r.u8 0 then .error (.tableFull 11)
    else
      let a := auxCh s (r.u8 0)
      .ok (leBytes 1 (r.u8 0) ++ leBytes 1 a.tempCh ++ zeros 2 ++ (polyOf a).flatMap (leBytes 4))

def execAuxPoly (t src : Nat) (s : State) : Host.Outcome State Fault Refusal := run t (serve cmdAuxPoly src) s

/-- Mean time between two conversions of a channel, ns: 1 ÷ RATE, 10 µs for the bound channel, or the length of the order that visits it, shared by its slots (Table 11.9's bound). -/
def convInterval (s : State) (c : Nat) : Nat :=
  let a := auxCh s c
  let vs := visits s a.cfg.conv
  let own := (vs.filter (fun v => v.2.1 == c)).length
  if boundVib s = some c then 10000
  else if a.cfg.conv = 2 || oneChannel vs || own = 0 then ratePeriod a.cfg
  else
    let before := (vs.getLast?.toList ++ vs).map (fun v => (muxOf s v.2.1).currents)
    let settle := fun (e : (Nat × Nat × Nat) × (Nat × Nat × Nat × Nat × Nat)) => if (muxOf s e.1.2.1).currents = e.2 then e.1.2.2 else Nat.max e.1.2.2 500000
    ceilN (sumN ((vs.zip before).map (fun e => settle e + filterLatency (auxCh s e.1.2.1).cfg))) own

/-- An AUX_CAL of ZERO or SPAN starts to average. -/
def startAuxCal (c pt : Nat) (v : Int) (n : Nat) (s : State) : State :=
  let bound := s.now + n * convInterval s c + filterLatency (auxCh s c).cfg + 10000000
  let q : AuxCal := { point := pt, value := v, samples := n, ys := [], deadline := bound }
  modAux c (fun a => { a with cal := some q }) s

/-- AUX_CAL (R466). -/
def cmdAuxCal : Cmd where
  opcode := 0x0B05
  len := fixedLen 12
  modes := Mode.all
  run := fun r s =>
    let c := r.u8 0
    let pt := r.enum 1 3 0
    let n := clampN (r.u16 8) 16 4096
    if (auxCh s c).cal.isSome then .error (.busy 0x0B)
    else if 16 ≤ c then .error (.tableFull 11)
    else if pt = 2 then .ok { accepted := some c, act := fun s => complete (ofOpRes 0x0B05 c) 0 0 0 (startTrim c {} s) }
    else
      .ok { accepted := some c, act := startAuxCal c pt (r.s32 4) n }

def execAuxCal (t src : Nat) (s : State) : Host.Outcome State Fault Refusal := run t (serve cmdAuxCal src) s

/-- AUX_CAL_COMPLETE (R466). -/
def execAuxCalComplete (t channel : Nat) (s : State) : Host.Outcome State Fault Refusal := run t (endAuxCal channel) s

/-- A read of AUXn_STATUS latches AUXn_VALUE (R468). -/
def auxStatusRead (c : Nat) (s : State) : State :=
  if 16 ≤ c then s
  else
    let a := auxCh s c
    emit (.readData (0x100 + 8 * c) (leBytes 2 (auxStatus a) ++ leBytes 2 (auxAge s.now a))) (modAux c (fun a => { a with latch := a.value }) s)

def execAuxStatusRead (t channel : Nat) (s : State) : Host.Outcome State Fault Refusal := run t (onBar (auxStatusRead channel)) s

/-- DELTA_SIGMA_CONVERSION (R453). -/
def execDeltaSigmaConversion (t conv : Nat) (raw secondary : Int) (s : State) : Host.Outcome State Fault Refusal :=
  run t (deltaSigma conv raw secondary) s

/-- EXCITATION_OVERLOAD (R454): the source switches off, its channels hold, and a visit to one of them is discarded. -/
def overload (n : Nat) (s : State) : State :=
  if !(anaOn s.sys.mode) || decide (2 ≤ n) || vexLevel s n = 0 then s
  else
    let s := { s with aux.overload := s.aux.overload.set n true }
    let s := ((List.range 16).filter (fun c => (auxCh s c).cfg.enable == 1 && vexOf (auxCh s c).cfg == some n)).foldl
      (fun s c => modAux c (fun a => { a with keepFrom := Nat.max a.keepFrom s.now }) (auxStale c s)) s
    raise 0x0503 n s

def execExcitationOverload (t vex : Nat) (s : State) : Host.Outcome State Fault Refusal := run t (overload vex) s

/-- STALE_EVENT (R470). -/
def staleEvent (c : Nat) (s : State) : State :=
  let a := auxCh s c
  if a.cfg.enable == 1 && a.stale && !(bit a.raised 3) && (auxConv s a.cfg.conv).running.isNone && decide (a.staleSince + 1000000000 ≤ s.now) && anaOn s.sys.mode then
    evAux 4 c (modAux c (fun a => { a with raised := a.raised ||| 8 }) s)
  else s

def execStaleEvent (t channel : Nat) (s : State) : Host.Outcome State Fault Refusal := run t (staleEvent channel) s

/-- AUX_OPEN (Table 16.4): OPEN continuously for 10 s. -/
def auxOpenFault (c : Nat) (s : State) : State :=
  let a := auxCh s c
  if a.open' && decide (a.openSince + 10000000000 ≤ s.now) && !(faultActive s 0x0504 c) then raise 0x0504 c s else s

def execAuxOpen (t channel : Nat) (s : State) : Host.Outcome State Fault Refusal := run t (auxOpenFault channel) s

/-- SELF_CALIBRATION_DUE (R256). When both ΔΣ converters are due, AD0 goes first (R253). -/
def selfCalDue (x : Nat) (s : State) : State :=
  if anaOn s.sys.mode && decide (x < 3) && autoDue s x && (auxConv s x).running.isNone && !(x == 1 && autoDue s 0 && (auxConv s 0).running.isNone) then
    askSelfCal x s
  else s

def execSelfCalibrationDue (t conv : Nat) (s : State) : Host.Outcome State Fault Refusal := run t (selfCalDue conv) s

/-- SELF_CALIBRATION_COMPLETE (R252 to R255). -/
def execSelfCalibrationComplete (t conv : Nat) (ranges : List CalRange) (s : State) : Host.Outcome State Fault Refusal :=
  run t (endSelfCal conv ranges) s

/-- AUX_ADC_RETIRED (Table 16.4). -/
def adcRetired (x : Nat) (s : State) : State :=
  let k := auxConv s x
  if !(anaOn s.sys.mode) || k.retired then s
  else if x < 2 && s.aux.suspect && decide (k.suspectSince + 60000000000 ≤ s.now) then retireConv x s
  else if x = 2 && decide (k.lastConv + 10000000 ≤ s.now) then retireConv x s
  else s

def execAuxAdcRetired (t conv : Nat) (s : State) : Host.Outcome State Fault Refusal := run t (adcRetired conv) s

end Sys2Proof.Machine
end

