-- ==== Sys2Proof/Machine/CalCmds.lean ====
section
/-! DEFINITION. The calibration commands (Tables 11.4 and 11.5) and the ends of runs and blocks (chapter 7). -/

namespace Sys2Proof.Machine

open Sys2Proof

/-- KIND of a calibration command; an undefined code takes the first. -/
def kindOf (r : Req) : Nat := r.enum 0 6 0

/-- LENGTH of CAL_RUN (Table 11.4). -/
def calRunLen (r : Req) : Option Nat := fixedLen (if kindOf r = 0 then 48 else if kindOf r = 1 then 92 else 8) r

/-- Whole pitches between two Bench positions (R226). -/
def pitchesBetween (s : State) (a b : Int) : Nat := ((b - a).toNat * benchRatio s) / s.tr.cfg.pitch

/-- CAL_RUN for SHADING as applied (R225, R226, Table 7.2). -/
def shadeOf (r : Req) (s : State) : ShadeParams :=
  let above := fun (p x : Int) => if x ≤ p then p + 1 else x
  let from' := fun (p x : Int) => if x < p then p else x
  let rs := r.s32 4
  let ds := above rs (r.s32 8)
  let de := above ds (r.s32 0x0C)
  let ws := from' de (r.s32 0x10)
  let we := above ws (r.s32 0x14)
  let cl := from' we (r.s32 0x18)
  { runStart := rs, darkStart := ds, darkEnd := de, whiteStart := ws, whiteEnd := we, clearPos := cl, parkPos := above cl (r.s32 0x1C),
    speed := clampN (r.u32 0x20) 256 (2 ^ 24), nDark := Nat.min (clampN (r.u32 0x24) 64 65536) (pitchesBetween s ds de),
    nWhite := Nat.min (clampN (r.u32 0x28) 64 65536) (pitchesBetween s ws we), settle := Nat.min (r.u8 0x2C) 100, planes := r.u8 0x2D % 16,
    steps := clampN (r.u8 0x2E) 1 16, autoApply := r.flag 0x2F }

/-- CAL_RUN for LAMP as applied (R246). -/
def lampOf (r : Req) (s : State) : LampParams :=
  let rs := r.s32 4
  let ws := if r.s32 8 ≤ rs then rs + 1 else r.s32 8
  { runStart := rs, whiteStart := ws, whiteEnd := if r.s32 0x0C ≤ ws then ws + 1 else r.s32 0x0C, speed := clampN (r.u32 0x10) 256 (2 ^ 24),
    probe := clampN (r.u16 0x14) 256 65535, lines := clampN (r.u16 0x16) 16 4096, settle := Nat.min (r.u8 0x18) 100, autoApply := r.flag 0x19,
    strings := (mappedStrings s).filter (fun i => r.flag 0x1A == 1 || bit (field r.params 0x1C 64) i) }

/-- The modes of a kind (Table 7.1). -/
def kindModes (k : Nat) (m : Mode) : Bool := if k < 2 then m == .bench else if k = 2 then m == .inline || m == .proof else m.all

/-- CAL_RUN for RUNNING_WHITE: the blocks of its planes go, and their next ones re-reference (R250). -/
def rereference (planes : Nat) (s : State) : State :=
  (List.range 8).foldl (fun s i => if bit planes (i % 4) then { s with px.rw := nmod {} s.px.rw i (fun w => { w with lines := 0, n := 0, sum := 0, ready := [], ref := 0 }) } else s) s

/-- The schedule of a converter (R256). -/
def setSchedule (r : Req) (x : Nat) (s : State) : State := modConv x (fun k => { k with autoPeriod := Nat.min (r.u16 6) 3600, autoDt := Nat.min (r.u8 5) 50 }) s

/-- CAL_RUN (R223, R225, R246, R250, R256). -/
def cmdCalRun : Cmd where
  opcode := 0x0601
  len := calRunLen
  modes := Mode.all
  run := fun r s =>
    let k := kindOf r
    let x := k - 3
    if !kindModes k s.sys.mode then .error (.wrongMode s.sys.mode 0)
    else if k < 2 && (s.cal.run.isSome || s.cal.grade.isSome) then .error (.busy 6)
    else if k = 0 then .ok { accepted := some 0, act := fun s => startRun { kind := 0, shade := shadeOf r s } { s with cal.shadeParams := shadeOf r s } }
    else if k = 1 then .ok { accepted := some 1, act := fun s => startRun { kind := 1, lamp := lampOf r s, todo := (lampOf r s).strings } s }
    else if k = 2 then .ok { act := rereference (r.u8 4) }
    else if (auxConv s x).running.isSome then .error (.busy 6)
    else if r.flag 4 = 0 then .ok { act := setSchedule r x }
    else .ok { accepted := some k, act := fun s => askSelfCal x (setSchedule r x s) }

def execCalRun (t src : Nat) (s : State) : Host.Outcome State Fault Refusal := run t (serve cmdCalRun src) s

/-- The part of CAL_STATUS that every kind has (R257); while a result is still awaited CHECKS reads 0 (R236). -/
def statusCommon (s : State) (k : Nat) : List Byte :=
  let c := s.cal.kinds.getD k {}
  let st := calState s k
  layout 24 [(0, 4, c.count), (4, 4, if k = 0 then s.cal.liveCount else 0), (8, 8, c.tLast), (0x10, 1, b2n c.unsync), (0x11, 1, st.1), (0x12, 1, st.2.1), (0x13, 1, st.2.2),
             (0x14, 2, c.status), (0x16, 2, if st.1 = 1 then 0 else c.checks)]

/-- The part of SHADING (Table 11.5). -/
def statusShading (s : State) : List Byte :=
  let p := s.cal.shadeParams
  let l := s.cal.outList
  layout 56 [(0, 4, ofS 32 p.runStart), (4, 4, ofS 32 p.darkStart), (8, 4, ofS 32 p.darkEnd), (0x0C, 4, ofS 32 p.whiteStart), (0x10, 4, ofS 32 p.whiteEnd), (0x14, 4, ofS 32 p.clearPos),
      (0x18, 4, ofS 32 p.parkPos), (0x1C, 4, p.speed), (0x20, 4, p.nDark), (0x24, 4, p.nWhite), (0x28, 1, p.settle), (0x29, 1, p.planes), (0x2A, 1, p.steps), (0x2B, 1, p.autoApply),
      (0x2C, 1, s.cal.failPort), (0x2D, 1, s.cal.failSlot), (0x2E, 2, s.cal.failOut), (0x30, 2, l.length), (0x34, 4, s.cal.skipped)]
    ++ slice (l.flatMap (fun e => layout 8 [(0, 4, e.1), (4, 1, e.2.1), (6, 2, e.2.2)])) 0 2048

/-- The part that a kind has of its own (Table 11.5). -/
def statusOwn (s : State) (k : Nat) : List Byte :=
  let c := s.cal.kinds.getD k {}
  if k = 0 then statusShading s
  else if k = 1 then layout 4 [(0, 2, s.cal.failString)] ++ leBytes 64 (sumN ((s.cal.lampSkipped.eraseDups).map (fun i => 2 ^ i)))
  else if k = 2 then layout 4 [(0, 1, c.side), (1, 1, c.slot)]
  else layout 4 [(0, 1, c.failRange)]

/-- CAL_STATUS (R257, R367). -/
def cmdCalStatus : Cmd where
  opcode := 0x0602
  len := fixedLen 4
  modes := Mode.all
  run := fun r s => .ok { data := statusCommon s (kindOf r) ++ statusOwn s (kindOf r) }

def execCalStatus (t src : Nat) (s : State) : Host.Outcome State Fault Refusal := run t (serve cmdCalStatus src) s

/-- CAL_LIMITS as a request gives it, clamped (Table 7.3). -/
def limitsOf (r : Req) : CalLimits :=
  let gmin := Nat.min (r.u32 0) (2 ^ 24 - 1)
  { gainMin := gmin, gainMax := clampN (r.u32 4) gmin (2 ^ 24 - 1), offMin := clampI (r.s32 8) (-8192) 0, offMax := clampI (r.s32 0x0C) 0 32768, step := clampN (r.u32 0x10) 1000 1000000,
    noise := clampN (r.u32 0x14) 100 250000, outMax := Nat.min (r.u16 0x18) 5120, trimMin := clampN (r.u16 0x1A) 8192 32768, trimMax := clampN (r.u16 0x1C) 32768 65535,
    auxOff := Nat.min (r.u16 0x1E) 10000, auxGain := Nat.min (r.u16 0x20) 50000, auxNoise01 := clampN (r.u16 0x22) 1 1000, auxNoise2 := clampN (r.u16 0x24) 1 5000 }

/-- CAL_LIMITS (R235). -/
def cmdCalLimits : Cmd where
  opcode := 0x0603
  len := fixedLen 40
  modes := Mode.all
  run := fun r _ => .ok { act := fun s => { s with cal.limits := limitsOf r } }
  readLen := some (fixedLen 0)
  read := fun _ s =>
    let l := s.cal.limits
    .ok (layout 40 [(0, 4, l.gainMin), (4, 4, l.gainMax), (8, 4, ofS 32 l.offMin), (0x0C, 4, ofS 32 l.offMax), (0x10, 4, l.step), (0x14, 4, l.noise), (0x18, 2, l.outMax),
      (0x1A, 2, l.trimMin), (0x1C, 2, l.trimMax), (0x1E, 2, l.auxOff), (0x20, 2, l.auxGain), (0x22, 2, l.auxNoise01), (0x24, 2, l.auxNoise2)])

def execCalLimits (t src : Nat) (s : State) : Host.Outcome State Fault Refusal := run t (serve cmdCalLimits src) s

/-- CAL_APPLY for LAMP (R249): START writes the trims into the staged bank, so it waits for none that is bound. -/
def applyLamp (action : Nat) (s : State) : Except Err Done :=
  match action, s.cal.pendLamp with
  | 0, none => .error (.implausible 0)
  | 0, some ts => if bankFree s then .ok { waits := fun s => !(armPendings (stageTrims ts s)).isEmpty, act := applyTrims ts } else .error (.busy 1)
  | 1, _ => .ok { act := fun s => { s with cal.pendLamp := none } }
  | _, _ => .ok {}

/-- CAL_APPLY for SHADING (R242, R243). -/
def applyShading (action steps : Nat) (s : State) : Except Err Done :=
  if action = 0 then
    if s.cal.grade.isSome then .error (.busy 6)
    else
      match startGrade steps s with
      | .error 0 => .error (.implausible 0)
      | .error c => .ok (Done.refused { Err.implausible c with code := c } (fun s => { s with cal.pendShade := none }))
      | .ok _ => .ok { act := fun s => match startGrade steps s with | .ok s => s | .error _ => s }
  else if action = 1 then .ok { act := fun s => { s with cal.pendShade := none } }
  else .ok { act := fun s => { s with cal.grade := s.cal.grade.map (fun g => { g with finish := true }) } }

/-- CAL_APPLY (R242, R249, R366). -/
def cmdCalApply : Cmd where
  opcode := 0x0604
  len := fixedLen 4
  modes := Mode.all
  run := fun r s =>
    let action := r.enum 1 3 0
    if r.u8 0 = 0 then applyShading action (r.u8 2) s else if r.u8 0 = 1 then applyLamp action s else .error (.implausible 0)

def execCalApply (t src : Nat) (s : State) : Host.Outcome State Fault Refusal := run t (serve cmdCalApply src) s

/-- SHADING_RESULT (R240). -/
def execShadingResult (t : Nat) (s : State) : Host.Outcome State Fault Refusal := run t shadingResult s

/-- LAMP_RESULT (R248). -/
def execLampResult (t : Nat) (s : State) : Host.Outcome State Fault Refusal := run t lampResult s

/-- RUNNING_WHITE_BLOCK (R184, R250, R251). -/
def execRunningWhiteBlock (t side slot : Nat) (s : State) : Host.Outcome State Fault Refusal := run t (rwBlock side slot) s

end Sys2Proof.Machine
end

