-- ==== Sys2Proof/Machine/StreamCmds.lean ====
section
/-! DEFINITION. The codec, stream and spool commands (Table 11.6). -/

namespace Sys2Proof.Machine

open Sys2Proof

/-- The bank that FLAGS.STAGED selects (R361). -/
def bankSel (r : Req) (s : State) : Bank := if r.isStaged then s.banks.staged else s.banks.live

def modStaged (f : Bank → Bank) (s : State) : State := { s with banks.staged := f s.banks.staged }

/-- The nine bytes of a code table of a bank. -/
def codeBytes (b : Bank) (i : Nat) : List Byte :=
  if i < 8 then tableBytes (builtinTable i) else tget (tableBytes (builtinTable (i % 8))) i b.codes

/-- CODE_TABLE_LOAD (R279). -/
def cmdCodeTableLoad : Cmd where
  opcode := 0x0701
  len := fixedLen 12
  modes := Mode.all
  run := fun r s =>
    let b := slice r.params 1 9
    match stagedBusy false s with
    | some e => .error e
    | none =>
      if r.u8 0 < 8 || 24 ≤ r.u8 0 then .error (.tableFull 4)
      else if !tableBytesValid b then .error (.implausible (Config.openDetail 0x0701).toNat)
      else .ok { act := modStaged (fun k => { k with codes := tset (tableBytes (builtinTable (r.u8 0 % 8))) (r.u8 0) b k.codes }) }
  readLen := some (fixedLen 4)
  read := fun r s =>
    if 24 ≤ r.u8 0 then .error (.tableFull 4) else .ok (leBytes 1 (r.u8 0) ++ codeBytes (bankSel r s) (r.u8 0) ++ zeros 2)

def execCodeTableLoad (t src : Nat) (s : State) : Host.Outcome State Fault Refusal := run t (serve cmdCodeTableLoad src) s

/-- LENGTH of a CODEC_JOB, and SRC_BYTES of a compression (R286). -/
def codecLen (r : Req) : Option Nat :=
  if r.length != 72 then some 72
  else
    let c := jobCfg r.params
    if !c.decompress && c.srcBytes != c.columns * c.lines * sampleBytes c.depth then some (Config.srcBytesDetail c.srcBytes).toNat else none

/-- An HBM range outside the load area (R368, R561). -/
def jobAreaBad (c : JobCfg) : Bool :=
  (c.srcKind == 1 && !areaOk c.src c.srcBytes 1) || (c.dstKind == 1 && !areaOk c.dst c.dstBytes 1) || (c.tables == 2 && !areaOk c.tabAddr 144 1)

/-- CODEC_JOB (R286, R288). -/
def cmdCodecJob : Cmd where
  opcode := 0x0702
  len := codecLen
  modes := fun m => m.all && m != .standby
  run := fun r s =>
    let c := jobCfg r.params
    if 24 ≤ c.tableId then .error (.tableFull 4)
    else if 16 ≤ (s.dlv.jobs.filter (fun j => j.state == 0)).length then .error (.tableFull 10)
    else if jobAreaBad c then .error (.implausible 1)
    else
      let id := s.dlv.nextJob
      .ok { data := layout 4 [(0, 2, id)], accepted := some (b2n c.decompress),
            act := fun s => { s with dlv.nextJob := wrapInc 16 id, dlv.jobs := s.dlv.jobs.filter (fun j => j.id != id) ++ [{ id := id, src := r.src, seq := r.seq, params := r.params, decompress := c.decompress, area := areaOf s r.src }] } }

def execCodecJob (t src : Nat) (s : State) : Host.Outcome State Fault Refusal := run t (serve cmdCodecJob src) s

/-- CODEC_JOB_STAT (R291, R293). -/
def cmdCodecJobStat : Cmd where
  opcode := 0x0703
  len := fixedLen 4
  modes := Mode.all
  run := fun r s =>
    if r.u8 0 = 1 then
      if 8 ≤ r.u8 1 then .error (.tableFull 2)
      else
        let c := (streamOf s (r.u8 1)).coding
        let v := fun i => c.getD i 0
        .ok { data := layout 40 [(0, 4, v 0), (4, 4, v 1), (8, 4, v 2), (0x0C, 4, v 3), (0x10, 4, v 4), (0x18, 8, v 5), (0x20, 8, v 6)],
              act := fun s => if r.isClear then modStream (r.u8 1) (fun x => { x with coding := [0, 0, 0, 0, 0, 0, 0] }) s else s }
    else .ok { data := jobStat s (r.u16 2), act := fun s => { s with free := s.free + 4 } }

def execCodecJobStat (t src : Nat) (s : State) : Host.Outcome State Fault Refusal := run t (serve cmdCodecJobStat src) s

/-- The format a STREAM_OPEN asks for (Table 8.1, R212), with WHITE at least one unit above BLACK (R216). -/
def streamFmt (r : Req) : StreamFmt :=
  let d := depthField (r.u8 2) 8
  { opened := true, planes := r.u8 1 % 16, depth := d, coding := r.enum 3 4 0, boltH := boltHField (r.u8 4), target := targetField (r.u8 5) d, table := r.u8 6, fallback := r.u8 7,
    regions := field r.params 8 32, black := (List.range 4).map (fun i => r.s32 (0x28 + 4 * i)), white := (List.range 4).map (fun i => max (r.s32 (0x38 + 4 * i)) (r.s32 (0x28 + 4 * i) + 1)), fresh := true }

def fmtBytes (n : Nat) (f : StreamFmt) : List Byte :=
  layout 72 ([(0, 1, n), (1, 1, f.planes), (2, 1, f.depth), (3, 1, f.coding), (4, 1, f.boltH), (5, 1, f.target), (6, 1, f.table), (7, 1, f.fallback), (8, 32, f.regions)]
    ++ (List.range 4).map (fun i => (0x28 + 4 * i, 4, ofS 32 (f.black.getD i 0))) ++ (List.range 4).map (fun i => (0x38 + 4 * i, 4, ofS 32 (f.white.getD i 0))))

/-- STREAM_OPEN (R31, R212, R265, R283, R297, Table 9.14): of a stream that is still closing it is accepted, and done when the stream has opened (R73). -/
def cmdStreamOpen : Cmd where
  opcode := 0x0801
  len := fixedLen 72
  modes := Mode.all
  run := fun r s =>
    let n := r.u8 0
    let x := streamOf s n
    if n < 8 && !x.ringed then .error (.wrongMode s.sys.mode 0x0B)
    else
      match stagedBusy false s with
      | some e => .error e
      | none =>
        if n < 8 && (x.flow = 0 || x.closing) && backlog x then .error (.busy 8)
        else if 8 ≤ n then .error (.tableFull 2)
        else
          let f := streamFmt r
          if 24 ≤ f.table || 24 ≤ f.fallback then .error (.tableFull 4)
          else
            match formatRefused s n f with
            | some c => .error (.tableFull c)
            | none => .ok { accepted := if x.closing then some n else none, act := modStaged (fun k => { k with streams := tset {} n f k.streams }) }
  readLen := some (fixedLen 4)
  read := fun r s => if 8 ≤ r.u8 0 then .error (.tableFull 2) else .ok (fmtBytes (r.u8 0) (tget {} (r.u8 0) (bankSel r s).streams))

def execStreamOpen (t src : Nat) (s : State) : Host.Outcome State Fault Refusal := run t (serve cmdStreamOpen src) s

/-- STREAM_CLOSE (R73, R261, R301). -/
def cmdStreamClose : Cmd where
  opcode := 0x0802
  len := fixedLen 4
  modes := Mode.all
  run := fun r _ => if 8 ≤ r.u8 0 then .error (.tableFull 2) else .ok { accepted := some (r.u8 0), act := beginClose (r.u8 0) }

def execStreamClose (t src : Nat) (s : State) : Host.Outcome State Fault Refusal := run t (serve cmdStreamClose src) s

/-- The parameters of Table 9.4 as applied (R297, R344, R352). -/
def ringOf (r : Req) (n : Nat) : RingCfg :=
  let e := 2 ^ Nat.log2 (clampN (r.u32 4) 64 65536)
  let sm := clampN (r.u16 0x1C) 1 224
  let hi := clampN (r.u16 0x1E) 1 sm
  { base := r.u64 8 / 4096 * 4096, entries := e, vector := if 5 ≤ r.u8 1 && r.u8 1 ≤ 7 then 8 + n else Nat.min 63 (r.u8 1), flush := r.enum 2 3 0, maxAge := clampN (r.u32 0x10) 10 100000,
    reserve := clampN (r.u32 0x14) 1 (e / 2), catchup := clampN (r.u8 0x18) 1 104, storeMax := sm, proofHigh := hi, proofLow := Nat.min hi (r.u16 0x20) }

def ringBytes (n : Nat) (c : RingCfg) : List Byte :=
  layout 36 [(0, 1, n), (1, 1, c.vector), (2, 1, c.flush), (4, 4, c.entries), (8, 8, c.base), (0x10, 4, c.maxAge), (0x14, 4, c.reserve), (0x18, 1, c.catchup),
             (0x1C, 2, c.storeMax), (0x1E, 2, c.proofHigh), (0x20, 2, c.proofLow)]

/-- RING_CFG (R297, R298). -/
def cmdRingCfg : Cmd where
  opcode := 0x0803
  len := fixedLen 36
  modes := Mode.all
  run := fun r s =>
    let n := r.u8 0
    let x := streamOf s n
    if n < 8 && (x.flow != 0 || x.closing || backlog x) then .error (.busy 8)
    else if 8 ≤ n then .error (.tableFull 2)
    else .ok { act := modStream n (fun x => { x with ringed := true, ring := ringOf r n, tail := 0, head := 0, dseq := 0, phase := 1, ringErr := false, desc := none, buf := none }) }
  readLen := some (fixedLen 4)
  read := fun r s => if 8 ≤ r.u8 0 then .error (.tableFull 2) else .ok (ringBytes (r.u8 0) (streamOf s (r.u8 0)).ring)

def execRingCfg (t src : Nat) (s : State) : Host.Outcome State Fault Refusal := run t (serve cmdRingCfg src) s

/-- The parameters of Table 9.10 as applied. -/
def spoolCfgOf (r : Req) : SpoolCfg :=
  { enable := r.flag 0, bifurcation := r.enum 1 4 2, drives := r.u8 2, action := r.enum 3 2 0, mark := clampN (r.u16 4) 1 512, retain := r.flag 6, archive := r.u8 7 }

/-- SPOOL_CFG (R316, R369). A spool that is switched off completes at once. -/
def cmdSpoolCfg : Cmd where
  opcode := 0x0804
  len := fixedLen 12
  modes := fun m => m == .standby || m == .ready || m == .service
  run := fun r _ =>
    let c := spoolCfgOf r
    if c.action = 1 && r.u32 8 != 0x464F524D then .error (.implausible 1)
    else .ok { accepted := some 0, act := fun s => let s := { s with spool.cfg := c }; let s := probeDrives s; if c.enable = 0 then complete (ofOpcode 0x0804) 0 0 0 s else s }
  readLen := some (fixedLen 0)
  read := fun _ s =>
    let c := s.spool.cfg
    .ok (layout 12 [(0, 1, c.enable), (1, 1, c.bifurcation), (2, 1, c.drives), (3, 1, c.action), (4, 2, c.mark), (6, 1, c.retain), (7, 1, c.archive)])

def execSpoolCfg (t src : Nat) (s : State) : Host.Outcome State Fault Refusal := run t (serve cmdSpoolCfg src) s

/-- SPOOL_REPLAY (R324). -/
def cmdSpoolReplay : Cmd where
  opcode := 0x0805
  len := fixedLen 20
  modes := fun m => m == .replay
  run := fun r s =>
    let d := streamOf s (r.u8 1)
    if r.u8 1 < 8 && d.flow != 0 then .error (.wrongMode s.sys.mode 0x0C)
    else if r.u8 1 < 8 && !d.ringed then .error (.wrongMode s.sys.mode 0x0B)
    else if s.spool.replay.isSome then .error (.busy 8)
    else if 8 ≤ r.u8 0 || 8 ≤ r.u8 1 then .error (.tableFull 2)
    else .ok { accepted := some 0, act := beginReplay (r.u8 0) (r.u8 1) (r.enum 2 2 0) (clampN (r.u8 3) 1 56) (r.u64 4) (r.u64 0x0C) }

def execSpoolReplay (t src : Nat) (s : State) : Host.Outcome State Fault Refusal := run t (serve cmdSpoolReplay src) s

/-- SPOOL_STAT (R326). -/
def cmdSpoolStat : Cmd where
  opcode := 0x0806
  len := fixedLen 4
  modes := Mode.all
  run := fun r s => if 8 ≤ r.u8 0 && r.u8 0 != 0xFF then .error (.tableFull 2) else .ok { data := spoolStat (r.u8 0) s }

def execSpoolStat (t src : Nat) (s : State) : Host.Outcome State Fault Refusal := run t (serve cmdSpoolStat src) s

end Sys2Proof.Machine
end

