-- ==== Sys2Proof/Machine/CorrCmds.lean ====
section
/-! DEFINITION. The correction and alignment commands of Table 11.3. -/

namespace Sys2Proof.Machine

open Sys2Proof

/-! ### Shading records (R160 to R165, R190) -/

/-- A record as stored: its reserved bits are ignored (R5, R163). -/
def recStored (w : Nat) : Nat := w % 2 ^ 64 / 1024 * 1024

/-- The table with consecutive records written from an index. -/
def putRecords (first : Nat) (rs : List Nat) (t : Tbl Nat) : Tbl Nat := (withIdx first rs).foldl (fun t e => tset shadeReset e.1 e.2 t) t

/-- The 64-bit records that bytes spell. -/
def recordsOf (n : Nat) (b : List Byte) : List Nat := (List.range n).map (fun i => recStored (field b (8 * i) 8))

/-- A port names more than 16 distinct TCO values in a shading table (R163). -/
def tcoOver (t : Tbl Nat) (p : Nat) : Bool := decide (16 < (tcosOf t p).length)

/-- Ports of the records written. -/
def tcoBad (first n : Nat) (t : Tbl Nat) : Bool := (List.range 32).any (fun p => decide (first < (p + 1) * 20480) && decide (p * 20480 < first + n) && tcoOver t p)

/-- LENGTH of SHADE_LOAD (R358, R365). -/
def shadeLen (r : Req) : Option Nat :=
  let n := r.u32 4
  if r.u8 8 = 1 then countLen n 655360 8 16 r else countLen n 509 8 (16 + 8 * n) r

/-- Records in the staged bank. -/
def stageRecords (first : Nat) (rs : List Nat) (s : State) : State :=
  modStaged (fun b => { b with shade := putRecords first rs b.shade }) { s with mem.latentShade := s.mem.latentShade.filter (fun e => !(e.1 == 1 && decide (first ≤ e.2) && decide (e.2 < first + rs.length))) }

/-- SHADE_LOAD (R163, R337, R343, R365). An area outside the load area holds no records whose TCO values could be counted (log 33). -/
def cmdShadeLoad : Cmd where
  opcode := 0x0401
  len := shadeLen
  modes := Mode.all
  run := fun r s =>
    let first := r.u32 0
    let n := r.u32 4
    let off := r.u32 0x0C
    let area := areaOf s r.src
    let bs := if r.u8 8 = 1 then readLoad area off (8 * n) s else r.params.drop 16
    let rs := recordsOf n bs
    match stagedBusy true s with
    | some e => .error e
    | none =>
      if 655360 < first + n then .error (.tableFull 11)
      else if tcoBad first n (putRecords first rs s.banks.staged.shade) && (r.u8 8 != 1 || areaOk off (8 * n) 1) then .error (.tableFull 5)
      else if r.u8 8 = 1 && !areaOk off (8 * n) 8 then .error (.implausible 1)
      else if r.u8 8 = 1 then
        .ok { accepted := some 0, act := fun s => drewLoad (8 * n) (stageRecords first rs { s with px.loads := s.px.loads ++ [{ src := r.src, seq := r.seq, first := first, count := n, offset := off, area := area, seen := s.hbm }] }) }
      else .ok { act := stageRecords first rs }

def execShadeLoad (t src : Nat) (s : State) : Host.Outcome State Fault Refusal := run t (serve cmdShadeLoad src) s

/-- SHADE_LOAD_COMPLETE (R337, R365): loads complete in the order of their acceptance (R377). -/
def shadeLoadComplete (src : Nat) (s : State) : State :=
  match s.px.loads.head?.filter (fun j => j.src == src) with
  | none => s
  | some j =>
    let s := { s with px.loads := s.px.loads.erase j }
    let s := if s.hbm = j.seen then s else drewLoad (8 * j.count) (stageRecords j.first (recordsOf j.count (readLoad j.area j.offset (8 * j.count) s)) s)
    complete (fun p => p.opcode == 0x0401 && p.src == j.src && p.seq == j.seq) 0 0 0 s

def execShadeLoadComplete (t src : Nat) (s : State) : Host.Outcome State Fault Refusal := run t (shadeLoadComplete src) s

/-- What SHADE_READ FORM 1 returns (R190, Table 11.3). -/
def correctionBytes (s : State) (p : Nat) : List Byte :=
  (List.range 9).flatMap (fun i => leBytes 4 (s.px.counters.getD i 0)) ++ 
  (List.range 8).flatMap (fun i => let r := s.px.rw.getD i {}; layout 12 [(0, 4, r.w), (4, 4, ofS 32 r.ref), (8, 1, s.px.rwGen.getD (i % 4) 0)]) ++
  (List.range 4).flatMap (fun q =>
    let l := tget {} (p * 4 + q) s.px.last
    layout 12 [(0, 4, l.d), (4, 4, l.w), (8, 1, l.gen), (9, 1, l.sets.length)] ++
    slice (l.sets.flatMap (fun e => layout 20 [(0, 1, e.1), (4, 4, ofS 32 (e.2.getD 0 0)), (8, 4, ofS 32 (e.2.getD 1 0)), (12, 4, ofS 32 (e.2.getD 2 0)), (16, 4, ofS 32 (e.2.getD 3 0))])) 0 320)

/-- SHADE_READ (R165, R190). DESIGN CHOICE (log 97): between a swap and the release of the old bank the staged form returns the settings that are staged for the next bank, with the generation they will have. -/
def cmdShadeRead : Cmd where
  opcode := 0x0402
  len := fun r => if r.u8 0 = 1 then fixedLen 4 r else countLen (r.u32 8) 509 8 12 r
  modes := Mode.all
  run := fun r s =>
    if r.u8 0 = 1 then
      if 32 ≤ r.u8 1 then .error (.tableFull 11)
      else .ok { data := correctionBytes s (r.u8 1), act := fun s => if r.isClear then { s with px.counters := List.replicate 9 0 } else s }
    else if 655360 < r.u32 4 + r.u32 8 then .error (.tableFull 11)
    else
      let gen := if r.isStaged then wrapInc 16 s.banks.gen else s.banks.gen
      .ok { data := layout 8 [(0, 2, gen), (2, 1, b2n r.isStaged), (4, 4, r.u32 8)] ++
              (List.range (r.u32 8)).flatMap (fun i => leBytes 8 (tget shadeReset (r.u32 4 + i) (bankSel r s).shade)) }

def execShadeRead (t src : Nat) (s : State) : Host.Outcome State Fault Refusal := run t (serve cmdShadeRead src) s

/-- The entries of a DEFECT_MAP: record index and DEF. -/
def defectEntries (r : Req) : List (Nat × Nat) := (List.range (r.length / 4)).map (fun i => let v := r.u32 (4 * i); (4 * bits v 0 18 + bits v 18 2, bits v 20 2))

/-- DEF of a record replaced (R163). -/
def withDef (rec' d : Nat) : Nat := rec' - recDef rec' * 1024 + d * 1024

/-- DEFECT_MAP (R163, R365). -/
def cmdDefectMap : Cmd where
  opcode := 0x0404
  len := listLen 0 4 1022
  modes := Mode.all
  run := fun r s =>
    match stagedBusy true s with
    | some e => .error e
    | none =>
      if (defectEntries r).any (fun e => decide (655360 ≤ e.1)) then .error (.tableFull 11)
      else .ok { act := modStaged (fun b => { b with shade := (defectEntries r).foldl (fun t e => tmod shadeReset e.1 (fun w => withDef w e.2) t) b.shade }) }

def execDefectMap (t src : Nat) (s : State) : Host.Outcome State Fault Refusal := run t (serve cmdDefectMap src) s

/-! ### Polynomial sets and temperature bindings (R166 to R168) -/

/-- A coefficient word as loaded (R167). -/
def polyWord (w : Nat) : Nat :=
  let sign := bits w 31 1 * 2 ^ 31
  let mag := w % 2 ^ 31
  if 0x7F800000 < mag then 0 else if 0x47800000 < mag then sign + 0x47800000 else w % 2 ^ 32

/-- LENGTH of POLY_LOAD (R365). -/
def polyLen (r : Req) : Option Nat :=
  if r.u8 0 = 1 then fixedLen 8 r
  else countLen (r.u8 2) 101 40 (4 + 40 * r.u8 2) r

/-- The binding of a port. -/
def bindOf (s : State) (p : Nat) : TempBind := tget {} p s.px.binds

/-- POLY_LOAD (R167, R168). -/
def cmdPolyLoad : Cmd where
  opcode := 0x0403
  len := polyLen
  modes := Mode.all
  run := fun r s =>
    if r.u8 0 = 1 then
      let p := r.u8 1
      let src := if r.u8 2 < 16 then r.u8 2 else 255
      if 32 ≤ p then .error (.tableFull 11)
      else .ok { act := fun s => { s with px.binds := tmod {} p (fun b => { source := src, fixed := clampI (r.s16 4) (-880) 2400, held := b.held && b.source == src }) s.px.binds } }
    else
      match stagedBusy true s with
      | some e => .error e
      | none =>
        if 256 < r.u8 1 + r.u8 2 then .error (.tableFull 11)
        else .ok { act := modStaged (fun b => { b with poly := (List.range (r.u8 2)).foldl (fun t i =>
                      tset polyReset (r.u8 1 + i) ((List.range 10).map (fun k => polyWord (r.u32 (4 + 40 * i + 4 * k)))) t) b.poly }) }
  readLen := some (fun r => if r.u8 0 = 1 then fixedLen 4 r else countLen (r.u8 2) 101 40 4 r)
  read := fun r s =>
    if r.u8 0 = 1 then
      if 32 ≤ r.u8 1 then .error (.tableFull 11)
      else .ok (layout 8 [(0, 1, 1), (1, 1, r.u8 1), (2, 1, (bindOf s (r.u8 1)).source), (4, 2, ofS 16 (bindOf s (r.u8 1)).fixed)])
    else if 256 < r.u8 1 + r.u8 2 then .error (.tableFull 11)
    else .ok (layout 4 [(1, 1, r.u8 1), (2, 1, r.u8 2)] ++ (List.range (r.u8 2)).flatMap (fun i =>
      (tget polyReset (r.u8 1 + i) (bankSel r s).poly).flatMap (leBytes 4)))

def execPolyLoad (t src : Nat) (s : State) : Host.Outcome State Fault Refusal := run t (serve cmdPolyLoad src) s

/-! ### Baseline (R30, R191 to R193, R221) -/

/-- BASELINE_CFG as a request gives it, clamped (Table 6.1). -/
def baseOfReq (r : Req) : BaseRec :=
  { stagger := Nat.min (r.u16 2) 1023, dInt := (List.range 4).map (fun q => Nat.min (r.u8 (4 + q)) 31), dFrac := (List.range 4).map (fun q => Nat.min (r.u8 (8 + q)) 63) }

/-- BASELINE_CFG (R30, R192, R193, R221). -/
def cmdBaselineCfg : Cmd where
  opcode := 0x0501
  len := fixedLen 12
  modes := Mode.all
  run := fun r s =>
    let p := r.u8 0
    let b := baseOfReq r
    let base := tset {} p b s.banks.staged.base
    if p < 32 && s.sys.mode.cap && b != tget {} p s.banks.staged.base then .error (.wrongMode s.sys.mode 0x0A)
    else
      match if s.sys.mode.cap then none else stagedBusy false s with
      | some e => .error e
      | none =>
        if 32 ≤ p then .error (.tableFull 11)
        else if s.sys.mode.cap then .ok {}
        else if 65536 < staggerLines s base then .error (.tableFull 6)
        else if baselineOver (fun q => (portOf s q).cfg) base then .error (.tableFull 8)
        else .ok { act := modStaged (fun k => { k with base := base }) }
  readLen := some (fixedLen 4)
  read := fun r s =>
    let p := r.u8 0
    let b := tget {} p (bankSel r s).base
    let v := fun (i : Nat) => tget 0 (p * 4 + i) s.aln.subst
    if 32 ≤ p then .error (.tableFull 11)
    else .ok (layout 48 ([(0, 1, p), (2, 2, b.stagger), (0x0C, 4, v 0), (0x10, 4, v 1), (0x14, 4, v 2), (0x18, 4, v 3), (0x1C, 4, s.aln.uncovered),
        (0x20, 4, s.aln.absent), (0x24, 4, s.aln.widened), (0x28, 4, s.aln.stCorr), (0x2C, 4, s.aln.stDbe)]
      ++ (List.range 4).flatMap (fun q => [(4 + q, 1, b.dInt.getD q 0), (8 + q, 1, b.dFrac.getD q 0)])))
  clear := fun r s => { s with aln.subst := s.aln.subst.filter (fun e => e.1 / 4 != r.u8 0), aln.uncovered := 0, aln.absent := 0, aln.widened := 0, aln.stCorr := 0, aln.stDbe := 0 }

def execBaselineCfg (t src : Nat) (s : State) : Host.Outcome State Fault Refusal := run t (serve cmdBaselineCfg src) s

/-! ### Seams, regions and the tracker (R202, R207, R211) -/

/-- The columns of a seam's two ports: the port that names it and the next enabled one, itself where there is none. -/
def seamColumns (s : State) (p : Nat) : Nat × Nat :=
  let c := (portOf s p).cfg.columns
  (c, match (enabledPorts s).find? (fun q => decide (p < q)) with | some q => (portOf s q).cfg.columns | none => c)

/-- SEAM_CFG (R202). -/
def cmdSeamCfg : Cmd where
  opcode := 0x0502
  len := fixedLen 8
  modes := Mode.all
  run := fun r s =>
    let c := seamColumns s (r.u8 0)
    match stagedBusy false s with
    | some e => .error e
    | none =>
      let act := modStaged (fun k => { k with seams := tset {} (r.u8 0) (clampSeam { overlap := r.u16 2, offset := r.s16 4, blend := r.u16 6 } c.1 c.2) k.seams })
      if 32 ≤ r.u8 0 then .error (.tableFull 11)
      else
        match takenPast s (act s) with
        | some code => .error (.tableFull code)
        | none => .ok { act := act }
  readLen := some (fixedLen 4)
  read := fun r s =>
    let x := tget {} (r.u8 0) (bankSel r s).seams
    if 32 ≤ r.u8 0 then .error (.tableFull 11) else .ok (layout 8 [(0, 1, r.u8 0), (2, 2, x.overlap), (4, 2, ofS 16 x.offset), (6, 2, x.blend)])

def execSeamCfg (t src : Nat) (s : State) : Host.Outcome State Fault Refusal := run t (serve cmdSeamCfg src) s

/-- Entry i of a REGION_SET: number and region. -/
def regionEntry (r : Req) (i : Nat) : Nat × Region :=
  let o := 32 * i
  (r.u16 o, clampRegion { enable := r.u8 (o + 2), binX := r.u8 (o + 3), binY := r.u8 (o + 4), edgeMask := r.u8 (o + 5), maskCode := r.u16 (o + 6), colFirst := r.u32 (o + 8),
                          colLast := r.u32 (o + 0x0C), lineFirst := r.u32 (o + 0x10), lineLast := r.u32 (o + 0x14), margin := r.u16 (o + 0x18) })

def regionEntryBytes (n : Nat) (g : Region) : List Byte :=
  layout 32 [(0, 2, n), (2, 1, g.enable), (3, 1, g.binX), (4, 1, g.binY), (5, 1, g.edgeMask), (6, 2, g.maskCode), (8, 4, g.colFirst), (0x0C, 4, g.colLast), (0x10, 4, g.lineFirst),
             (0x14, 4, g.lineLast), (0x18, 2, g.margin)]

/-- REGION_SET (R211). -/
def cmdRegionSet : Cmd where
  opcode := 0x0503
  len := listLen 0 32 127
  modes := Mode.all
  run := fun r s =>
    let es := (List.range (r.length / 32)).map (regionEntry r)
    match stagedBusy false s with
    | some e => .error e
    | none =>
      let act := modStaged (fun k => { k with regions := es.foldl (fun t e => tset {} e.1 e.2 t) k.regions })
      if es.any (fun e => decide (256 ≤ e.1)) then .error (.tableFull 1)
      else
        match takenPast s (act s) with
        | some code => .error (.tableFull code)
        | none => .ok { act := act }
  readLen := some (fun r => countLen (r.u16 2) 127 32 4 r)
  read := fun r s =>
    if 256 < r.u16 0 + r.u16 2 then .error (.tableFull 1)
    else .ok ((List.range (r.u16 2)).flatMap (fun i => regionEntryBytes (r.u16 0 + i) (tget {} (r.u16 0 + i) (bankSel r s).regions)))

def execRegionSet (t src : Nat) (s : State) : Host.Outcome State Fault Refusal := run t (serve cmdRegionSet src) s

/-- A strip column, or NONE (Table 5.6). -/
def stripCol (v : Nat) : Nat := if v = 0xFFFFFFFF then v else Nat.min v 163839

/-- The last strip column, kept within the port of the first (Table 5.6). -/
def stripLast (s : State) (first last : Nat) : Nat :=
  if first = 0xFFFFFFFF || last = 0xFFFFFFFF then stripCol last
  else Nat.min (stripCol last) (first / 5120 * 5120 + (portOf s (first / 5120)).cfg.columns - 1)

/-- SELVEDGE_CFG as a request gives it, clamped (Tables 5.6 and 6.5). -/
def svOf (r : Req) (s : State) : SvCfg :=
  let hi := clampI (r.s32 4) 0 262144
  let lf := stripCol (r.u32 0x24)
  let rf := stripCol (r.u32 0x2C)
  { enable := r.flag 0, plane := r.enum 1 4 1, polarity := r.enum 2 2 0, rwEnable := r.flag 3, hi := hi, lo := clampI (r.s32 8) 0 hi,
    minRun := clampN (r.u16 0x0C) 1 256, loss := clampN (r.u16 0x0E) 1 1024, jump := clampN (r.u16 0x10) 1 4096, acq := clampN (r.u8 0x12) 1 64, rwPlanes := r.u8 0x13 % 16,
    lFrom := Nat.min (r.u32 0x14) 163839, lTo := Nat.min (r.u32 0x18) 163839, rFrom := Nat.min (r.u32 0x1C) 163839, rTo := Nat.min (r.u32 0x20) 163839,
    rwLFirst := lf, rwLLast := stripLast s lf (r.u32 0x28), rwRFirst := rf, rwRLast := stripLast s rf (r.u32 0x30), rwMargin := Nat.min (r.u16 0x34) 1024,
    rwMinCols := clampN (r.u16 0x36) 8 1024, rwLines := clampN (r.u32 0x38) 64 65536, rwStep := clampN (r.u32 0x3C) 1 65536,
    rwMin := clampN (r.u32 0x40) 4194304 8388608, rwMax := clampN (r.u32 0x44) 8388608 16777215 }

/-- The 72 request bytes of SELVEDGE_CFG. -/
def svBytes (c : SvCfg) : List (Nat × Nat × Nat) :=
  [(0, 1, c.enable), (1, 1, c.plane), (2, 1, c.polarity), (3, 1, c.rwEnable), (4, 4, ofS 32 c.hi), (8, 4, ofS 32 c.lo), (0x0C, 2, c.minRun), (0x0E, 2, c.loss), (0x10, 2, c.jump),
   (0x12, 1, c.acq), (0x13, 1, c.rwPlanes), (0x14, 4, c.lFrom), (0x18, 4, c.lTo), (0x1C, 4, c.rFrom), (0x20, 4, c.rTo), (0x24, 4, c.rwLFirst), (0x28, 4, c.rwLLast), (0x2C, 4, c.rwRFirst),
   (0x30, 4, c.rwRLast), (0x34, 2, c.rwMargin), (0x36, 2, c.rwMinCols), (0x38, 4, c.rwLines), (0x3C, 4, c.rwStep), (0x40, 4, c.rwMin), (0x44, 4, c.rwMax)]

/-- SELVEDGE_CFG (R180, R207, R221). -/
def cmdSelvedgeCfg : Cmd where
  opcode := 0x0504
  len := fixedLen 72
  modes := Mode.all
  run := fun r s =>
    match stagedBusy false s with
    | some e => .error e
    | none => .ok { act := modStaged (fun k => { k with sv := svOf r s }) }
  readLen := some (fixedLen 0)
  read := fun r s =>
    let v := fun (i : Nat) => s.aln.svCounters.getD i 0
    .ok (layout 112 (svBytes (bankSel r s).sv ++ [(0x48, 4, s.aln.left.edge), (0x4C, 4, s.aln.right.edge), (0x50, 4, s.aln.leftDev), (0x54, 4, s.aln.rightDev),
      (0x58, 1, b2n s.aln.left.locked + 2 * b2n s.aln.right.locked), (0x5C, 4, v 0), (0x60, 4, v 1), (0x64, 4, v 2), (0x68, 4, v 3), (0x6C, 4, v 4)]))
  clear := fun _ s => { s with aln.svCounters := [0, 0, 0, 0, 0] }

def execSelvedgeCfg (t src : Nat) (s : State) : Host.Outcome State Fault Refusal := run t (serve cmdSelvedgeCfg src) s

end Sys2Proof.Machine
end

