-- ==== Sys2Proof/Machine/Delivery.lean ====
section
/-! DEFINITION. Output lines, bolts, host buffers, the refuge, the spool and memory errors (chapters 6, 8, 9, 16). -/

namespace Sys2Proof.Machine

open Sys2Proof

/-- OUTPUT_LINE (R196). -/
def execOutputLine (t : Nat) (s : State) : Host.Outcome State Fault Refusal := run t outputLine s

/-- STAGGER_DBE (R195). -/
def execStaggerDbe (t port slot line row : Nat) (s : State) : Host.Outcome State Fault Refusal := run t (staggerDbe port slot line row) s

/-- HBM_ROW_REMAP (R195, R527). -/
def execHbmRowRemap (t row : Nat) (s : State) : Host.Outcome State Fault Refusal := run t (rowRemap row) s

/-- SRAM_ERROR, HBM_ERROR and SCRUB (R525). -/
def execSramError (t store unit addr : Nat) (double : Bool) (s : State) : Host.Outcome State Fault Refusal := run t (sramError store unit addr double) s

def execHbmError (t addr : Nat) (double : Bool) (s : State) : Host.Outcome State Fault Refusal := run t (hbmError addr double) s

def execScrub (t : Nat) (findings : List ScrubFinding) (s : State) : Host.Outcome State Fault Refusal := run t (scrub findings) s

/-- BOLT_DISPATCH and BOLT_CODED (R20). -/
def execBoltDispatch (t stream : Nat) (s : State) : Host.Outcome State Fault Refusal := run t (fun s => if stream < 8 then dispatchBolt stream s else s) s

def execBoltCoded (t stream seq : Nat) (s : State) : Host.Outcome State Fault Refusal := run t (fun s => if stream < 8 then boltCoded stream seq s else s) s

/-- CODEC_JOB_START and CODEC_JOB_COMPLETE (R288, R289). -/
def execCodecJobStart (t : Nat) (decompress : Bool) (source tables : SourceData) (s : State) : Host.Outcome State Fault Refusal :=
  run t (startJob decompress source tables) s

def execCodecJobComplete (t : Nat) (decompress : Bool) (s : State) : Host.Outcome State Fault Refusal := run t (completeJob decompress) s

/-- DESCRIPTOR_FETCH (R299). -/
def execDescriptorFetch (t stream : Nat) (bytes : List Byte) (s : State) : Host.Outcome State Fault Refusal :=
  run t (fun s => if stream < 8 then descriptorFetch stream bytes s else s) s

/-- Items move while the device may write host memory, or stall (R300, R305). -/
def execItemDelivery (t stream : Nat) (s : State) : Host.Outcome State Fault Refusal :=
  run t (fun s => if stream < 8 then itemDelivery stream s else s) s

/-- FLUSH_AGE, FLUSH_RECORD_TIMEOUT (R301) and BACKLOG_BUFFER_EARLY (R302). -/
def execFlushAge (t stream : Nat) (s : State) : Host.Outcome State Fault Refusal := run t (fun s => if stream < 8 then flushAge stream s else s) s

def execFlushRecordTimeout (t stream : Nat) (s : State) : Host.Outcome State Fault Refusal := run t (fun s => if stream < 8 then flushRecord stream s else s) s

def execBacklogBufferEarly (t stream : Nat) (s : State) : Host.Outcome State Fault Refusal := run t (fun s => if stream < 8 then backlogEarly stream s else s) s

/-- REFUGE_ADMIT (R306). -/
def execRefugeAdmit (t stream : Nat) (s : State) : Host.Outcome State Fault Refusal := run t (fun s => if stream < 8 then refugeAdmit stream s else s) s

/-- PROOF_RESUME_ALLOW (R311). -/
def execProofResumeAllow (t : Nat) (s : State) : Host.Outcome State Fault Refusal := run t proofResume s

/-- SPILL (R307) and CATCHUP (R310). -/
def execSpill (t : Nat) (s : State) : Host.Outcome State Fault Refusal := run t spill s

def execCatchup (t stream : Nat) (s : State) : Host.Outcome State Fault Refusal := run t (fun s => if stream < 8 then startCatchup stream s else s) s

/-- The fetch of descriptor desc or a write of its buffer ends in a PCIe error (R303): it is descriptor HEAD, the only one that is fetched or open. -/
def pcieFail (n desc : Nat) (s : State) : State :=
  if (streamOf s n).ringed && !(streamOf s n).ringErr && (streamOf s n).head == desc % 2 ^ 32 then ringError n (streamOf s n).head s else s

def execPcieError (t stream desc : Nat) (s : State) : Host.Outcome State Fault Refusal := run t (fun s => if stream < 8 then pcieFail stream desc s else s) s

/-- PCIE_COMPLETION_TIMEOUT (R537, Table 16.9): the access counts as a PCIe error. -/
def execPcieCompletionTimeout (t stream desc : Nat) (s : State) : Host.Outcome State Fault Refusal := run t (fun s => if stream < 8 then pcieFail stream desc s else s) s

/-- NVME_COMMAND_COMPLETE (R314) and NVME_TIMEOUT (R322). -/
def execNvmeCommandComplete (t drive lseq : Nat) (ok : Bool) (s : State) : Host.Outcome State Fault Refusal := run t (nvmeComplete drive lseq ok) s

def execNvmeTimeout (t drive lseq : Nat) (s : State) : Host.Outcome State Fault Refusal := run t (nvmeTimeout drive lseq) s

/-- CONTROLLER_FATAL_STATUS and SPOOL_LINK_LOSS (R322). -/
def execControllerFatalStatus (t drive : Nat) (s : State) : Host.Outcome State Fault Refusal := run t (retireDrive drive) s

def execSpoolLinkLoss (t drive : Nat) (s : State) : Host.Outcome State Fault Refusal := run t (retireDrive drive) s

/-- SPOOL_ATTACH_COMPLETE (R323), SPOOL_FORMAT_COMPLETE (R317) and SPOOL_REPLAY_COMPLETE (R325). -/
def execSpoolAttachComplete (t : Nat) (found : Attach) (s : State) : Host.Outcome State Fault Refusal := run t (attachComplete found) s

def execSpoolFormatComplete (t : Nat) (drives : List DriveInfo) (s : State) : Host.Outcome State Fault Refusal := run t (formatComplete drives) s

def execSpoolReplayComplete (t : Nat) (s : State) : Host.Outcome State Fault Refusal := run t replayComplete s

end Sys2Proof.Machine
end

