-- ==== Sys2Proof/Machine/ModeCmds.lean ====
section
/-! DEFINITION. The device, mode and Datum commands (Table 11.1), and the events of modes, pins and boot (chapter 2). -/

namespace Sys2Proof.Machine

open Sys2Proof

/-- CAPTURE_OK: the link meets R329. -/
def linkInfo (s : State) : Nat := s.host.rate + 8 * s.host.width + 256 * b2n (linkOk s)

/-- VERSION, GEN and IFACE of a component. -/
def compBytes (c : Comp) : List Byte := leBytes 4 c.version ++ leBytes 2 c.gen ++ leBytes 2 c.iface

/-- The slot that runs (R362, R500): 0 A, 1 B, 2 recovery. -/
def bootSlot (s : State) : Nat := if s.sys.mode = .recovery then 2 else b2n (bit s.upd.boot.sel 0)

/-- The subsystem IDs in force (R328). -/
def subsysIds (s : State) : Nat × Nat := s.host.subsys.getD ((Config.subsysVendor).toNat, (Config.subsysId).toNat)

/-- DEV_INFO (R362). -/
def cmdDevInfo : Cmd where
  opcode := 0x0001
  len := fixedLen 0
  modes := Mode.all
  inRec := true
  run := fun _ s =>
    .ok { data := layout 24 [(0, 2, 0x3400), (2, 1, (Config.step).toNat), (3, 1, bootSlot s), (4, 2, 0x1E7B), (6, 2, (subsysIds s).1), (8, 2, (subsysIds s).2),
                             (0x0A, 1, s.sec.opens), (0x0B, 1, b2n (s.upd.boot.act == 2)), (0x0C, 4, linkInfo s), (0x10, 8, (Config.serial).toNat)]
                  ++ (List.range 4).flatMap (fun c => compBytes (runningComp s c)) }

def execDevInfo (t src : Nat) (s : State) : Host.Outcome State Fault Refusal := run t (serve cmdDevInfo src) s

/-- DEV_RESET (R332, R485): the station master may not ask for RECOVERY. -/
def cmdDevReset : Cmd where
  opcode := 0x0002
  len := fixedLen 4
  modes := Mode.all
  inRec := true
  run := fun r s =>
    let target := r.enum 0 2 0
    if r.src = 4 && target = 1 then .error (.wrongMode s.sys.mode 0) else .ok { act := devReset (target == 1) }

def execDevReset (t src : Nat) (s : State) : Host.Outcome State Fault Refusal := run t (serve cmdDevReset src) s

/-- The judgement of a MODE_SET (R44, R46, R49, R363): none where the mode is current. -/
def judgeMode (r : Req) (s : State) : Except Err (Option Mode) :=
  match Mode.ofCode (r.u8 0) with
  | none => .error (.wrongMode s.sys.mode 1)
  | some m =>
    if m == .reset || m == .boot || m == .recovery || m == .activate then .error (.wrongMode s.sys.mode 1)
    else if m = s.sys.mode then (if s.sys.pend.isSome then .error (.busy 1) else .ok none)
    else if !transition s.sys.mode m then .error (.wrongMode s.sys.mode 1)
    else if modeCondition m s != 0 then .error (.wrongMode s.sys.mode (modeCondition m s))
    else if s.sys.pend.isSome then .error (.busy 1)
    else .ok (some m)

/-- MODE_SET (R44 to R49). -/
def cmdModeSet : Cmd where
  opcode := 0x0101
  len := fixedLen 4
  modes := Mode.all
  run := fun r s =>
    match judgeMode r s with
    | .error e => .error e
    | .ok none => .ok {}
    | .ok (some m) => .ok { accepted := some 0, act := beginMode { target := m, src := r.src, seq := r.seq } }

def execModeSet (t src : Nat) (s : State) : Host.Outcome State Fault Refusal := run t (serve cmdModeSet src) s

/-- MODE_GET (R362). -/
def cmdModeGet : Cmd where
  opcode := 0x0102
  len := fixedLen 0
  modes := Mode.all
  inRec := true
  run := fun _ s =>
    let y := s.sys
    .ok { data := layout 16 [(0, 1, y.mode.code), (1, 1, y.prev.code), (2, 1, y.cause), (3, 1, (y.pend.map (fun p => p.target.code)).getD 0xFF), (4, 2, y.fault), (8, 8, y.tEnter)] }

def execModeGet (t src : Nat) (s : State) : Host.Outcome State Fault Refusal := run t (serve cmdModeGet src) s

/-- DATUM_CFG as a request gives it, clamped (Table 2.6). -/
def datumCfgOf (r : Req) (s : State) : DatumCfg :=
  let nominal := clampN (r.u64 0x10) 256 (2 ^ 40 - 1)
  let c : DatumCfg :=
    { source := r.enum 0 3 2, cueInput := r.enum 1 4 0, edge := r.enum 2 2 0, flywheel := r.flag 3, modulus := Nat.max 1 (r.u32 4),
      cueOffset := Nat.min (r.u64 8) (2 ^ 40 - 1), nominal := nominal, minSpacing := Nat.min (r.u64 0x20) nominal }
  { c with window := windowClamp c s.tr.cfg.pitch (r.u64 0x18) }

/-- DATUM_CFG (R65, R67): it acts at once on cues not yet accepted, so the expected position moves with REPEAT_NOMINAL. -/
def cmdDatumCfg : Cmd where
  opcode := 0x0110
  len := fixedLen 40
  modes := Mode.all
  run := fun r s =>
    let c := datumCfgOf r s
    .ok { act := fun t => { t with datum.cfg := c, datum.expected := t.datum.expected.map (fun e => e - (t.datum.cfg.nominal : Int) + (c.nominal : Int)) } }
  readLen := some (fixedLen 0)
  read := fun _ s =>
    let c := s.datum.cfg
    .ok (layout 40 [(0, 1, c.source), (1, 1, c.cueInput), (2, 1, c.edge), (3, 1, c.flywheel), (4, 4, c.modulus), (8, 8, c.cueOffset), (0x10, 8, c.nominal), (0x18, 8, c.window), (0x20, 8, c.minSpacing)])

def execDatumCfg (t src : Nat) (s : State) : Host.Outcome State Fault Refusal := run t (serve cmdDatumCfg src) s

/-- A forced Datum is fixed at the next line boundary without a ticket (R57, R69); with no session left it fails. -/
def forceDatum (s : State) : State :=
  if !s.tr.session then complete (ofOpcode 0x0111) jobFailed 1 0 s
  else
    let n := nextTicketLine s
    let s := fixDatum 4 false 0 n 0 s
    match s.datum.list.find? (fun d => !d.passed && datumLine s.tr d == (n : Int)) with
    | some d => { s with datum.forces := s.datum.forces ++ [d.id] }
    | none => s

/-- DATUM_FORCE (R69). -/
def cmdDatumForce : Cmd where
  opcode := 0x0111
  len := fixedLen 0
  modes := Mode.cap
  run := fun _ _ => .ok { accepted := some 0, act := forceDatum }

def execDatumForce (t src : Nat) (s : State) : Host.Outcome State Fault Refusal := run t (serve cmdDatumForce src) s

/-- STAGE_COMMIT (R56, R59). -/
def cmdStageCommit : Cmd where
  opcode := 0x0112
  len := fixedLen 0
  modes := Mode.all
  run := fun _ s =>
    let data := layout 4 [(0, 2, s.banks.gen), (2, 1, 1), (3, 1, b2n s.banks.grade)]
    if s.banks.armed then .ok { data := data }
    else if s.banks.old.isSome then .error (.busy 1)
    else .ok { data := data, waits := fun s => !(armPendings s).isEmpty, act := fun s => armLamps { s with banks.armed := true } }

def execStageCommit (t src : Nat) (s : State) : Host.Outcome State Fault Refusal := run t (serve cmdStageCommit src) s

/-! ### Pins, supplies and boot -/

/-- POR_N_FALL (R44). -/
def execPorNFall (t : Nat) (s : State) : Host.Outcome State Fault Refusal := run t porFall s

/-- POR_N_RISE (R51). -/
def execPorNRise (t badChannels badLogTags : Nat) (s : State) : Host.Outcome State Fault Refusal := run t (porRise badChannels badLogTags) s

/-- SYS_RST_N_FALL and SYS_RST_N_RISE (R44, R549). -/
def execSysRstNFall (t : Nat) (s : State) : Host.Outcome State Fault Refusal := run t sysRstFall s

def execSysRstNRise (t : Nat) (s : State) : Host.Outcome State Fault Refusal := run t sysRstRise s

/-- BROWN_OUT and BROWN_OUT_RECOVERY (R548). -/
def execBrownOut (t : Nat) (s : State) : Host.Outcome State Fault Refusal := run t brownOutStart s

def execBrownOutRecovery (t : Nat) (s : State) : Host.Outcome State Fault Refusal := run t brownOutEnd s

/-- XTAL_25_STOP and XTAL_25_RESTART (R549). -/
def execXtal25Stop (t : Nat) (s : State) : Host.Outcome State Fault Refusal := run t xtalLost s

def execXtal25Restart (t : Nat) (s : State) : Host.Outcome State Fault Refusal := run t xtalBack s

/-- THERMAL_TRIP and THERMAL_TRIP_RELEASE (R522). -/
def execThermalTrip (t sensor : Nat) (s : State) : Host.Outcome State Fault Refusal := run t (thermalTrip sensor) s

def execThermalTripRelease (t : Nat) (s : State) : Host.Outcome State Fault Refusal := run t thermalRelease s

/-- MAILBOX_SERVICE_START (R51, R53). -/
def execMailboxServiceStart (t : Nat) (cfg : Option CfgPart) (s : State) : Host.Outcome State Fault Refusal := run t (serviceStart cfg) s

/-- BOOT_COMPLETE (R51, R52). -/
def execBootComplete (t : Nat) (slotOk : Bool) (s : State) : Host.Outcome State Fault Refusal := run t (bootComplete slotOk) s

/-- PERST_N_RISE and CONFIG_SPACE_READY (R51). -/
def execPerstNRise (t : Nat) (s : State) : Host.Outcome State Fault Refusal := 
  run t (fun s => if s.sys.perstN then s else { s with sys.perstN := true, sys.tPerst := s.now }) s

def execConfigSpaceReady (t : Nat) (s : State) : Host.Outcome State Fault Refusal :=
  run t (fun s => if s.sys.perstN && s.sys.mode != .reset && decide (s.sys.tPerst + 100000000 ≤ s.now) then { s with sys.cfgReady := true } else s) s

/-! ### Mode changes -/

/-- PIPELINE_ARMED, MODE_CHANGE_COMPLETE, ORDERLY_STOP_COMPLETE and STOP_TIMEOUT (R45, R47). -/
def execPipelineArmed (t : Nat) (s : State) : Host.Outcome State Fault Refusal := run t pipelineArmed s

def execModeChangeComplete (t : Nat) (s : State) : Host.Outcome State Fault Refusal := run t modeChangeComplete s

def execOrderlyStopComplete (t : Nat) (s : State) : Host.Outcome State Fault Refusal := run t orderlyStopComplete s

def execStopTimeout (t : Nat) (s : State) : Host.Outcome State Fault Refusal := run t stopTimeout s

end Sys2Proof.Machine
end

