-- ==== Sys2Proof/Machine/PosCmds.lean ====
section
/-! DEFINITION. The port and timing commands (Table 11.2). -/

namespace Sys2Proof.Machine

open Sys2Proof

/-! ### Ports (R118, R119, R152, R154) -/

/-- PORT_CFG as a request gives it, clamped (Table 4.2). -/
def portCfgOf (r : Req) : PortCfg :=
  let t := r.u16 0x10
  { enable := r.flag 1, row := r.enum 2 2 0, reverse := r.flag 3, columns := clampStep (r.u16 4) 64 64 5120,
    planes := if r.u8 6 % 16 = 0 then 15 else r.u8 6 % 16, depth := if [10, 12, 14].contains (r.u8 7) then r.u8 7 else 12,
    colours := (List.range 4).map (fun i => r.enum (8 + i) 4 i), dark := Nat.min (r.u8 0x0C) 64, half := r.enum 0x0D 2 0, fill := r.u16 0x0E,
    tTile := if t = 0xFFFF then t else Nat.min t 4800 }

/-- Modes in which the lanes are trained (Table 2.2) and PORT_CFG acts at once (R119). -/
def lanesOn (m : Mode) : Bool := m == .ready || m == .service || m == .hold

/-- The change makes the port train (R119, R364): in a mode with lanes on, and in any other where it is trained or trains. DESIGN CHOICE (log 84): a change of FILL alone, which no tile takes part in, does not. -/
def cfgTrains (s : State) (p : Nat) (c : PortCfg) : Bool :=
  let x := portOf s p
  c.enable == 1 && x.state != .retired && (lanesOn s.sys.mode || x.state != .off) && { c with fill := 0 } != { x.cfg with fill := 0 }

/-- A port is disabled: its lanes stop (Table 2.8). A readmission that trains ends with RETIRED, and the port stays retired (log 45). -/
def disablePort (p : Nat) (s : State) : State :=
  let readmits := (portOf s p).readmit = 1
  let s := markAbsent p (portQuiet p s)
  let s := modPort p (fun x => { x with state := if bit s.ports.retired p || x.state = .retired then .retired else .off, fails := 0, readmit := if readmits then 0 else x.readmit }) (lanesOff p s)
  trainingDone p true 0 (if readmits then complete (ofOpRes 0x0203 p) 0x30 p 0 s else s)

/-- PORT_CFG in force. -/
def applyPortCfg (key p : Nat) (c : PortCfg) (s : State) : State :=
  let train := cfgTrains s p c
  let was := (portOf s p).cfg.enable
  let s := modPort p (fun x => { x with cfg := c }) s
  if train then startTraining p { s with ports.trains := s.ports.trains ++ [{ key := key, op := 0x0201, mask := 2 ^ p, left := 2 ^ p }] }
  else if was = 1 && c.enable = 0 then disablePort p s
  else s

/-- PORT_CFG (R118, R119, R193, R347, R364). -/
def cmdPortCfg : Cmd where
  opcode := 0x0201
  len := fixedLen 20
  modes := Mode.all
  run := fun r s =>
    let p := r.u8 0
    let c := portCfgOf r
    if 32 ≤ p then .error (.tableFull 11)
    else if (s.sys.mode.cap || s.sys.mode == .replay) && { c with fill := 0 } != { (portOf s p).cfg with fill := 0 } then .error (.wrongMode s.sys.mode 0x0A)
    else if baselineOver (fun q => if q = p then c else (portOf s q).cfg) s.banks.staged.base then .error (.tableFull 8)
    else match takenPast s (modPort p (fun x => { x with cfg := c }) s) with
    | some code => .error (.tableFull code)
    | none => .ok { accepted := if cfgTrains s p c then some p else none, act := applyPortCfg (reqKey r) p c }
  readLen := some (fixedLen 4)
  read := fun r s =>
    if 32 ≤ r.u8 0 then .error (.tableFull 11)
    else
      let c := (portOf s (r.u8 0)).cfg
      .ok (layout 20 [(0, 1, r.u8 0), (1, 1, c.enable), (2, 1, c.row), (3, 1, c.reverse), (4, 2, c.columns), (6, 1, c.planes), (7, 1, c.depth),
        (8, 1, c.colours.getD 0 0), (9, 1, c.colours.getD 1 0), (0x0A, 1, c.colours.getD 2 0), (0x0B, 1, c.colours.getD 3 0),
        (0x0C, 1, c.dark), (0x0D, 1, c.half), (0x0E, 2, c.fill), (0x10, 2, c.tTile)])

def execPortCfg (t src : Nat) (s : State) : Host.Outcome State Fault Refusal := run t (serve cmdPortCfg src) s

/-- PORT_TRAIN in force: every enabled port of the mask trains; with none the command is done, once no earlier one names a port of its mask (R377). -/
def trainPorts (key mask : Nat) (s : State) : State :=
  let ps := (maskIdx 32 mask).filter (enabledPort s)
  let s := { s with ports.trains := s.ports.trains ++ [{ key := key, op := 0x0202, mask := mask, left := sumN (ps.map (fun p => 2 ^ p)) }] }
  if ps.isEmpty then endTrains 32 0 s else ps.foldl (fun s p => startTraining p s) s

/-- PORT_TRAIN (R152). -/
def cmdPortTrain : Cmd where
  opcode := 0x0202
  len := fixedLen 4
  modes := Mode.quiet
  run := fun r s =>
    match (maskIdx 32 (r.u32 0)).find? (fun p => (portOf s p).state == .retired || bit s.ports.retired p) with
    | some p => .error (.retired p (portOf s p).cause)
    | none => .ok { accepted := some 0, act := trainPorts (reqKey r) (r.u32 0) }

def execPortTrain (t src : Nat) (s : State) : Host.Outcome State Fault Refusal := run t (serve cmdPortTrain src) s

/-- A readmission starts: the port's history is cleared and it trains (R152, R154). -/
def startReadmit (p : Nat) (s : State) : State :=
  startTraining p (modPort p (fun x => { x with readmit := 1, readmitAt := none, errs := [], fails := 0, event := false, posted := 0, suppressed := 0,
                                                lock := [0, 0, 0, 0], counters := List.replicate 16 0 }) s)

/-- PORT_READMIT (R152). -/
def cmdPortReadmit : Cmd where
  opcode := 0x0203
  len := fixedLen 4
  modes := Mode.all
  run := fun r s =>
    let p := r.u8 0
    let x := portOf s p
    if 32 ≤ p then .error (.tableFull 11)
    else if x.readmit == 1 || x.readmit == 2 then .error (.busy 2)
    else if x.state != .retired then .ok {}
    else .ok { accepted := some p, act := startReadmit p }

def execPortReadmit (t src : Nat) (s : State) : Host.Outcome State Fault Refusal := run t (serve cmdPortReadmit src) s

/-- STATE of PORT_STAT (R154): a trained port is ACTIVE while a session captures. -/
def portStateCode (s : State) (x : Port) : Nat :=
  match x.state with
  | .off => 0
  | .training => 1
  | .ready => if s.tr.session then 3 else 2
  | .retraining => 4
  | .retired => 5

/-- PORT_STAT (R154). -/
def cmdPortStat : Cmd where
  opcode := 0x0204
  len := fixedLen 4
  modes := Mode.all
  run := fun r s =>
    let p := r.u8 0
    let x := portOf s p
    if 32 ≤ p then .error (.tableFull 11)
    else
      .ok { data := layout 16 [(0, 1, portStateCode s x), (1, 1, x.cause), (2, 1, x.laneOrder), (3, 1, x.polarity), (4, 1, ofS 8 (x.skew.getD 0 0)),
                               (5, 1, ofS 8 (x.skew.getD 1 0)), (6, 1, ofS 8 (x.skew.getD 2 0)), (7, 1, ofS 8 (x.skew.getD 3 0)), (8, 4, x.tileId)]
                    ++ (List.range 16).flatMap (fun i => leBytes 4 (x.counters.getD i 0)),
            act := if r.isClear then modPort p (fun x => { x with counters := List.replicate 16 0 }) else id }

def execPortStat (t src : Nat) (s : State) : Host.Outcome State Fault Refusal := run t (serve cmdPortStat src) s

/-! ### Encoders, Transit and exposure (R60, R77, R87, R113) -/

/-- The encoder that ENC_CFG leaves (Table 3.2). -/
def encOf (r : Req) (e : Encoder) : Encoder :=
  { e with enable := r.flag 1, mode := r.enum 2 2 0, invert := r.flag 3, filter := clampStep (r.u8 4) 2 0 30, cueMask := r.u8 5 % 16,
           trims := (List.range 4).map (fun i => clampI (r.s8 (8 + i)) (-64) 63) }

/-- The cue filters that ENC_CFG leaves: those in CUE_MASK. -/
def cueFilters (r : Req) (l : List Nat) : List Nat := (List.range 4).map (fun i => if bit (r.u8 5) i then Nat.min (r.u16 (0x0C + 2 * i)) 10000 else l.getD i 100)

/-- ENC_CFG (R77). -/
def cmdEncCfg : Cmd where
  opcode := 0x0301
  len := fixedLen 20
  modes := Mode.all
  run := fun r s =>
    let n := r.u8 0
    let e := s.tr.encs.getD n {}
    let e' := encOf r e
    if 4 ≤ n then .error (.tableFull 11)
    else if s.sys.mode.cap && n == transitSource s && (e'.mode != e.mode || e'.invert != e.invert || e'.filter != e.filter) then .error (.wrongMode s.sys.mode 0x0A)
    else .ok { act := fun s => { s with tr.encs := s.tr.encs.set n e', tr.cueFilter := cueFilters r s.tr.cueFilter } }
  readLen := some (fixedLen 4)
  read := fun r s =>
    if 4 ≤ r.u8 0 then .error (.tableFull 11)
    else
      let e := s.tr.encs.getD (r.u8 0) {}
      let trim := fun i => ofS 8 (e.trims.getD i 0)
      let cue := fun i => s.tr.cueFilter.getD i 0
      .ok (layout 20 [(0, 1, r.u8 0), (1, 1, e.enable), (2, 1, e.mode), (3, 1, e.invert), (4, 1, e.filter), (5, 1, e.cueMask), (8, 1, trim 0), (9, 1, trim 1),
        (0x0A, 1, trim 2), (0x0B, 1, trim 3), (0x0C, 2, cue 0), (0x0E, 2, cue 1), (0x10, 2, cue 2), (0x12, 2, cue 3)])

def execEncCfg (t src : Nat) (s : State) : Host.Outcome State Fault Refusal := run t (serve cmdEncCfg src) s

/-- TRANSIT_CFG as a request gives it, clamped (Table 3.4). -/
def transitCfgOf (r : Req) : TransitCfg :=
  let alpha := clampN (r.u16 0x18) 2048 49152
  let beta := clampN (r.u16 0x1A) 1 32768
  { source := r.enum 0 4 0, tol := Nat.min (r.u8 1) 128, horizonLines := clampN (r.u8 2) 1 4, vibChannel := r.enum 3 4 255,
    vibSign := if r.u8 4 = 0xFF then -1 else 1, vibHp := clampN (r.u8 5) 1 50, stillTime := clampN (r.u16 6) 1 1000,
    pitch := clampN (r.u64 8 % 2 ^ 48) 1048576 (2 ^ 48 - 1), horizonTime := clampN (r.u32 0x10) 10000 40000, vMin := Nat.min (r.u32 0x14) 20000,
    alpha := alpha, beta := beta, gamma := Nat.min (r.u16 0x1C) (2 * alpha * beta / (65536 - alpha)), ticksPerM := Nat.max 1 (r.u32 0x20) }

/-- TRANSIT_CFG in force; with no vibration channel the bar term is 0 (R85). -/
def applyTransitCfg (c : TransitCfg) (s : State) : State :=
  let s := { s with tr.cfg := c }
  if c.vibChannel < 4 then s else { s with tr.dB := 0, tr.vB := 0, tr.vibHeld := 0 }

/-- TRANSIT_CFG (R87). -/
def cmdTransitCfg : Cmd where
  opcode := 0x0302
  len := fixedLen 36
  modes := Mode.all
  run := fun r s =>
    let c := transitCfgOf r
    if s.sys.mode.cap && (c.pitch != s.tr.cfg.pitch || c.source != s.tr.cfg.source) then .error (.wrongMode s.sys.mode 0x0A) else .ok { act := applyTransitCfg c }
  readLen := some (fixedLen 0)
  read := fun _ s =>
    let c := s.tr.cfg
    .ok (layout 36 [(0, 1, c.source), (1, 1, c.tol), (2, 1, c.horizonLines), (3, 1, c.vibChannel), (4, 1, ofS 8 c.vibSign), (5, 1, c.vibHp), (6, 2, c.stillTime),
      (8, 8, c.pitch), (0x10, 4, c.horizonTime), (0x14, 4, c.vMin), (0x18, 2, c.alpha), (0x1A, 2, c.beta), (0x1C, 2, c.gamma), (0x20, 4, c.ticksPerM)])

def execTransitCfg (t src : Nat) (s : State) : Host.Outcome State Fault Refusal := run t (serve cmdTransitCfg src) s

/-- EXPO_SET (R55, R60). -/
def cmdExpoSet : Cmd where
  opcode := 0x0303
  len := fixedLen 4
  modes := Mode.all
  run := fun r s =>
    match stagedBusy false s with
    | some e => .error e
    | none => .ok { act := fun s => { s with banks.staged := { s.banks.staged with expo := clampN (r.u32 0) 2000 999500 } } }
  readLen := some (fixedLen 0)
  read := fun r s => .ok (leBytes 4 (if r.isStaged then s.banks.staged else s.banks.live).expo)

def execExpoSet (t src : Nat) (s : State) : Host.Outcome State Fault Refusal := run t (serve cmdExpoSet src) s

/-- POSITION of POS_READ: x_c of this instant in whole ticks (Table 3.12). -/
def positionNow (s : State) : Int := reported (correctedAt s.tr s.now)

/-- POS_READ (R113, R114). -/
def cmdPosRead : Cmd where
  opcode := 0x0304
  len := fixedLen 0
  modes := Mode.all
  run := fun _ s =>
    let x := s.tr
    let n := fun i => ofS 64 (x.encs.getD i {}).count
    .ok { data := layout 112 [(0, 8, stationTime s), (8, 8, ofS 64 (positionNow s)), (0x10, 8, ofS 64 (reported (trackedAt x s.now))), (0x18, 8, ofS 64 x.v), (0x20, 8, ofS 64 x.a),
                              (0x28, 8, ofS 64 (sar x.x0 16)), (0x30, 2, (x.x0 % 65536).toNat), (0x32, 2, lookAhead s), (0x34, 4, ofS 32 x.dB), (0x38, 1, x.regime.code),
                              (0x3C, 4, x.expoNo), (0x40, 8, x.nextK % 2 ^ 48), (0x48, 8, (x.mark + 2 ^ 48 - 1) % 2 ^ 48), (0x50, 8, n 0), (0x58, 8, n 1), (0x60, 8, n 2), (0x68, 8, n 3)]
                  ++ (List.range 12).flatMap (fun i => leBytes 4 (x.counters.getD i 0)) }

def execPosRead (t src : Nat) (s : State) : Host.Outcome State Fault Refusal := run t (serve cmdPosRead src) s

end Sys2Proof.Machine
end

