-- ==== Sys2Proof/Machine/HostOps.lean ====
section
/-! DEFINITION. BAR0, BAR2, the mailboxes' doorbells and the event queue's registers (R328 to R357, R468, R494, R521). -/

namespace Sys2Proof.Machine

open Sys2Proof

/-- A second master's action has no defined result (R355). -/
def secondMaster (s : State) : Bool := s.host.stnServed && s.stn.cfg.master != 255

/-- The form of a row that belongs to the one master (R355). -/
def hostAct (t : Nat) (f : State → State) (s : State) : Host.Outcome State Fault Refusal :=
  if secondMaster s then .fault .secondMaster else run t f s

/-- An access that R333, R334, R348 or R349 refuses. -/
def accessErr (s : State) : State := { s with host.accessErr := satInc 32 s.host.accessErr }

/-! ### Snapshot pairs (R354) -/

/-- The 64-bit value of a pair of Table 10.17. -/
def pairValue (s : State) (i : Nat) : Nat :=
  match i with
  | 0 => stationTime s
  | 1 => ofS 64 (positionNow s)
  | 2 => s.tr.nextK % 2 ^ 48
  | 3 => sumN s.meter.ch % 2 ^ 64
  | _ => s.meter.samplesOut % 2 ^ 64

/-- A read of LO, or of both halves: the latch takes the high half. -/
def readPair (i count : Nat) (s : State) : State :=
  if 5 ≤ i then s
  else emit (.readData (0x3000 + 8 * i) (leBytes count (pairValue s i))) { s with host.latches := s.host.latches.set i (pairValue s i / 2 ^ 32) }

/-! ### Reading BAR0 (Tables 10.4, 10.5, 10.10, 10.14, 15.5, 16.3, 16.8) -/

/-- DEV_MODE. -/
def devMode (s : State) : Nat := s.sys.mode.code + 16 * b2n s.sys.service + 32 * b2n (s.stn.cfg.master != 255)

/-- EVQ_CTRL. -/
def evqCtrl (q : Evq) : Nat := b2n q.enable + 2 * b2n q.armed + 256 * q.vector + 65536 * q.coalesce

/-- MBn_STATUS. -/
def mbStatus (s : State) (n : Nat) : Nat :=
  let m := s.host.mbs.getD n {}
  m.state.code + 4 * b2n m.rspIrq + 8 * b2n m.overrun + 16 * b2n m.lost + 256 * slotsUsed s n

/-- RINGn_STATE (Table 9.5). -/
def ringState (x : Stream) : Nat :=
  x.flow + 8 * b2n (backlog x) + 16 * b2n x.catchup + 32 * b2n x.ringErr + 64 * x.phase + 128 * b2n x.proofStopped

/-- PLCA_ACTIVE (Table 15.5): a beacon in the last 10 ms, sent by the coordinator (R477), or received under PLCA: whether another node's has arrived is open (log 93), but none has while STN_LOST is active. -/
def plcaActive (s : State) : Bool :=
  decide (0 < s.stn.beacons) || (s.stn.beaconsTo != 0 && decide (s.now < s.stn.beaconsTo - 1 + 10000000)) ||
  (stnOn s && s.stn.cfg.access == 1 && !faultActive s 0x0901 0xFFFF && Config.beaconHeard s.now)

/-- STN_STATE. -/
def stnState (s : State) : Nat := s.time.state + 4 * b2n (unsync s) + 8 * b2n (plcaActive s) + 16 * b2n s.sec.stationKey.isSome + 256 * s.upd.state

/-- SEC_STATE. -/
def secState (s : State) : Nat :=
  let c := s.sec
  b2n c.debugOpen + 2 * b2n c.erased + 4 * b2n c.stationKey.isSome + 8 * b2n c.ownerToken.isSome + 16 * b2n c.spoolWrap.isSome + 32 * b2n c.identity.isSome + 256 * c.opens

/-- The RC counters of Table 15.5 from 0x0210 on. -/
def stnCounters (c : StnCounters) : List Nat := [c.rx, c.tx, c.coll, c.strTag, c.strRep, c.strSrc, c.rateDrop, c.other, c.noKey, c.steps, c.overrun]

def clearStn (i : Nat) (c : StnCounters) : StnCounters :=
  match i with
  | 0 => { c with rx := 0 } | 1 => { c with tx := 0 } | 2 => { c with coll := 0 } | 3 => { c with strTag := 0 } | 4 => { c with strRep := 0 }
  | 5 => { c with strSrc := 0 } | 6 => { c with rateDrop := 0 } | 7 => { c with other := 0 } | 8 => { c with noKey := 0 } | 9 => { c with steps := 0 }
  | _ => { c with overrun := 0 }

/-- The value of the register at an aligned offset below 0x6000, none where no register stands. -/
def regValue (s : State) (a : Nat) : Option Nat :=
  let q := s.host.evq
  if a = 0 then some (0x3400 + 65536 * (Config.step).toNat)
  else if a = 4 then some (devMode s)
  else if a = 8 then some (linkInfo s)
  else if a = 0x0C then some s.host.accessErr
  else if a = 0x10 then some s.host.scratch
  else if 0x100 ≤ a && a < 0x180 then some (if a % 8 = 0 then (let c := auxCh s ((a - 0x100) / 8); auxStatus c + 65536 * auxAge s.now c) else ofS 32 (auxCh s ((a - 0x100) / 8)).latch)
  else if a = 0x200 then some (stnState s)
  else if a = 0x204 then some (ofS 32 s.time.measured)
  else if a = 0x208 then some s.time.delay
  else if 0x210 ≤ a && a < 0x23C then some ((stnCounters s.stn.cnt).getD ((a - 0x210) / 4) 0)
  else if a = 0x300 then some (faultSummary s)
  else if a = 0x304 then some (faultLast s)
  else if a = 0x308 then some (secState s)
  else if a = 0x1000 then some (q.base % 2 ^ 32)
  else if a = 0x1004 then some (q.base / 2 ^ 32)
  else if a = 0x1008 then some q.log2
  else if a = 0x100C then some (evqCtrl q)
  else if a = 0x1010 then some q.head
  else if a = 0x1014 then some q.tail
  else if a = 0x1018 then some q.lost
  else if 0x2000 ≤ a && a < 0x2400 && a % 256 < 12 then
    let n := (a - 0x2000) / 256
    some (if a % 256 = 0 then 0 else if a % 256 = 4 then mbStatus s n else (s.host.mbs.getD n {}).seq)
  else if 0x3000 ≤ a && a < 0x3028 then
    let i := (a - 0x3000) / 8
    some (if a % 8 = 0 then pairValue s i % 2 ^ 32 else s.host.latches.getD i 0)
  else if 0x4000 ≤ a && a < 0x4200 && a % 64 < 12 then
    let x := streamOf s ((a - 0x4000) / 64)
    some (if a % 64 = 0 then x.tail else if a % 64 = 4 then x.head else ringState x)
  else if a = 0x5000 then some (s.host.winBase % 2 ^ 32)
  else if a = 0x5004 then some (s.host.winBase / 2 ^ 32)
  else if a = 0x5008 then some s.host.winDiscard
  else none

/-- An RC register (R7). -/
def isRc (a : Nat) : Bool := a == 0x0C || a == 0x1018 || a == 0x5008 || (decide (0x210 ≤ a) && decide (a < 0x23C) && a % 4 == 0)

/-- What a read of an RC register clears. -/
def clearRc (a : Nat) (s : State) : State :=
  if a = 0x0C then { s with host.accessErr := 0 }
  else if a = 0x1018 then { s with host.evq.lost := 0 }
  else if a = 0x5008 then { s with host.winDiscard := 0 }
  else if 0x210 ≤ a && a < 0x23C then stnCount (clearStn ((a - 0x210) / 4)) s
  else s

/-- An aligned 4-byte read of a register (R7, R333, R354, R468). -/
def readRegister (a : Nat) (s : State) : State :=
  match regValue s a with
  | none => s
  | some v =>
    if 0x3000 ≤ a && a < 0x3028 && a % 8 = 0 then readPair ((a - 0x3000) / 8) 4 s
    else
      let s := emit (.readData a (leBytes 4 v)) s
      if 0x100 ≤ a && a < 0x180 && a % 8 = 0 then modAux ((a - 0x100) / 8) (fun c => { c with latch := c.value }) s
      else if a = 0x200 then { s with free := s.free + 1 } else clearRc a s

/-- An access that a register, buffer or table answers (R333, R334): aligned 4-byte accesses to registers, and 8-byte reads of a snapshot pair; up to 512 bytes of one mailbox buffer, writes of MBn_REQ only; the MSI-X table and PBA. -/
def served (s : State) (a n : Nat) (write : Bool) : Bool :=
  if a < 0x6000 then
    (n == 4 && a % 4 == 0 && (regValue s a).isSome) || (!write && n == 8 && a % 8 == 0 && decide (0x3000 ≤ a) && decide (a < 0x3028))
  else if a < 0x18000 then
    decide (0x10000 ≤ a) && decide (n ≤ 512) && decide (a % 0x1000 + n ≤ 0x1000) && !(write && decide (0x1000 ≤ a % 0x2000))
  else (decide (0x80000 ≤ a) && decide (a + n ≤ 0x80400)) || (decide (0x81000 ≤ a) && decide (a + n ≤ 0x81008))

/-- A byte of the mailbox buffers, from 0x1_0000 on (R338). DESIGN CHOICE (log 97): the reserved bytes of MBn_REQ read as the host wrote them, for the buffer is plain memory (R334). -/
def bufferByte (s : State) (o : Nat) : Byte :=
  let m := s.host.mbs.getD (o / 0x2000) {}
  if o % 0x2000 < 0x1000 then tget 0 (o % 0x1000) m.req else m.rsp.getD (o % 0x1000) 0

/-- The MSI-X table as it reads (R352). -/
def msixBytes (s : State) : List Byte := (List.range 64).flatMap (fun v => let e := tget {} v s.host.msix; leBytes 8 e.addr ++ leBytes 4 e.data ++ leBytes 4 e.ctrl)

/-- An access that R333 or R334 refuses reads 0 or is ignored, and is counted. -/
def reservedAccess (a n : Nat) (write : Bool) (s : State) : State :=
  if served s a n write then s else if write then accessErr s else emit (.readData a (zeros n)) (accessErr s)

/-- A read of n bytes of BAR0 (R333, R334). -/
def readBar0 (a n : Nat) (s : State) : State :=
  if !served s a n false then reservedAccess a n false s
  else if a < 0x6000 then (if n = 8 then readPair ((a - 0x3000) / 8) 8 s else readRegister a s)
  else
    emit (.readData a (if a < 0x18000 then (List.range n).map (fun i => bufferByte s (a - 0x10000 + i))
      else if a < 0x81000 then slice (msixBytes s) (a - 0x80000) n else slice (leBytes 8 s.host.pba) (a - 0x81000) n)) s

/-! ### The event queue's registers (R348, R349, R352, R353) -/

/-- The host has set Bus Master Enable in D0 (log 87). -/
def busMaster (s : State) : State := { s with host.bme := true, host.d3hot := false }

/-- ENABLE goes from 0 to 1. -/
def enableEvq (s : State) : State :=
  if s.host.evq.enable then s
  else busMaster { s with host.evq := { s.host.evq with enable := true, head := 0, tail := 0, everOn := true, due := [] } }

/-- ARMED is written 1. -/
def armEvq (s : State) : State := { s with host.evq.armed := true }

/-- VECTOR is written (R352). -/
def setVector (v : Nat) (s : State) : State :=
  let v := v % 64
  { s with host.evq.vector := if v = 5 || v = 6 || v = 7 then 0 else v }

/-- EVQ_CTRL is written whole. -/
def writeCtrl (w : Nat) (s : State) : State :=
  let s := { setVector (bits w 8 6) s with host.evq.coalesce := bits w 16 8 }
  let s := if bit w 0 then enableEvq s else { s with host.evq.enable := false }
  if bit w 1 then armEvq s else s

/-- EVQ_HEAD is written (R349, R353). -/
def writeHead (h : Nat) (s : State) : State :=
  let q := s.host.evq
  if 2 ^ q.log2 < mdist 32 h q.tail then accessErr s
  else
    let s := { s with host.evq.head := h % 2 ^ 32, host.evq.armed := true }
    if 0 < s.host.evq.unread then signalEvq s else s

/-- COALESCE has passed (R353). -/
def coalesceOver (s : State) : State :=
  match s.host.evq.due with
  | d :: rest => if d ≤ s.now then signalEvq { s with host.evq.due := rest } else s
  | [] => s

/-! ### MSI-X (R352) -/

/-- A write of vector control: unmasking signals a pending vector. -/
def setMask (v : Nat) (masked : Bool) (s : State) : State :=
  let s := { s with host.msix := tmod {} v (fun e => { e with ctrl := b2n masked }) s.host.msix }
  if !masked && bit s.host.pba v && hostUp s then fire v { s with host.pba := setBit s.host.pba v false } else s

/-- An aligned dword write of the MSI-X table; other writes have no effect (log 20). -/
def writeMsix (o w : Nat) (s : State) : State :=
  let v := o / 16
  match o % 16 / 4 with
  | 0 => { s with host.msix := tmod {} v (fun e => { e with addr := e.addr / 2 ^ 32 * 2 ^ 32 + w / 4 * 4 }) s.host.msix }
  | 1 => { s with host.msix := tmod {} v (fun e => { e with addr := w * 2 ^ 32 + e.addr % 2 ^ 32 }) s.host.msix }
  | 2 => { s with host.msix := tmod {} v (fun e => { e with data := w }) s.host.msix }
  | _ => setMask v (bit w 0) s

/-! ### Mailboxes (R338 to R340) -/

/-- A doorbell (R340, R53). -/
def doorbell (n token : Nat) (s : State) : State :=
  let m := s.host.mbs.getD n {}
  if m.state == .queued || m.state == .busy then { s with host.mbs := s.host.mbs.set n { m with overrun := true } }
  else
    let b := fun (o w : Nat) => sumN ((List.range w).map (fun i => (tget 0 (o + i) m.req).toNat * 256 ^ i))
    let len := b 4 2
    let l : Latched := { opcode := b 0 2, flags := b 2 2, length := len, params := (List.range (Nat.min len 4088)).map (fun i => tget 0 (8 + i) m.req) }
    let m := { m with seq := wrapInc 32 m.seq, token := token % 2 ^ 32, rung := s.now, latched := l, area := s.hbm, state := if s.sys.service then .busy else .queued }
    { s with host.mbs := s.host.mbs.set n m, host.order := s.host.order ++ [n], host.held := if s.sys.service then s.host.held else s.host.held ++ [n] }

/-- Bytes written to MBn_REQ, those whose byte enable is set (R334, R340). -/
def writeReq (n o be : Nat) (bytes : List Byte) (s : State) : State :=
  let m := s.host.mbs.getD n {}
  if m.state == .queued || m.state == .busy then { s with host.mbs := s.host.mbs.set n { m with lost := true } }
  else { s with host.mbs := s.host.mbs.set n { m with req := ((List.range bytes.length).zip bytes).foldl (fun t e => if bit be e.1 then tset 0 (o + e.1) e.2 t else t) m.req } }

/-- MBn_STATUS is written: RSP_IRQ is RW, OVERRUN and REQ_WRITE_LOST are W1C (Table 10.10). -/
def writeMbStatus (n w : Nat) (s : State) : State :=
  let m := s.host.mbs.getD n {}
  { s with host.mbs := s.host.mbs.set n { m with rspIrq := bit w 2, overrun := m.overrun && !(bit w 3), lost := m.lost && !(bit w 4) } }

/-! ### Writing BAR0 (R333, R334) -/

/-- An aligned 4-byte write of a register: RO and RC fields ignore it (R7). -/
def writeRegister (a w : Nat) (s : State) : State :=
  let q := s.host.evq
  match regValue s a with
  | none => accessErr s
  | some _ =>
    if a = 0x10 then { s with host.scratch := w }
    else if a = 0x1000 then (if q.enable then accessErr s else { s with host.evq.base := q.base / 2 ^ 32 * 2 ^ 32 + w / 4096 * 4096 })
    else if a = 0x1004 then (if q.enable then accessErr s else { s with host.evq.base := w * 2 ^ 32 + q.base % 2 ^ 32 })
    else if a = 0x1008 then (if q.enable then accessErr s else { s with host.evq.log2 := clampN (w % 32) 6 16 })
    else if a = 0x100C then writeCtrl w s
    else if a = 0x1010 then writeHead w s
    else if 0x2000 ≤ a && a < 0x2400 then (if a % 256 = 0 then doorbell ((a - 0x2000) / 256) w s else if a % 256 = 4 then writeMbStatus ((a - 0x2000) / 256) w s else s)
    else if 0x4000 ≤ a && a < 0x4200 && a % 64 = 0 then tailWrite ((a - 0x4000) / 64) w (busMaster s)
    else if a = 0x5000 then { s with host.winBase := s.host.winBase / 2 ^ 32 * 2 ^ 32 + w / 2 ^ 20 * 2 ^ 20 }
    else if a = 0x5004 then { s with host.winBase := w % 4 * 2 ^ 32 + s.host.winBase % 2 ^ 32 }
    else s

/-- A write to BAR0; bit i of be enables byte i (R333, R334). A register takes no part of a word, and the MSI-X table takes aligned dwords and qwords. -/
def writeBar0 (a be : Nat) (bytes : List Byte) (s : State) : State :=
  let whole := decide (2 ^ bytes.length ≤ be + 1)
  if !served s a bytes.length true || (a < 0x6000 && !whole) then accessErr s
  else if a < 0x6000 then writeRegister a (ofLe bytes) s
  else if a < 0x18000 then writeReq ((a - 0x10000) / 0x2000) (a % 0x1000) be bytes s
  else if 0x81000 ≤ a || !whole then s
  else if a % 4 = 0 && bytes.length = 4 then writeMsix (a - 0x80000) (ofLe bytes) s
  else if a % 8 = 0 && bytes.length = 8 then writeMsix (a - 0x80000 + 4) (field bytes 4 4) (writeMsix (a - 0x80000) (field bytes 0 4) s)
  else s

/-! ### BAR2 (R335 to R337) -/

/-- HBM address of a window offset. -/
def winAddr (s : State) (o : Nat) : Nat := (s.host.winBase + o) % 2 ^ 34

/-- A write is taken into the load area, or anywhere in SERVICE; it takes the stack out of self-refresh (R25). -/
def bar2Write (o : Nat) (bytes : List Byte) (s : State) : State :=
  let a := winAddr s o
  if s.sys.mode == .service || decide (a + bytes.length ≤ 64 * 2 ^ 20) then (withIdx 0 bytes).foldl (fun s e => pokeByte ((a + e.1) % 2 ^ 34) e.2 s) (touchHbm s)
  else { s with host.winDiscard := satInc 32 s.host.winDiscard }

/-- A read may address any byte of the stack (R336). -/
def bar2Read (o n : Nat) (s : State) : State :=
  emit (.readData o ((List.range n).map (fun i => viewByte s i ((winAddr s o + i) % 2 ^ 34)))) (touchHbm { s with free := s.free + n })

/-! ### The link (R329, R331) -/

/-- The link has trained (R329): training begins 20 ms after PERST_N, out of RESET (Table 2.4, R332). -/
def linkUp (rate width : Nat) (s : State) : State :=
  if s.sys.perstN && s.sys.mode != .reset && decide (s.sys.tPerst + 20000000 ≤ s.now) then busMaster { s with host.rate := rate % 8, host.width := width % 32 } else s

/-- The MSI-X table as the PCIe Base Specification resets it. -/
def resetMsix (s : State) : State := { s with host.msix := [], host.pba := 0 }

/-- One configured ring goes into RING_ERROR with TAIL equal to HEAD. The manual names no DESC_NO for it: it is free (log 5). -/
def stopRing (n : Nat) (s : State) : State :=
  let x := streamOf s n
  if !x.ringed then s
  else
    let s := if x.ringErr then s else ringError n ((Config.freeValue s.free).toNat % 2 ^ 32) { s with free := s.free + 1 }
    modStream n (fun x => { x with tail := x.head, desc := none }) s

/-- What the PCIe Base Specification resets with the function: Bus Master Enable, the power state, and for a reset of the function its BARs, sizes and MSI-X table (log 87). -/
def resetFunction (kind : Nat) (s : State) : State :=
  if kind = 5 then { s with host.d3hot := true }
  else if kind = 4 then { s with host.bme := false }
  else resetMsix { s with host.bme := false, host.d3hot := false, host.bars := (0, 0), host.mps := 0, host.mrrs := 2 }

/-- HOST_INTERFACE_RESET (R331): 0 FLR, 1 Hot Reset, 2 PERST_N low, 3 link down, 4 Bus Master Enable cleared, 5 D3hot. Host writes stop first, then the rings, the event queue and the held requests. -/
def hostReset (kind : Nat) (s : State) : State :=
  let s := resetFunction kind { s with host.evq.enable := false, host.evq.due := [] }
  let s := (List.range 8).foldl (fun s n => stopRing n s) s
  let queued := (List.range 4).filter (fun n => (s.host.mbs.getD n {}).state == .queued)
  let s := { s with host.mbs := s.host.mbs.map (fun m => if m.state == .queued then { m with state := .idle } else m),
                    host.order := s.host.order.filter (fun n => !(queued.contains n)), host.held := s.host.held.filter (fun n => !(queued.contains n)) }
  let s := if kind = 2 then { s with sys.perstN := false, sys.cfgReady := false } else s
  if kind = 2 || kind = 3 then { s with host.rate := 0, host.width := 0 } else s

/-! ### The endpoint (R328) -/

/-- The properties of Table 10.1 that no register holds. -/
structure Endpoint where
  functions : Nat := 1
  bar0Bytes : Nat := 2 ^ 20
  bar2Bytes : Nat := 2 ^ 32
  vectors   : Nat := 64
  maxPayload : List Nat := [128, 256, 512]
  maxRead   : Nat := 4096
  tagBits   : Nat := 10
  extended  : List String := ["AER", "Device Serial Number", "Data Link Feature"]
  flr       : Bool := true
  aspmL1    : Bool := true
deriving DecidableEq, Repr

def endpoint : Endpoint := {}

/-- The first 64 bytes of configuration space: Table 10.1 at the offsets of a type 0 header of the PCIe Base Specification (PRESUMED, log 87). The capability pointer and the cache line size are free. -/
def configHeader (s : State) : List Byte :=
  let f := fun (i : Nat) => (Config.freeValue (s.free + i)).toNat % 256
  layout 64 [(0, 2, 0x1E7B), (2, 2, 0x3400), (4, 2, 2 + 4 * b2n s.host.bme + 0x400), (6, 2, 0x10), (8, 1, (Config.step).toNat), (9, 3, 0x118000), (0x0C, 1, f 0),
             (0x10, 8, s.host.bars.1 / 2 ^ 20 * 2 ^ 20 + 4), (0x18, 8, s.host.bars.2 / 2 ^ 32 * 2 ^ 32 + 12), (0x2C, 2, (subsysIds s).1), (0x2E, 2, (subsysIds s).2), (0x34, 1, f 1)]

end Sys2Proof.Machine
end

