-- ==== Sys2Proof/Machine/HostRows.lean ====
section
/-! DEFINITION. The rows of the host interface (chapter 10). -/

namespace Sys2Proof.Machine

open Sys2Proof

/-- PCIE_LINK_UP (R329). -/
def execPcieLinkUp (t rate width : Nat) (s : State) : Host.Outcome State Fault Refusal := run t (onBar (linkUp rate width)) s

/-- LINK_RATE_CHANGE (R357). -/
def execLinkRateChange (t rate width : Nat) (s : State) : Host.Outcome State Fault Refusal :=
  run t (onBar (fun s => if s.host.rate = 0 then s else { s with host.rate := rate % 8, host.width := width % 32 })) s

/-- HOST_INTERFACE_RESET (R331). -/
def execHostInterfaceReset (t kind : Nat) (s : State) : Host.Outcome State Fault Refusal := run t (onBar (hostReset kind)) s

/-- MB_DOORBELL (R340). -/
def execMbDoorbell (t mb token : Nat) (s : State) : Host.Outcome State Fault Refusal :=
  hostAct t (onBar (fun s => if mb < 4 then doorbell mb token s else accessErr s)) s

/-- RING_TAIL_WRITE (R303, R356). -/
def execRingTailWrite (t stream tail : Nat) (s : State) : Host.Outcome State Fault Refusal :=
  run t (onBar (fun s => if stream < 8 then tailWrite stream tail (busMaster s) else accessErr s)) s

/-- EVQ_HEAD_WRITE (R349, R353, R356). -/
def execEvqHeadWrite (t head : Nat) (s : State) : Host.Outcome State Fault Refusal := run t (onBar (writeHead head)) s

/-- EVQ_ENABLE (R348). -/
def execEvqEnable (t : Nat) (s : State) : Host.Outcome State Fault Refusal := hostAct t (onBar enableEvq) s

/-- EVQ_ARMED (R353). -/
def execEvqArmed (t : Nat) (s : State) : Host.Outcome State Fault Refusal := hostAct t (onBar armEvq) s

/-- EVQ_VECTOR (R352). -/
def execEvqVector (t vector : Nat) (s : State) : Host.Outcome State Fault Refusal := hostAct t (onBar (setVector vector)) s

/-- RINGn_TAIL and EVQ_HEAD, which the host may write under any master (R356). -/
def freeWrite (a : Nat) : Bool := a == 0x1010 || (decide (0x4000 ≤ a) && decide (a < 0x4200) && a % 64 == 0)

/-- REGISTER_WRITE (R334). -/
def execRegisterWrite (t addr : Nat) (data : ByteWrite) (s : State) : Host.Outcome State Fault Refusal :=
  if freeWrite addr then run t (onBar (writeBar0 addr data.enables data.bytes)) s else hostAct t (onBar (writeBar0 addr data.enables data.bytes)) s

/-- RESERVED_ACCESS (R333). -/
def execReservedAccess (t addr bytes : Nat) (write : Bool) (s : State) : Host.Outcome State Fault Refusal := run t (onBar (reservedAccess addr bytes write)) s

/-- Reads that belong to the master: RC registers and snapshot pairs (R355). -/
def masterRead (a : Nat) : Bool := isRc a || (decide (0x3000 ≤ a) && decide (a < 0x3028))

/-- RC_REGISTER_READ (R7), and every other read of BAR0 (R333, R334). -/
def execRcRegisterRead (t : Nat) (read : Access) (s : State) : Host.Outcome State Fault Refusal :=
  if masterRead read.addr then hostAct t (onBar (readBar0 read.addr read.count)) s else run t (onBar (readBar0 read.addr read.count)) s

/-- SNAPSHOT_LO_READ and SNAPSHOT_PAIR_READ (R354). -/
def execSnapshotLoRead (t pair : Nat) (s : State) : Host.Outcome State Fault Refusal := hostAct t (onBar (readPair pair 4)) s

def execSnapshotPairRead (t pair : Nat) (s : State) : Host.Outcome State Fault Refusal := hostAct t (onBar (readPair pair 8)) s

/-- BAR2_WRITE (R336). -/
def execBar2Write (t offset : Nat) (bytes : List Byte) (s : State) : Host.Outcome State Fault Refusal := hostAct t (onBar (bar2Write offset bytes)) s

/-- BAR2_READ (R337, R356). -/
def execBar2Read (t offset count : Nat) (s : State) : Host.Outcome State Fault Refusal := run t (onBar (bar2Read offset count)) s

/-- MSIX_UNMASK (R352). -/
def execMsixUnmask (t vector : Nat) (s : State) : Host.Outcome State Fault Refusal := run t (onBar (fun s => if vector < 64 then setMask vector false s else s)) s

/-- EVENT_WRITE (R350). -/
def execEventWrite (t : Nat) (s : State) : Host.Outcome State Fault Refusal := run t drainOne s

/-- COALESCE_TIMER (R353). -/
def execCoalesceTimer (t : Nat) (s : State) : Host.Outcome State Fault Refusal := run t coalesceOver s

end Sys2Proof.Machine
end

