-- ==== Sys2Proof/Machine/LampCmds.lean ====
section
/-! DEFINITION. The lamp commands (Table 11.8) and the events of the Lamp Bus (chapter 12). -/

namespace Sys2Proof.Machine

open Sys2Proof

/-- The eight string entries of a LAMP_MAP: SLOT, GROUP, TEMP. -/
def mapEntries (r : Req) : List (Nat × Nat × Nat) :=
  (List.range 8).map (fun k =>
    let o := 4 + 4 * k
    (if r.u8 o < 4 then r.u8 o else 255, r.u8 (o + 1), if r.u8 (o + 2) < 16 then r.u8 (o + 2) else 254))

/-- Put a LAMP_MAP in force (R408, R411): the retirement of its strings clears, and bring-up or RUN = 0 follows. A retired slice returns with ENABLE 1 only (Table 16.4). -/
def applyMap (n enable : Nat) (es : List (Nat × Nat × Nat)) (s : State) : State :=
  let s := (List.range 8).foldl (fun s k =>
    let e := es.getD k (255, 255, 254)
    clearFault 0x0301 (8 * n + k)
      (modStr (8 * n + k) (fun t => { t with slot := e.1, group := e.2.1, temp := e.2.2, latched := false, retired := false, retryAt := none, retried := 0, faults := 0 }) s)) s
  if enable = 1 then
    modSlice n (fun a => { a with enable := 1, running := false, step := 1, retired := false, missRun := 0, crcRun := 0, badRun := 0, cfgDue := false, clrLatch := 255, clrFault := 255, tx := none }) s
  else modSlice n (fun a => { a with enable := 0, running := false, step := 0, missRun := 0, crcRun := 0, badRun := 0, cfgDue := true, pend := none, tx := none }) s

/-- LAMP_MAP (R370, R411). -/
def cmdLampMap : Cmd where
  opcode := 0x0901
  len := fixedLen 36
  modes := Mode.quiet
  run := fun r _ =>
    if 64 ≤ r.u8 0 then .error (.tableFull 3)
    else if (mapEntries r).any (fun e => decide (8 ≤ e.2.1) && e.2.1 != 255) then .error (.tableFull 11)
    else .ok { act := applyMap (r.u8 0) (r.flag 1) (mapEntries r) }
  readLen := some (fixedLen 4)
  read := fun r s =>
    if 64 ≤ r.u8 0 then .error (.tableFull 3)
    else .ok (layout 36 ([(0, 1, r.u8 0), (1, 1, (lampSlice s (r.u8 0)).enable)] ++ (List.range 8).flatMap (fun k =>
      let t := lampStr s (8 * r.u8 0 + k)
      [(4 + 4 * k, 1, t.slot), (5 + 4 * k, 1, t.group), (6 + 4 * k, 1, t.temp)])))

def execLampMap (t src : Nat) (s : State) : Host.Outcome State Fault Refusal := run t (serve cmdLampMap src) s

/-- Entries of a LAMP_SET. -/
def setEntries (r : Req) : List (Nat × Nat) := (List.range (r.length / 4)).map (fun i => (r.u16 (4 * i), r.u16 (4 * i + 2)))

/-- A read of COUNT entries from FIRST (R358): COUNT 1 to m. -/
def rangeLen (m size : Nat) (r : Req) : Option Nat :=
  countLen (r.u16 2) m size 4 r

/-- LAMP_SET (R55, R60). -/
def cmdLampSet : Cmd where
  opcode := 0x0902
  len := listLen 0 4 1022
  modes := Mode.all
  run := fun r s =>
    match stagedBusy false s with
    | some e => .error e
    | none =>
      if (setEntries r).any (fun e => decide (512 ≤ e.1)) then .error (.tableFull 11)
      else .ok { act := modStaged (fun b => { b with lamps := (setEntries r).foldl (fun t e => tset 0 e.1 e.2 t) b.lamps }) }
  readLen := some (rangeLen 1020 4)
  read := fun r s =>
    if 512 < r.u16 0 + r.u16 2 then .error (.tableFull 11)
    else .ok ((List.range (r.u16 2)).flatMap (fun i => leBytes 2 (r.u16 0 + i) ++ leBytes 2 (tget 0 (r.u16 0 + i) (bankSel r s).lamps)))

def execLampSet (t src : Nat) (s : State) : Host.Outcome State Fault Refusal := run t (serve cmdLampSet src) s

/-- 1024 points of a TABLE curve in the load area (R337, R394). -/
def curveTable (src : Nat) (s : State) (o : Nat) : List Nat := let b := readLoad (areaOf s src) o 2048 s; (List.range 1024).map (fun i => field b (2 * i) 2)

/-- A change of curve acts from the next round, where D is computed afresh; a change of PWM mode needs a CONFIG write (log 64). -/
def applyCurve (r : Req) (s : State) : State :=
  let cv := r.enum 4 3 0
  let pwm := r.enum 5 2 0
  let tb := if cv = 2 then curveTable r.src s (r.u32 0x0C) else []
  let s := if cv = 2 then drewLoad 2048 s else s
  (List.range (r.u16 2)).foldl (fun s j =>
    let i := r.u16 0 + j
    let was := (lampStr s i).pwm
    let s := modStr i (fun t => { t with curve := cv, pwm := pwm, gamma := clampN (r.u16 6) 16384 49152, fadeMs := Nat.min (r.u32 8) 65000, table := tb, tableAt := r.u32 0x0C, before := some (t.before.getD (t.curve, t.gamma, t.table)) }) s
    if was ≠ pwm && (lampSlice s (i / 8)).running then modSlice (i / 8) (fun a => { a with cfgDue := true }) s else s) s

/-- LAMP_CURVE (R394, R561). -/
def cmdLampCurve : Cmd where
  opcode := 0x0903
  len := fixedLen 16
  modes := Mode.all
  run := fun r _ =>
    if 512 < r.u16 0 + r.u16 2 then .error (.tableFull 11)
    else if r.enum 4 3 0 = 2 && !areaOk (r.u32 0x0C) 2048 1 then .error (.implausible 1)
    else .ok { act := applyCurve r }
  readLen := some (fixedLen 4)
  read := fun r s =>
    if 512 ≤ r.u16 0 then .error (.tableFull 11)
    else
      let t := lampStr s (r.u16 0)
      .ok (layout 16 [(0, 2, r.u16 0), (2, 2, 1), (4, 1, t.curve), (5, 1, t.pwm), (6, 2, t.gamma), (8, 4, t.fadeMs), (0x0C, 4, t.tableAt)])

def execLampCurve (t src : Nat) (s : State) : Host.Outcome State Fault Refusal := run t (serve cmdLampCurve src) s

/-- The clamps of R396: KNEE, FLOOR_TEMP, OFF_TEMP, ON_TEMP. -/
def derateTemps (r : Req) : Int × Int × Int × Int :=
  let lim := fun o => clampI (r.s16 o) (-640) 2400
  let knee := lim 4
  let fl := if lim 6 ≤ knee then knee + 1 else lim 6
  let on := lim 0x0A
  let off := if lim 8 < fl then fl else lim 8
  (knee, fl, if off < on + 16 then on + 16 else off, on)

/-- LAMP_DERATE (R396). -/
def cmdLampDerate : Cmd where
  opcode := 0x0904
  len := fixedLen 16
  modes := Mode.all
  run := fun r _ =>
    if 512 < r.u16 0 + r.u16 2 then .error (.tableFull 11)
    else
      let (knee, fl, off, on) := derateTemps r
      .ok { act := fun s => (List.range (r.u16 2)).foldl (fun s j =>
              modStr (r.u16 0 + j) (fun t => { t with knee := knee, floorT := fl, offT := off, onT := on, floor := r.u16 0x0C }) s) s }
  readLen := some (fixedLen 4)
  read := fun r s =>
    if 512 ≤ r.u16 0 then .error (.tableFull 11)
    else
      let t := lampStr s (r.u16 0)
      .ok (layout 16 [(0, 2, r.u16 0), (2, 2, 1), (4, 2, ofS 16 t.knee), (6, 2, ofS 16 t.floorT), (8, 2, ofS 16 t.offT), (0x0A, 2, ofS 16 t.onT), (0x0C, 2, t.floor)])

def execLampDerate (t src : Nat) (s : State) : Host.Outcome State Fault Refusal := run t (serve cmdLampDerate src) s

/-- LAMP_GROUP: the slices that hold the group's strings get a new GROUP_MAP. -/
def cmdLampGroup : Cmd where
  opcode := 0x0905
  len := fixedLen 4
  modes := Mode.quiet
  run := fun r _ =>
    if 8 ≤ r.u8 0 then .error (.tableFull 11)
    else .ok { act := fun s =>
            let s := { s with lamp.safety := setBit s.lamp.safety (r.u8 0) (r.flag 1 == 1) }
            (((groupStrings s (r.u8 0)).map (fun i => i / 8)).eraseDups).foldl (fun s n => if (lampSlice s n).enable = 1 then modSlice n (fun a => { a with mapDue := true }) s else s) s }
  readLen := some (fixedLen 4)
  read := fun r s => if 8 ≤ r.u8 0 then .error (.tableFull 11) else .ok (layout 4 [(0, 1, r.u8 0), (1, 1, b2n (bit s.lamp.safety (r.u8 0)))])

def execLampGroup (t src : Nat) (s : State) : Host.Outcome State Fault Refusal := run t (serve cmdLampGroup src) s

/-- STATE of a string (R415). -/
def strState (s : State) (i : Nat) : Nat :=
  let t := lampStr s i
  if t.slot = 255 then 0
  else if t.retired then 4
  else if t.latched then 3
  else if t.group < 8 && bit s.lamp.off t.group then 5
  else if duty s i = 0 then 1 else 2

/-- 16 bytes of one string. -/
def strStat (s : State) (i : Nat) : List Byte :=
  let t := lampStr s i
  let temp := match lampTemp s i with | some v => v | none => t.knee
  layout 16 [(0, 1, strState s i), (1, 1, b2n (undiagnosed s i) + 2 * b2n (decide (t.k < 65536)) + 4 * b2n t.overTemp + 8 * b2n t.override.isSome), (2, 2, t.sent), (4, 2, t.lt),
    (6, 2, tget 32768 i s.lamp.trim), (8, 2, ofS 16 temp), (0x0A, 2, Nat.min t.k 0xFFFF), (0x0C, 2, Nat.min ((s.now - diagFrom t) / 1000000) 0xFFFF), (0x0E, 2, t.faults)]

/-- LAMP_STAT (R415). -/
def cmdLampStat : Cmd where
  opcode := 0x0906
  len := rangeLen 254 16
  modes := Mode.all
  run := fun r s =>
    if 512 < r.u16 0 + r.u16 2 then .error (.tableFull 11)
    else
      let ret := sumN ((List.range 64).map (fun n => if (lampSlice s n).retired then 2 ^ n else 0))
      .ok { data := layout 16 [(0, 1, s.lamp.off), (1, 1, s.lamp.safety), (2, 2, r.u16 2), (8, 8, ret)] ++ (List.range (r.u16 2)).flatMap (fun j => strStat s (r.u16 0 + j)) }

def execLampStat (t src : Nat) (s : State) : Host.Outcome State Fault Refusal := run t (serve cmdLampStat src) s

/-- A group is rearmed (R408). -/
def rearmGroup (g : Nat) (s : State) : State :=
  if !(bit s.lamp.off g) then s
  else
    let s := clearFault 0x0304 g { s with lamp.off := setBit s.lamp.off g false, lamp.rearm := s.lamp.rearm.set g (s.now + 1), lamp.casting := s.lamp.casting.filter (· != g) }
    (groupStrings s g).foldl (fun s i =>
      let s := modStr i (fun t => { t with latched := false }) s
      fadeUp i (modSlice (i / 8) (fun a => { a with clrLatch := setBit a.clrLatch (i % 8) true, clrFault := setBit a.clrFault (i % 8) true }) s)) s

/-- LAMP_REARM (R408). -/
def cmdLampRearm : Cmd where
  opcode := 0x0907
  len := fixedLen 4
  modes := Mode.all
  run := fun r _ => .ok { act := fun s => (maskIdx 8 (r.u8 0)).foldl (fun s g => rearmGroup g s) s }

def execLampRearm (t src : Nat) (s : State) : Host.Outcome State Fault Refusal := run t (serve cmdLampRearm src) s

/-- LAMP_ROUND (R386). -/
def execLampRound (t : Nat) (s : State) : Host.Outcome State Fault Refusal := run t (fun s => fadesDone (lampRound s)) s

/-- LAMP_SLOT (R386). -/
def execLampSlot (t slice : Nat) (s : State) : Host.Outcome State Fault Refusal := run t (lampSlot slice) s

/-- LAMP_REPLY (R384). -/
def execLampReply (t slice : Nat) (levels : List Bool) (s : State) : Host.Outcome State Fault Refusal := run t (lampReply slice levels) s

/-- LAMP_REPLY_MISSING (R385, R410). -/
def execLampReplyMissing (t slice : Nat) (s : State) : Host.Outcome State Fault Refusal := run t (replyMissing slice) s

/-- LINE_PULSE (R391). -/
def execLinePulse (t : Nat) (s : State) : Host.Outcome State Fault Refusal := run t pulseNow s

/-- DIAG_MARKER (R401). -/
def execDiagMarker (t : Nat) (s : State) : Host.Outcome State Fault Refusal := run t diagMarker s

/-- STRING_RETRY (R407). -/
def execStringRetry (t string : Nat) (s : State) : Host.Outcome State Fault Refusal := run t (stringRetry string) s

/-- STRING_UNDIAGNOSED (R403). -/
def execStringUndiagnosed (t string : Nat) (s : State) : Host.Outcome State Fault Refusal := run t (stringUndiagnosed string) s

/-- LAMP_UNDIAGNOSED (R404). -/
def execLampUndiagnosed (t string : Nat) (s : State) : Host.Outcome State Fault Refusal := run t (lampUndiagnosed string) s

end Sys2Proof.Machine
end

