-- ==== Sys2Proof/Machine/MotCmds.lean ====
section
/-! DEFINITION. The motion commands (Table 11.8) and the events of the axes (chapter 13). -/

namespace Sys2Proof.Machine

open Sys2Proof

/-- Put an AXIS_CFG in force (R419). -/
def applyAxisCfg (n : Nat) (c : AxisCfg) (s : State) : State :=
  let was := axisOf s n
  if c.enable = 1 then
    modAxis n (fun a => { a with cfg := c, state := if a.state = 4 then 4 else 1, raised := true, holding := true, vmTime := if a.cfg.enable = 1 then a.vmTime else s.now, satSince := 0, satPosted := false, faults := 0 }) s
  else
    let s := modAxis n (fun a => { a with cfg := c, state := 0, lost := true, motion := none, req := none, homing := none, vel := {}, dutyA := 0, dutyB := 0, satSince := 0 }) s
    if was.lost then s else evAxis 4 0 n s

/-- AXIS_CFG (R419). -/
def cmdAxisCfg : Cmd where
  opcode := 0x0A01
  len := fixedLen 24
  modes := Mode.quiet
  run := fun r s =>
    let n := r.u8 0
    if 4 ≤ n then .error (.tableFull 11)
    else if (axisOf s n).state = 2 || (axisOf s n).state = 3 || (axisOf s n).state = 5 then .error (.busy 0x0A)
    else
      let c : AxisCfg :=
        { enable := r.flag 1, stopMode := r.enum 2 2 0, debounce := Nat.min (r.u8 3) 100, pwm := clampN (r.u8 4) 25 80,
          pol := r.u8 5 % 8, invert := r.flag 6, profile := r.enum 7 2 0, res := clampN (r.u16 8) 100 50000, ind := Nat.max (r.u16 0x0A) 10,
          ke := r.u16 0x0C, run := Nat.min (r.u16 0x0E) 5000, hold := Nat.min (r.u16 0x10) 5000, backlash := r.u32 0x14 }
      .ok { act := applyAxisCfg n c }
  readLen := some (fixedLen 4)
  read := fun r s =>
    if 4 ≤ r.u8 0 then .error (.tableFull 11)
    else
      let c := (axisOf s (r.u8 0)).cfg
      .ok (layout 24 [(0, 1, r.u8 0), (1, 1, c.enable), (2, 1, c.stopMode), (3, 1, c.debounce), (4, 1, c.pwm), (5, 1, c.pol), (6, 1, c.invert),
        (7, 1, c.profile), (8, 2, c.res), (0x0A, 2, c.ind), (0x0C, 2, c.ke), (0x0E, 2, c.run), (0x10, 2, c.hold), (0x14, 4, c.backlash)])

def execAxisCfg (t src : Nat) (s : State) : Host.Outcome State Fault Refusal := run t (serve cmdAxisCfg src) s

/-- Earlier moves of an axis are superseded by the request (R371). -/
def movesSuperseded (n : Nat) (r : Req) (s : State) : State :=
  completeAll (fun p => p.opcode == 0x0A02 && p.res == n && p.src * 2 ^ 32 + p.seq != reqKey r) jobFailed 1 s

/-- Put an AXIS_MOVE in force (R427, R428, R437). Earlier moves and stops of the axis are superseded (R371). DESIGN CHOICE (log 97): a moving axis whose new move starts toward an active end switch makes a profile stop. -/
def applyMove (r : Req) (n : Nat) (rel : Bool) (m : MotionSet) (s : State) : State :=
  let a := axisOf s n
  let here := axisNow s n
  let goal := if rel then satS 32 (microsteps a.pos + r.s32 4) else r.s32 4
  let dir := (Frac.sub (Frac.ofInt goal) here.1.1).sgn
  let own := fun (p : Pend) => p.src * 2 ^ 32 + p.seq == reqKey r
  let s := modAxis n (fun a => { a with set := m, target := goal }) s
  if a.state = 0 then complete own jobFailed 0 0 s
  else
    let s := stopsSuperseded n (movesSuperseded n r s)
    if limitAhead a dir then complete own jobFailed 3 0 (askStop n s)
    else modAxis n (fun a => { a with state := 2, homing := none, req := some { target := some goal, set := m } }) s

/-- AXIS_MOVE (R371, R427, R428). -/
def cmdAxisMove : Cmd where
  opcode := 0x0A02
  len := fixedLen 24
  modes := fun m => m == .ready || m.cap || m == .replay || m == .service
  run := fun r s =>
    let n := r.u8 0
    let rel := r.flag 1 == 1
    let a := axisOf s n
    let owned := (n == s.proof.proofAxis && (s.sys.mode == .inline || s.sys.mode == .proof)) || (n == s.proof.benchAxis && s.cal.run.isSome)
    if 4 ≤ n then .error (.tableFull 11)
    else if owned then .error (.wrongMode s.sys.mode 0x0D)
    else if !rel && a.lost then .error (.wrongMode s.sys.mode 6)
    else if a.homing.isSome then .error (.busy 0x0A)
    else
      let m : MotionSet := { vmax := clampN (r.u32 8) 1 (vmaxLimit a.cfg), accel := clampN (r.u32 0x0C) 1 (2 ^ 28), decel := clampN (r.u32 0x10) 1 (2 ^ 28), jerk := clampN (r.u32 0x14) 1 (2 ^ 31) }
      .ok { accepted := some n, act := applyMove r n rel m }

def execAxisMove (t src : Nat) (s : State) : Host.Outcome State Fault Refusal := run t (serve cmdAxisMove src) s

/-- Start a homing search (R434). -/
def startHome (n : Nat) (h : Homing) (s : State) : State :=
  let a := axisOf s n
  let s := modAxis n (fun a => { a with state := 3 }) s
  if a.active 0 then homeLeg n { h with phase := 0 } (-h.dir) s else homeLeg n { h with phase := 2 } h.dir s

/-- AXIS_HOME (R434, R435). -/
def cmdAxisHome : Cmd where
  opcode := 0x0A03
  len := fixedLen 20
  modes := fun m => m == .ready || m == .service
  run := fun r s =>
    let n := r.u8 0
    let a := axisOf s n
    let h : Homing :=
      { phase := 0, dir := if r.enum 1 2 0 = 1 then 1 else -1, speed := clampN (r.u32 4) 1 (vmaxLimit a.cfg), accel := clampN (r.u32 8) 1 (2 ^ 28),
        offset := r.s32 0x0C, maxTravel := r.u32 0x10, legFrom := 0, reversed := false }
    if 4 ≤ n then .error (.tableFull 11)
    else if axisMoving a then .error (.busy 0x0A)
    else .ok { accepted := some n, act := fun s => if (axisOf s n).state = 0 then axisDone n jobFailed 0 s else startHome n h s }

def execAxisHome (t src : Nat) (s : State) : Host.Outcome State Fault Refusal := run t (serve cmdAxisHome src) s

/-- An immediate stop of one axis (R429, R371, Table 13.4). -/
def immediateStop (n : Nat) (s : State) : State :=
  if (axisOf s n).state = 0 then s
  else
    let s := if (axisOf s n).state = 5 then (if s.mot.cycle.isSome then { setCycle (fun c => { c with final := true, phase := if c.phase == .cut || c.phase == .decel then .cut else .rest, pulses := [] }) s with
             tr.resumes := false, sys.stopping := some (s.sys.stopping.getD s.now) } else startCut true s) else s
    stopDone n (axisDone n jobFailed 2 (loseAxis n s))

/-- A profile stop of one axis (R429, R445, R447). -/
def profileStop (r : Req) (n : Nat) (s : State) : State :=
  let a := axisOf s n
  let s := movesSuperseded n r (stopsSuperseded n s)
  if a.state = 5 then
    if s.mot.cycle.isSome then endCycle s else startCut true s
  else
    match a.homing with
    | some h => axisDone n jobFailed 0 (modAxis n (fun a => { a with state := 2, homing := none, lost := if h.phase = 4 then false else a.lost }) (askStop n s))
    | none => askStop n s

/-- AXIS_STOP (R371, R429). -/
def cmdAxisStop : Cmd where
  opcode := 0x0A04
  len := fixedLen 4
  modes := Mode.all
  run := fun r s =>
    let axes := maskIdx 4 (r.u8 0)
    if 16 ≤ r.u8 0 then .error (.tableFull 11)
    else if r.enum 1 2 0 = 1 then .ok { act := fun s => axes.foldl (fun s n => immediateStop n s) s }
    else
      let going := axes.filter (fun n => axisMoving (axisOf s n))
      .ok { accepted := some (256 + r.u8 0),
            act := fun s =>
              let s := axes.foldl (fun s n => profileStop r n s) s
              if going.isEmpty then complete (fun p => p.src * 2 ^ 32 + p.seq == reqKey r) 0 0 0 s
              else { s with mot.stops := s.mot.stops ++ [(reqKey r, sumN (going.map (fun n => 2 ^ n)))] } }

def execAxisStop (t src : Nat) (s : State) : Host.Outcome State Fault Refusal := run t (serve cmdAxisStop src) s

/-- AXIS_STAT (R418 to R431). -/
def cmdAxisStat : Cmd where
  opcode := 0x0A05
  len := fixedLen 4
  modes := Mode.all
  run := fun r s =>
    if 4 ≤ r.u8 0 then .error (.tableFull 11)
    else
      let a := axisOf s (r.u8 0)
      let sw := fun i => b2n (a.active i)
      .ok { data := layout 32 [(0, 1, a.state), (1, 1, b2n a.lost + 2 * sw 0 + 4 * sw 1 + 8 * sw 2 + 16 * b2n a.driverFlt), (4, 4, ofS 32 (microsteps a.pos)),
              (8, 4, ofS 32 a.vel.trunc), (0x0C, 4, ofS 32 a.target), (0x10, 4, (sarRound (a.vm * 1000) 16).toNat), (0x14, 2, a.dutyA), (0x16, 2, a.dutyB), (0x18, 4, a.faults)] }

def execAxisStat (t src : Nat) (s : State) : Host.Outcome State Fault Refusal := run t (serve cmdAxisStat src) s

/-- PROOF_CFG (R81, R416). -/
def cmdProofCfg : Cmd where
  opcode := 0x0A06
  len := fixedLen 16
  modes := Mode.quiet
  run := fun r _ =>
    let bad := fun (n : Nat) => decide (4 ≤ n) && n != 255
    if bad (r.u8 0) || bad (r.u8 1) then .error (.tableFull 11)
    else .ok { act := fun s => { s with proof := { proofAxis := r.u8 0, benchAxis := r.u8 1, proofSource := r.enum 2 5 0, benchSource := r.enum 3 5 0, proofScale := r.u32 4, benchScale := r.u32 8, lag := Nat.min (r.u16 0x0C) 1000 } } }
  readLen := some (fixedLen 0)
  read := fun _ s =>
    let c := s.proof
    .ok (layout 16 [(0, 1, c.proofAxis), (1, 1, c.benchAxis), (2, 1, c.proofSource), (3, 1, c.benchSource), (4, 4, c.proofScale), (8, 4, c.benchScale), (0x0C, 2, c.lag)])

def execProofCfg (t src : Nat) (s : State) : Host.Outcome State Fault Refusal := run t (serve cmdProofCfg src) s

/-- PROFILE_TICK (R425). -/
def execProfileTick (t : Nat) (s : State) : Host.Outcome State Fault Refusal := run t profileTick s

/-- The pulse of one coil (R422): on the input that its sign names, centred at an instant; none of width 0. -/
def coilPulse (n input duty centre kHz : Nat) (s : State) : State :=
  if bits duty 0 12 = 0 then s else emit (.pwm n (input + duty / 32768) centre (bits duty 0 12) kHz) s

/-- PWM_PERIOD (R420 to R423): p and v at the centre of the period that starts now; coil A's pulse stands at that centre, coil B's half a period later. A stop of Table 13.3 takes its levels here (R429). -/
def pwmPeriod (n : Nat) (s : State) : State :=
  let a := axisOf s n
  if a.cfg.enable != 1 || 4 ≤ n || (a.pwmAt != 0 && s.now + 1 < a.pwmAt + 1000000 / a.cfg.pwm) then s
  else if wantDrive s a != .pwm then (if wantDrive s a = a.drive then s else setDrive n (wantDrive s a) s)
  else
    let t := s.now + 500000 / a.cfg.pwm
    let (p, v) := match a.motion with
      | some m => let x := (motionAt m t).1; (toGrid x.1 (Config.profileRound s.free), x.2.1)
      | none => (a.pos, {})
    let (va, vb) := coilVoltages a.cfg p v (if a.motion.isSome || !a.holding then a.cfg.run else a.cfg.hold)
    let (da, sa) := dutyOf va a.vm
    let (db, sb) := dutyOf vb a.vm
    let sat := (sa || sb) && a.motion.isSome
    modAxis n (fun a => { a with dutyA := da, dutyB := db, satSince := if sat then (if a.satSince = 0 then s.now + 1 else a.satSince) else 0, satPosted := a.satPosted && sat, pwmAt := s.now + 1 })
      (coilPulse n 2 db (s.now + 1000000 / a.cfg.pwm) a.cfg.pwm (coilPulse n 0 da t a.cfg.pwm { s with free := s.free + 1 }))

def execPwmPeriod (t axis : Nat) (s : State) : Host.Outcome State Fault Refusal := run t (pwmPeriod axis) s

/-- SWITCH_EDGE (R431). -/
def execSwitchEdge (t axis switch : Nat) (level : Bool) (s : State) : Host.Outcome State Fault Refusal := run t (switchEdge axis switch level) s

/-- DRIVER_FAULT (R424). -/
def driverFault (n : Nat) (s : State) : State :=
  let a := axisOf s n
  if a.drive == .low then s
  else faultStop n (raise 0x0604 n (evAxis 5 0 n (modAxis n (fun a => { a with driverFlt := true }) s)))

def execDriverFault (t axis : Nat) (s : State) : Host.Outcome State Fault Refusal := run t (driverFault axis) s

/-- DRIVER_FLT_CLEAR (R424). -/
def execDriverFltClear (t axis : Nat) (s : State) : Host.Outcome State Fault Refusal :=
  run t (fun s => if axis < 4 then clearFault 0x0604 axis (modAxis axis (fun a => { a with driverFlt := false }) s) else s) s

/-- SUPPLY_LOW (R423). -/
def supplyLow (n : Nat) (s : State) : State :=
  let a := axisOf s n
  if a.motion.isSome && a.satSince != 0 && !a.satPosted && decide (a.satSince - 1 + 2000000 ≤ s.now) then
    evAxis 6 0 n (modAxis n (fun a => { a with satPosted := true, faults := satInc 32 a.faults }) s)
  else s

def execSupplyLow (t axis : Nat) (s : State) : Host.Outcome State Fault Refusal := run t (supplyLow axis) s

/-- VM_TIMEOUT (R423). -/
def execVmTimeout (t axis : Nat) (s : State) : Host.Outcome State Fault Refusal :=
  run t (fun s => let a := axisOf s axis; if a.cfg.enable == 1 && decide (a.vmTime + 10000000 ≤ s.now) then faultStop axis s else s) s

/-- HOLD_CURRENT (R420). -/
def execHoldCurrent (t axis : Nat) (s : State) : Host.Outcome State Fault Refusal :=
  run t (fun s => let a := axisOf s axis; if !(axisMoving a) && decide (a.restAt + 100000000 ≤ s.now) then modAxis axis (fun a => { a with holding := true }) s else s) s

/-- RE_APPROACH (R443). -/
def execReApproach (t : Nat) (s : State) : Host.Outcome State Fault Refusal := run t reApproach s

/-- RESTART_CHECK (R444). -/
def execRestartCheck (t : Nat) (s : State) : Host.Outcome State Fault Refusal := run t restartCheck s

end Sys2Proof.Machine
end

