-- ==== Sys2Proof/Machine/Ports.lean ====
section
/-! DEFINITION. What happens at a sensor port: SYNC, packets, rows, lanes, control lane, training and retraining (chapter 4). -/

namespace Sys2Proof.Machine

open Sys2Proof

/-- SYNC_RISE (R121, R123). -/
def execSyncRise (t port : Nat) (s : State) : Host.Outcome State Fault Refusal := run t (syncRise port) s

/-- SYNC_FALL (R121). -/
def execSyncFall (t port : Nat) (s : State) : Host.Outcome State Fault Refusal := run t (syncFall port) s

/-- TILE_PACKET (R134). -/
def execTilePacket (t port idles : Nat) (blocks : List (List Nat)) (s : State) : Host.Outcome State Fault Refusal :=
  run t (rowsIn port idles blocks) s

/-- ALIGNMENT_ROW (R129). -/
def execAlignmentRow (t port idles : Nat) (blocks : List (List Nat)) (s : State) : Host.Outcome State Fault Refusal :=
  run t (rowsIn port idles blocks) s

/-- BLOCK_LOCK_LOSS (R129). -/
def execBlockLockLoss (t port : Nat) (heard : BallHeaders) (s : State) : Host.Outcome State Fault Refusal := run t (headersIn port heard.ball heard.headers) s

/-- LATE_ERROR (R134): a tile-plane-line is not complete 32 µs after the end of integration. -/
def lateError (p : Nat) (s : State) : State :=
  match oldestOwed s p with
  | none => s
  | some (_, g) => if s.now < g.ts + g.e + 32000 then s else errorEvent p 5 s

def execLateError (t port : Nat) (s : State) : Host.Outcome State Fault Refusal := run t (lateError port) s

/-- TRAINING_COMPLETE (R143). -/
def execTrainingComplete (t port : Nat) (ok : Bool) (s : State) : Host.Outcome State Fault Refusal := run t (trainingOver port ok) s

/-- RETRAIN_COMPLETE (R145). -/
def execRetrainComplete (t port : Nat) (ok : Bool) (laneOrder polarity : Nat) (skew : List Int) (s : State) : Host.Outcome State Fault Refusal :=
  run t (retrainOver port ok laneOrder polarity skew) s

/-- RETRAIN_RETRY (R149). -/
def execRetrainRetry (t port : Nat) (s : State) : Host.Outcome State Fault Refusal := run t (retrainRetry port) s

/-- LOCK_LOSS (R149): a lane of a trained port is out of block lock for more than 10 ms. -/
def lockLoss (p lane : Nat) (s : State) : State :=
  let x := portOf s p
  let v := x.lock.getD lane 0
  if (x.state == .ready || x.state == .retraining) && v != 0 && decide (v - 1 + 10000000 < s.now) then retirePort p 0x12 s else s

def execLockLoss (t port lane : Nat) (s : State) : Host.Outcome State Fault Refusal := run t (lockLoss port lane) s

/-- CTL_TRANSACTION (R137 to R139). -/
def execCtlTransaction (t port : Nat) (write : Bool) (addr data : Nat) (s : State) : Host.Outcome State Fault Refusal :=
  run t (ctlTransaction port write addr data) s

/-- CTL_REPLY (R138). -/
def execCtlReply (t port : Nat) (levels : List Bool) (s : State) : Host.Outcome State Fault Refusal := run t (ctlReply port levels) s

/-- CTL_REPLY_LOST (R138). -/
def execCtlReplyLost (t port : Nat) (s : State) : Host.Outcome State Fault Refusal := run t (ctlTimeout port) s

end Sys2Proof.Machine
end

