-- ==== Sys2Proof/Machine/SecCmds.lean ====
section
/-! DEFINITION. The fault log, fault policy, secrets and debug port (R519, R528 to R535), the loopback, the energy meter and the clocks (R22 to R25, R35 to R37). -/

namespace Sys2Proof.Machine

open Sys2Proof

/-! ### Fault log and policy (R519, R529) -/

/-- Number of the oldest entry held; that of the next entry where none is (log 76). -/
def oldestEntry (s : State) : Nat := (s.flt.log.head?.map LogEntry.number).getD s.flt.next

/-- FAULT_LOG (R529). -/
def cmdFaultLog : Cmd where
  opcode := 0x0D01
  len := fun r => countLen (r.u16 4) 127 32 8 r
  modes := Mode.all
  inRec := true
  run := fun r s =>
    .ok { data := layout 8 [(0, 4, s.flt.next), (4, 4, oldestEntry s)] ++ ((s.flt.log.filter (fun e => decide (r.u32 0 ≤ e.number))).take (r.u16 4)).flatMap logBytes }

def execFaultLog (t src : Nat) (s : State) : Host.Outcome State Fault Refusal := run t (serve cmdFaultLog src) s

/-- Entry i of a FAULT_POLICY: code and action. -/
def policyEntry (r : Req) (i : Nat) : Nat × Nat := (r.u16 (4 * i), r.u8 (4 * i + 2))

/-- One entry in force: an undefined action takes the default, and a fixed fault changes nothing (R373, R519). -/
def setPolicy (t : Tbl Nat) (e : Nat × Nat) : Tbl Nat :=
  match faultRow e.1 with
  | some (_, _, true, _) => tset 0 e.1 (if e.2 < 4 then e.2 + 1 else 0) t
  | _ => t

/-- FAULT_POLICY (R373, R519). -/
def cmdFaultPolicy : Cmd where
  opcode := 0x0D02
  len := listLen 0 4 1022
  modes := Mode.all
  run := fun r _ =>
    let es := (List.range (r.length / 4)).map (policyEntry r)
    if es.any (fun e => (faultRow e.1).isNone) then .error (.tableFull 11) else .ok { act := fun s => { s with flt.policy := es.foldl setPolicy s.flt.policy } }
  readLen := some (fun r => countLen (r.u16 2) 1022 4 4 r)
  read := fun r s =>
    .ok (((faultTable.filter (fun f => decide (r.u16 0 ≤ f.1))).take (r.u16 2)).flatMap (fun f =>
      layout 4 [(0, 2, f.1), (2, 1, if f.2.2.1 then faultAction s f.1 else 0xFF)]))

def execFaultPolicy (t src : Nat) (s : State) : Host.Outcome State Fault Refusal := run t (serve cmdFaultPolicy src) s

/-! ### Authority (R532 to R535) -/

/-- EV_SECURITY of a kind. -/
def evSecurity (kind count : Nat) (s : State) : State := post 14 0xFFFF (layout 16 [(0, 1, kind), (4, 4, count)]) s

/-- Attempts are refused without a check (R534). -/
def locked (s : State) : Bool := match s.sec.lockUntil with | some t => decide (s.now < t) | none => false

/-- A refused authority (R534): the eighth within 60 s starts the refusal period. -/
def refuseAuth (s : State) : State :=
  let n := s.sec.authFails + 1
  let l := if locked s then s.sec.refusals else s.now :: s.sec.refusals.filter (fun t => decide (s.now < t + 60000000000))
  let lock := if !locked s && decide (8 ≤ l.length) then some (s.now + 60000000000) else s.sec.lockUntil
  raiseWith 0x0A02 0xFFFF (faultData n []) 0 (evSecurity 4 n { s with sec := { s.sec with authFails := n, refusals := l, lockUntil := lock } })

/-- The authority that a request carries: the owner token, or zeros where none is held. -/
def authorised (token : Nat) (s : State) : Bool := !(locked s) && token == s.sec.ownerToken.getD 0

/-- AUTH_LOCKOUT_END (R534). -/
def authLockoutEnd (s : State) : State := if s.sec.lockUntil.isSome && !(locked s) then { s with sec := { s.sec with lockUntil := none, refusals := [] } } else s

def execAuthLockoutEnd (t : Nat) (s : State) : Host.Outcome State Fault Refusal := run t authLockoutEnd s

/-! ### Opening the debug port (R532, R533) -/

/-- Step 3 of R532: the open counts, the erase is marked and begins. -/
def beginOpen (opener seq : Nat) (s : State) : State :=
  evSecurity 1 0 { s with sec := { s.sec with opens := s.sec.opens + 1, erasePending := true, opener := opener, openerSeq := seq } }

/-- DEBUG_OPEN (R487, R532, R534). -/
def cmdDebugOpen : Cmd where
  opcode := 0x0D10
  len := fixedLen 16
  modes := fun m => m == .standby || m == .service
  run := fun r s =>
    if r.src = 4 then .error (.wrongMode s.sys.mode 0)
    else if s.sec.erasePending then .error (.busy 0x0D)
    else if !authorised (field r.params 0 16) s then .ok (Done.refused Err.authFailed refuseAuth)
    else if 32 ≤ s.sec.opens then .error (.implausible 1)
    else .ok { accepted := some 0, act := beginOpen r.src r.seq }

def execDebugOpen (t src : Nat) (s : State) : Host.Outcome State Fault Refusal := run t (serve cmdDebugOpen src) s

/-- Every segment that the spool holds or that is being written becomes unreadable, and its keys are lost (R318, R532, Table 16.10). -/
def sealSpool (s : State) : State := { s with spool.segs := s.spool.segs.map (fun g => { g with sealed := true }), spool.cmds := s.spool.cmds.map (fun c => { c with sealed := true }), spool.keys := none, spool.wrapped := [] }

/-- A spool in use goes on under fresh keys, wrapped under the new SPOOL_WRAP (log 41). -/
def rekeySpool (s : State) : State := if s.spool.opened then writeSupers (drawKeys s) else s

/-- SECRETS_ERASED (R532 steps 4 to 6). -/
def secretsErased (s : State) : State :=
  if !s.sec.erasePending || s.sec.opener = 6 then s
  else
    let o := s.sec.opener
    let q := s.sec.openerSeq
    let s := sealSpool { s with sec := { s.sec with stationKey := none, ownerToken := none, spoolWrap := none, identity := none, erased := true, noOwner := false, erasePending := false, opener := 6 } }
    let s := evSecurity 2 0 s
    let s := evSecurity 3 0 (raise 0x0A01 0xFFFF { s with sec := { s.sec with debugOpen := true } })
    complete (fun p => p.opcode == 0x0D10 && p.src == o && p.seq == q) 0 0 0 s

def execSecretsErased (t : Nat) (s : State) : Host.Outcome State Fault Refusal := run t secretsErased s

/-- The 48-byte challenge (R533). -/
def challenge (nonce : Nat) : List Byte := leBytes 32 nonce ++ leBytes 8 (Config.serial).toNat ++ zeros 8

/-- JTAG_INSTRUCTION (R530, R533): codes 0 BYPASS, 1 IDCODE, 2 SAMPLE/PRELOAD, 3 EXTEST, 4 the authenticated unlock, which presents a challenge; any other is refused (log 77). -/
def jtagInstruction (ir : Nat) (s : State) : State :=
  if 5 ≤ ir || (ir = 3 && s.sys.mode != .reset) then s
  else
    let s := { s with sec := { s.sec with jtagIr := ir } }
    if ir = 1 then emit (.jtag (leBytes 4 (Config.idcode).toNat)) s
    else if ir = 4 then
      let n := (Config.random s.free).toNat
      emit (.jtag (challenge n)) { s with free := s.free + 1, sec := { s.sec with nonce := some n } }
    else s

def execJtagInstruction (t ir : Nat) (s : State) : Host.Outcome State Fault Refusal := run t (jtagInstruction ir) s

/-- A signature over SHA-384 of the challenge by the Balpearis debug key (R533). -/
def unlockOk (nonce : Nat) (signature : List Byte) : Bool := ecdsaVerify (beBytes 96 (Config.debugKey).toNat) (sha384 (challenge nonce)) signature

/-- JTAG_UNLOCK (R533, R534): the answer to the challenge presented; each serves one attempt. -/
def jtagUnlock (signature : List Byte) (s : State) : State :=
  match s.sec.nonce with
  | none => s
  | some n =>
    let s := { s with sec := { s.sec with nonce := none } }
    if locked s || !unlockOk n signature then refuseAuth s
    else if 32 ≤ s.sec.opens || s.sec.erasePending then s
    else beginOpen 5 0 s

def execJtagUnlock (t : Nat) (signature : List Byte) (s : State) : Host.Outcome State Fault Refusal := run t (jtagUnlock signature) s

/-- ERASED clears once the other secrets are present and the owner token is present or confirmed absent (R535). -/
def clearErased (c : SecSt) : SecSt :=
  if c.stationKey.isSome && c.spoolWrap.isSome && c.identity.isSome && (c.ownerToken.isSome || c.noOwner) then { c with erased := false } else c

/-- A new secret replaces the old (R535): bytes holds the 32 bytes unwrapped, for kinds 0 and 1. A new station key has a download go on from its saved state (R516). -/
def provision (kind : Nat) (bytes : List Byte) (s : State) : State :=
  let draw := (Config.random s.free).toNat
  let tok := field bytes 0 16
  let s :=
    if kind = 0 then fromSaved { s with sec := clearErased { s.sec with stationKey := some (field bytes 0 32) } }
    else if kind = 1 then { s with sec := clearErased { s.sec with ownerToken := if tok = 0 then none else some tok, noOwner := tok == 0 } }
    else if kind = 2 then rekeySpool (sealSpool { s with sec := clearErased { s.sec with spoolWrap := some draw }, free := s.free + 1 })
    else { s with sec := clearErased { s.sec with identity := some draw }, free := s.free + 1 }
  evSecurity 6 0 s

/-- What BLOB holds under the unit's provisioning key (RFC 3394), none where its integrity check fails. -/
def blobOf (r : Req) : Option (List Byte) := keyUnwrap (leBytes 32 (Config.provisionKey).toNat) (slice r.params 0x14 40)

/-- KEY_PROVISION (R487, R534, R535). -/
def cmdKeyProvision : Cmd where
  opcode := 0x0D11
  len := fixedLen 60
  modes := fun m => m == .standby || m == .service
  run := fun r s =>
    let k := r.enum 0 4 0
    if r.src = 4 || s.sec.debugOpen then .error (.wrongMode s.sys.mode 0)
    else if s.sec.erasePending then .error (.busy 0x0D)
    else if !authorised (field r.params 4 16) s then .ok (Done.refused Err.authFailed refuseAuth)
    else if 2 ≤ k then .ok { act := provision k [] }
    else
      match blobOf r with
      | some b => .ok { act := provision k b }
      | none => .error (.implausible (Config.openDetail 0x0D11).toNat)

def execKeyProvision (t src : Nat) (_nothing : Unit) (s : State) : Host.Outcome State Fault Refusal := run t (serve cmdKeyProvision src) s

/-! ### Loopback (R48, R52, R373) -/

/-- DIAG_LOOPBACK (R373). -/
def cmdDiagLoopback : Cmd where
  opcode := 0x0E01
  len := fixedLen 12
  modes := fun m => m == .service
  inRec := true
  run := fun r s =>
    let tg := r.enum 0 5 0
    let ms := clampN (r.u32 8) 1 60000
    if s.sys.mode = .recovery && tg != 4 then .error (.wrongMode s.sys.mode 0)
    else if s.loop.isSome then .error (.busy 0x0E)
    else .ok { accepted := some 0, act := fun s => { s with loop := some { target := tg, ports := r.u32 4, src := r.src, seq := r.seq, until' := s.now + ms * 1000000 } } }

def execDiagLoopback (t src : Nat) (s : State) : Host.Outcome State Fault Refusal := run t (serve cmdDiagLoopback src) s

/-- LOOPBACK_COMPLETE (R373): RESULT carries the bit errors. -/
def loopbackComplete (errors : Nat) (s : State) : State :=
  match s.loop with
  | none => s
  | some l => if s.now < l.until' then s else complete (fun p => p.opcode == 0x0E01 && p.src == l.src && p.seq == l.seq) 0 0 (Nat.min errors 0xFFFF) { s with loop := none }

def execLoopbackComplete (t errors : Nat) (s : State) : Host.Outcome State Fault Refusal := run t (loopbackComplete errors) s

/-! ### The energy meter (R35 to R37) -/

/-- Whole-device energy per line over the last 1024 delivered lines, in whole nJ; none before there are so many. The energy before the first line since the counters were cleared is 0. -/
def lineAvg (m : MeterSt) : Option Nat :=
  if m.marks.length < 1024 then none else some (Nat.min ((m.marks.headD 0 - m.marks.getD 1024 0) / 1024) (2 ^ 32 - 1))

/-- ENERGY_TICK (R35): 1 µs after the last one every channel accumulates, and the tick latches what ENERGY_READ returns (R36). -/
def energyTick (s : State) : State :=
  let m := s.meter
  let ch := (List.range 25).map (fun c => wrapInc 64 (m.ch.getD c 0) (Config.energy c m.ticks).toNat)
  if s.now < m.lastTick + 1000 then s
  else { s with meter := { m with ch := ch, lastTick := s.now, ticks := m.ticks + 1, tSnap := stationTime s, snapIn := m.samplesIn, snapOut := m.samplesOut, snapLines := m.linesOut, snapAvg := lineAvg m } }

def execEnergyTick (t : Nat) (s : State) : Host.Outcome State Fault Refusal := run t energyTick s

/-- ENERGY_READ (R36). E_LINE_AVG over fewer than 1024 lines is a value the manual does not state: it is free (log 78). -/
def cmdEnergyRead : Cmd where
  opcode := 0x0E02
  len := fixedLen 0
  modes := Mode.all
  run := fun _ s =>
    let m := s.meter
    .ok { data := leBytes 8 m.tSnap ++ m.ch.flatMap (leBytes 8) ++ leBytes 8 m.snapIn ++ leBytes 8 m.snapOut ++ leBytes 8 m.snapLines
                  ++ leBytes 4 (m.snapAvg.getD (Config.freeValue s.free).toNat),
          act := fun s => { s with free := s.free + 1 } }

def execEnergyRead (t src : Nat) (s : State) : Host.Outcome State Fault Refusal := run t (serve cmdEnergyRead src) s

/-! ### Clock steps and self-refresh (R22 to R25) -/

/-- f_max of an island in 0.1 GHz (Table 1.1). -/
def fMax (island : Nat) : Nat :=
  if island = 8 then 12 else if island = 13 || island = 17 then 8 else if island = 15 then 4 else if island = 16 then 2 else 10

/-- n cycles of an island at its present step, in ns: F3 is f_max and F2, F1 and F0 are 3/4, 1/2 and 1/4 of it. -/
def cyclesNs (s : State) (island n : Nat) : Nat := ceilN (40 * n) (fMax island * (s.clk.steps.getD island 0 + 1))

/-- n cycles have passed since the island's clock changed last. -/
def heldFor (s : State) (island n : Nat) : Bool := decide (s.clk.since.getD island 0 + cyclesNs s island n ≤ s.now)

/-- An island with its own step whose clock runs. -/
def clockRuns (s : State) (island : Nat) : Bool := decide (island < 18) && !(s.clk.stopped.getD island false)

/-- The island takes a new step. -/
def setStep (island n : Nat) (s : State) : State := { s with clk.steps := s.clk.steps.set island n, clk.since := s.clk.since.set island s.now }

/-- CLOCK_STEP_RAISE (R22): a queue that reaches half full, or is still so 256 cycles after the last change. -/
def clockRaise (island level depth : Nat) (fresh : Bool) (s : State) : State :=
  if clockRuns s island && decide (0 < depth) && decide (depth ≤ 2 * level) && (fresh || heldFor s island 256)
  then setStep island (Nat.min (s.clk.steps.getD island 0 + 1) 3) s else s

def execClockStepRaise (t : Nat) (queue : FullQueue) (s : State) : Host.Outcome State Fault Refusal := run t (clockRaise queue.island queue.level queue.depth queue.fresh) s

/-- CLOCK_STEP_LOWER (R22): 4096 cycles at the current step with every input queue below a quarter full. -/
def clockLower (island quiet : Nat) (s : State) : State :=
  if clockRuns s island && decide (4096 ≤ quiet) && heldFor s island 4096 then setStep island (s.clk.steps.getD island 0 - 1) s else s

def execClockStepLower (t : Nat) (quiet : QuietQueues) (s : State) : Host.Outcome State Fault Refusal := run t (clockLower quiet.island quiet.cycles) s

/-- Whether the island's clock may stop at all (Table 1.1). Island 14, TIM, stops its Transit logic only: the time base runs on (R13). -/
def mayStop (s : State) (island : Nat) : Bool :=
  if island = 12 then s.host.l1
  else if island = 15 then !((List.range 512).any (lit s)) && s.mot.axes.all (fun a => a.cfg.enable == 0)
  else if island = 16 then s.aux.chs.all (fun c => c.cfg.enable == 0)
  else decide (island < 17)

/-- The island holds a partly processed line or bolt, or waits for what it asked for, as far as the state shows it (R24). -/
def holdsWork (s : State) (island : Nat) : Bool :=
  if island < 8 then s.gate.any (fun g => g.tpls.any (fun t => t.port / 4 == island && !t.absent))
  else if island = 8 then !s.aln.lines.isEmpty || s.dlv.streams.any (fun x => !x.accLines.isEmpty)
  else if island < 11 then !(s.dlv.coders.getD (island - 9) []).isEmpty || s.dlv.jobs.any (fun j => j.state == 1)
  else if island = 11 then s.dlv.streams.any (fun x => !x.work.isEmpty || !x.live.isEmpty || !x.accLines.isEmpty || !x.row.isEmpty || x.buf.isSome)
  else if island = 13 then !s.spool.cmds.isEmpty
  else if island = 14 then !s.gate.isEmpty
  else false

/-- CLOCK_STOP (R24): 256 cycles at F0 with empty input queues, no work and no response awaited. -/
def clockStop (island idle : Nat) (s : State) : State :=
  if clockRuns s island && s.clk.steps.getD island 0 == 0 && mayStop s island && !(holdsWork s island) && decide (256 ≤ idle) && heldFor s island 256
  then { s with clk.stopped := s.clk.stopped.set island true } else s

def execClockStop (t : Nat) (idle : QuietQueues) (s : State) : Host.Outcome State Fault Refusal := run t (clockStop idle.island idle.cycles) s

/-- CLOCK_RESTART (R24): the step stays. -/
def clockRestart (island : Nat) (s : State) : State :=
  if clockRuns s island then s else { s with clk.stopped := s.clk.stopped.set island false, clk.since := s.clk.since.set island s.now }

def execClockRestart (t island : Nat) (s : State) : Host.Outcome State Fault Refusal := run t (clockRestart island) s

/-- HBM_SELF_REFRESH (R25, Table 2.2): 100 µs without a request, in a mode that does not keep the stack active. -/
def selfRefresh (s : State) : State :=
  if hbmBusy s || !(s.sys.mode == .standby || s.sys.mode == .ready || s.sys.mode == .activate) || decide (s.now < s.clk.lastHbm + 100000) then s
  else { s with clk.refresh := true }

def execHbmSelfRefresh (t : Nat) (s : State) : Host.Outcome State Fault Refusal := run t selfRefresh s

end Sys2Proof.Machine
end

