-- ==== Sys2Proof/Machine/StnCmds.lean ====
section
/-! DEFINITION. The station-bus, time and update commands of Table 11.11, and the frames and times of chapter 15. -/

namespace Sys2Proof.Machine

open Sys2Proof

/-! ### Station bus and time (R476, R490 to R492) -/

/-- STN_CFG as a request gives it, clamped (Table 11.11). -/
def stnCfgOf (r : Req) : StnCfg :=
  { enable := r.flag 0, access := r.enum 1 2 0, nodeId := Nat.min (r.u8 2) 254, nodeCount := Nat.max 1 (r.u8 3), etherType := r.u16 4, master := r.u8 6, rate := Nat.max 1 (r.u8 7), mac := field r.params 8 6 }

/-- STN_CFG in force (R355, R476): the 5 s of STN_LOST start where the bus is switched on. A change of ACCESS, NODE_ID or NODE_COUNT restarts the MAC, and the STATUS that waited is discarded: the next goes out at the next status period. -/
def applyStnCfg (c : StnCfg) (s : State) : State :=
  let old := s.stn.cfg
  let s := if old.enable = 0 && c.enable = 1 then { s with stn.lastRx := s.now } else s
  let s := if old.master = c.master then s else { s with host.stnServed := false }
  let s := if old.access = c.access && old.nodeId = c.nodeId && old.nodeCount = c.nodeCount then s else { s with stn.statusDue := false }
  { s with stn.cfg := c }

/-- STN_CFG (R476). -/
def cmdStnCfg : Cmd where
  opcode := 0x0C01
  len := fixedLen 16
  modes := Mode.all
  run := fun r _ => .ok { act := applyStnCfg (stnCfgOf r) }
  readLen := some (fixedLen 0)
  read := fun _ s =>
    let c := s.stn.cfg
    .ok (layout 16 [(0, 1, c.enable), (1, 1, c.access), (2, 1, c.nodeId), (3, 1, c.nodeCount), (4, 2, c.etherType), (6, 1, c.master), (7, 1, c.rate), (8, 6, c.mac)])

def execStnCfg (t src : Nat) (s : State) : Host.Outcome State Fault Refusal := run t (serve cmdStnCfg src) s

/-- TIME_CFG in force (R492): the Syncs of another domain or source count anew (R490). -/
def applyTimeCfg (r : Req) (s : State) : State :=
  let same := s.time.source == r.enum 0 2 0 && s.time.domain == r.u8 1
  hostTime (r.u64 8) (s.host.mbs.getD r.src {}).rung { s with time := { s.time with source := r.enum 0 2 0, domain := r.u8 1, good := if same then s.time.good else 0 } }

/-- TIME_CFG (R490, R492). The read form returns the HOST_TIME as 0: none waits to be applied. -/
def cmdTimeCfg : Cmd where
  opcode := 0x0C02
  len := fixedLen 16
  modes := Mode.all
  run := fun r _ => .ok { act := applyTimeCfg r }
  readLen := some (fixedLen 0)
  read := fun _ s => .ok (layout 16 [(0, 1, s.time.source), (1, 1, s.time.domain)])

def execTimeCfg (t src : Nat) (s : State) : Host.Outcome State Fault Refusal := run t (serve cmdTimeCfg src) s

def execSyncMessage (t : Nat) (offset : Int) (s : State) : Host.Outcome State Fault Refusal := run t (syncMessage offset) s
def execHoldover (t : Nat) (s : State) : Host.Outcome State Fault Refusal := run t holdover s
def execHostTimeDecay (t : Nat) (s : State) : Host.Outcome State Fault Refusal := run t hostDecay s
def execPeerDelayFrame (t delay : Nat) (s : State) : Host.Outcome State Fault Refusal := run t (peerDelay delay) s
def execStnLost (t : Nat) (s : State) : Host.Outcome State Fault Refusal := run t stnLost s

/-! ### Frames (R475, R481 to R485, R501 to R507) -/

/-- BUCKET_REFILL (R482): every 10 ms. -/
def refill (s : State) : State :=
  if s.stn.refillAt != 0 && decide (s.now + 1 < s.stn.refillAt + 10000000) then s else { s with stn.spent := [], stn.refillAt := s.now + 1 }

def execBucketRefill (t : Nat) (s : State) : Host.Outcome State Fault Refusal := run t refill s

/-- STATUS_FRAME_SEND (R484). -/
def execStatusFrameSend (t : Nat) (s : State) : Host.Outcome State Fault Refusal := run t sendStatus s

/-- NSP_STATUS (R481): an accepted STATUS changes nothing more. -/
def execNspStatus (t : Nat) (frame : NspFrame) (s : State) : Host.Outcome State Fault Refusal := run t (onAccepted 1 frame id) s

/-- NSP_COMMAND (R485, R486). -/
def execNspCommand (t : Nat) (frame : NspFrame) (s : State) : Host.Outcome State Fault Refusal := run t (onAccepted 2 frame (stationCommand frame)) s

/-- NSP_UPD_ANNOUNCE (R501, R504). -/
def execNspUpdAnnounce (t : Nat) (frame : NspFrame) (s : State) : Host.Outcome State Fault Refusal := run t (onAccepted 0x10 frame (announce frame)) s

/-- NSP_UPD_PIECE (R502). -/
def execNspUpdPiece (t : Nat) (frame : NspFrame) (flashOk : Bool) (s : State) : Host.Outcome State Fault Refusal := run t (onAccepted 0x11 frame (nspPiece frame flashOk)) s

/-- NSP_UPD_SCHEDULE (R507). -/
def execNspUpdSchedule (t : Nat) (frame : NspFrame) (s : State) : Host.Outcome State Fault Refusal := run t (onAccepted 0x13 frame (nspSchedule frame)) s

/-- NSP_UNACCEPTED_TYPE (R481): a RESPONSE, EVENT or UPD_NEED never passes the last test. -/
def execNspUnacceptedType (t : Nat) (frame : NspFrame) (s : State) : Host.Outcome State Fault Refusal :=
  run t (fun s => if [3, 4, 0x12].contains frame.kind then (nspTest frame s).2 else s) s

/-- OTHER_FRAME (R475). -/
def otherFrame (s : State) : State := if stnOn s then stnCount (fun c => { c with other := satInc 32 c.other }) { s with stn.lastRx := s.now } else s

def execOtherFrame (t : Nat) (s : State) : Host.Outcome State Fault Refusal := run t otherFrame s

/-- UPD_NEED_SEND (R504). -/
def execUpdNeedSend (t : Nat) (s : State) : Host.Outcome State Fault Refusal := run t needDue s

/-! ### Download (R501 to R506) -/

/-- UPD_BEGIN (R501, R502). -/
def cmdUpdBegin : Cmd where
  opcode := 0x0C10
  len := fixedLen 12
  modes := Mode.all
  inRec := true
  run := fun r s =>
    let go := startDownload (r.u32 8) (r.u32 0)
    let d := (go s).upd.dl
    let n := if r.enum 4 2 0 = 1 then 1 else 1024
    if !mayStart (r.u32 8) s then .error (.busy 0x0C)
    else .ok { data := layout 8 [(0, 4, ceilN (pieceCount d.bytes) n), (4, 4, receivedCount d n)], act := go }

def execUpdBegin (t src : Nat) (s : State) : Host.Outcome State Fault Refusal := run t (serve cmdUpdBegin src) s

/-- BYTES of the PCIe piece j of an image: 1 MiB, except the last (Table 11.11). -/
def megPiece (d : Download) (j : Nat) : Nat := Nat.min (2 ^ 20) (d.bytes - 2 ^ 20 * j)

/-- The 1 KiB pieces of the PCIe piece j. -/
def megPieces (d : Download) (j : Nat) : List Nat := (List.range 1024).filterMap (fun k => if 1024 * j + k < pieceCount d.bytes then some (1024 * j + k) else none)

/-- A PCIe piece is taken; its bytes are read and programmed while the command runs (R337). -/
def takeMeg (r : Req) (s : State) : State :=
  let p : PieceTx := { src := r.src, seq := r.seq, image := s.upd.dl.id, index := r.u32 0, offset := r.u32 8, area := areaOf s r.src }
  { s with upd.lastPiece := s.now, upd.pieces := s.upd.pieces ++ [p] }

/-- UPD_PIECE (R373, R487, R502). One that comes during VERIFYING waits for its outcome (R516). -/
def cmdUpdPiece : Cmd where
  opcode := 0x0C11
  len := fixedLen 12
  modes := Mode.all
  inRec := true
  run := fun r s =>
    let d := s.upd.dl
    let j := r.u32 0
    if r.src = 4 then .error (.wrongMode s.sys.mode 0)
    else if !areaOk (r.u32 8) (r.u32 4) 1 then .error (.implausible 1)
    else if s.upd.state = 0 || ceilN (pieceCount d.bytes) 1024 ≤ j || r.u32 4 != megPiece d j then .ok { act := stnCount (fun c => { c with other := satInc 32 c.other }) }
    else if (s.upd.state != 1 || (megPieces d j).all (received d)) && s.upd.state != 2 then .ok {}
    else .ok { accepted := some 0, act := takeMeg r }

def execUpdPiece (t src : Nat) (_nothing : Unit) (s : State) : Host.Outcome State Fault Refusal := run t (serve cmdUpdPiece src) s

/-- The 1 KiB pieces of a PCIe piece are programmed in order, until one fails the update (R502). -/
def programMeg (p : PieceTx) (s : State) : State :=
  let d := s.upd.dl
  let b := readLoad p.area p.offset (megPiece d p.index) s
  (megPieces d p.index).foldl (fun s i => if s.upd.state = 1 then takePiece1 i (slice b (1024 * (i - 1024 * p.index)) (pieceBytes d i)) s else s)
    (drewLoad (megPiece d p.index) { s with upd.lastPiece := s.now })

/-- UPD_PIECE_COMPLETE (R502, R503, R505): the pieces are programmed and the state is saved. A flash failure or a header that fails ends the update; the piece of such a download, and of one that has ended meanwhile, completes as failed, with a DETAIL that the manual leaves open (log 74). A piece that came during VERIFYING waits for its outcome, and a piece of a verified image is held already (R516). -/
def updPieceComplete (flashOk : Bool) (s : State) : State :=
  match s.upd.pieces with
  | [] => s
  | p :: rest =>
    if s.upd.state = 2 && s.upd.dl.id = p.image then s else
    let s := { s with upd.pieces := rest }
    let done := fun (status detail : Nat) => complete (fun q => q.opcode == 0x0C11 && q.src == p.src && q.seq == p.seq) status detail 0
    let failed := fun (s : State) => done jobFailed ((Config.freeValue s.free).toNat % 2 ^ 16) { s with free := s.free + 1 }
    if s.upd.dl.id = p.image && decide (3 ≤ s.upd.state) && decide (s.upd.state ≤ 6) then done 0 0 s
    else if s.upd.state != 1 || s.upd.dl.id != p.image then failed s
    else if !flashOk then failed (updFail 6 s)
    else
      let s := programMeg p s
      if s.upd.state != 1 then failed s else done 0 0 (tryVerify (saveDownload s))

def execUpdPieceComplete (t : Nat) (flashOk : Bool) (s : State) : Host.Outcome State Fault Refusal := run t (updPieceComplete flashOk) s

/-- Seconds left of CONFIRM_WINDOW, a part of a second counting as one (R513, log 75). -/
def confirmLeft (s : State) : Nat :=
  match s.upd.trialAt with
  | some t => if s.upd.state = 6 then ceilN (t + s.upd.boot.window * 1000000000 - s.now) 1000000000 else 0
  | none => 0

/-- UPD_STATUS (R502, R513, Table 11.11). -/
def cmdUpdStatus : Cmd where
  opcode := 0x0C12
  len := fixedLen 0
  modes := Mode.all
  inRec := true
  run := fun _ s =>
    let u := s.upd
    .ok { data := layout 32 [(0, 1, u.state), (1, 1, u.result), (2, 1, u.boot.trialBoots), (3, 1, 1 - inactiveSlot s), (4, 4, u.dl.id), (8, 4, pieceCount u.dl.bytes),
                             (0x0C, 4, receivedCount u.dl 1), (0x10, 8, (u.sched.map Sched.time).getD 0), (0x18, 4, confirmLeft s)]
                ++ (List.range 4).flatMap (fun c => match (u.dl.comps.getD [])[c]? with
                  | some x => leBytes 4 x.version ++ leBytes 2 x.gen ++ leBytes 2 x.iface
                  | none => zeros 8) }

def execUpdStatus (t src : Nat) (s : State) : Host.Outcome State Fault Refusal := run t (serve cmdUpdStatus src) s

/-- UPD_SCHEDULE (R507). -/
def cmdUpdSchedule : Cmd where
  opcode := 0x0C13
  len := fixedLen 20
  modes := Mode.all
  run := fun r s =>
    if s.upd.state != 3 && s.upd.state != 4 then .error (.wrongMode s.sys.mode 0x0E)
    else .ok { act := schedule (schedOf (r.u64 0) (r.u8 8) (r.u32 0x0C) (r.u32 0x10)) }

def execUpdSchedule (t src : Nat) (s : State) : Host.Outcome State Fault Refusal := run t (serve cmdUpdSchedule src) s

/-- UPD_CONFIRM (R512). -/
def cmdUpdConfirm : Cmd where
  opcode := 0x0C14
  len := fixedLen 0
  modes := Mode.all
  run := fun _ s => if s.upd.state != 6 then .error (.wrongMode s.sys.mode 0x0F) else .ok { act := confirmTrial }

def execUpdConfirm (t src : Nat) (s : State) : Host.Outcome State Fault Refusal := run t (serve cmdUpdConfirm src) s

/-- UPD_ABORT (R374, R506). DESIGN CHOICE (log 84): in IDLE and FAILED it returns OK and changes nothing. -/
def cmdUpdAbort : Cmd where
  opcode := 0x0C15
  len := fixedLen 0
  modes := Mode.all
  inRec := true
  run := fun _ s =>
    if s.upd.state = 6 then .error (.wrongMode s.sys.mode 0x0F)
    else if 1 ≤ s.upd.state && s.upd.state ≤ 4 then .ok { act := abortUpdate } else .ok {}

def execUpdAbort (t src : Nat) (s : State) : Host.Outcome State Fault Refusal := run t (serve cmdUpdAbort src) s

/-! ### Verification, activation and rollback (R505 to R513) -/

def execVerificationComplete (t readErrors : Nat) (flashOk : Bool) (s : State) : Host.Outcome State Fault Refusal := run t (verified readErrors flashOk) s
def execActivationTime (t : Nat) (s : State) : Host.Outcome State Fault Refusal := run t activationTime s
def execActivationWindowEnd (t : Nat) (s : State) : Host.Outcome State Fault Refusal := run t activationWindowEnd s
def execSwitchOverStep (t : Nat) (ok : Bool) (cfg : Option Bank) (s : State) : Host.Outcome State Fault Refusal := run t (switchStep ok cfg) s
def execRollbackStep (t : Nat) (s : State) : Host.Outcome State Fault Refusal := run t rollbackStep s
def execConfirmWindowExpiry (t : Nat) (s : State) : Host.Outcome State Fault Refusal := run t windowExpiry s

end Sys2Proof.Machine
end

