-- ==== Sys2Proof/Machine/Transit.lean ====
section
/-! DEFINITION. Encoder and cue edges, freezes, verdicts, Datum windows and the release of a bank (chapters 2 and 3). -/

namespace Sys2Proof.Machine

open Sys2Proof

/-- Drop what no line in flight can reach: Datums before the last passed one, and window lines too old for any output line. -/
def pruneTiming (s : State) : State :=
  let used := fun (id : Nat) => s.gate.any (fun g => g.rid == id || g.tpls.any (fun t => t.rid == id)) || s.aln.lines.any (fun l => l.rid == id) || s.aln.win.any (fun w => w.rid == id) || s.aln.store.any (fun w => w.rid == id)
  { s with datum.list := pruneDatums s.datum.list (fun d => used d.id) }

/-- Forward or reverse of a single quadrature change (R78): A leads B when forward. -/
def quadForward (a b a' b' : Bool) : Bool :=
  if a != a' then (a' != b) else (a == b')

/-- The edge type of Table 3.2: A rising, B rising, A falling, B falling. -/
def edgeType (a b a' b' : Bool) : Nat :=
  if a != a' then (if a' then 0 else 2) else if b != b' then (if b' then 1 else 3) else 0

/-- A counted edge: the new count and its measurement (R78). -/
def countEdge (e : Encoder) (fwd : Bool) (ty : Nat) (t : Nat) : Encoder × Meas :=
  let down := if e.invert = 1 then !fwd else fwd
  let c' := if down then e.count + 1 else e.count - 1
  let hi := if down then c' else e.count
  ({ e with count := c' }, { t := t, z := (256 * hi + e.trims.getD ty 0) * 65536, span := 16777216, down := down, edge := hi })

/-- An illegal transition (R79): counted, the count moved by 2 with the tracked speed, no measurement. -/
def illegalEdge (n : Nat) (e : Encoder) (s : State) : State :=
  let c := if 0 < s.tr.v then e.count + 2 else if s.tr.v < 0 then e.count - 2 else e.count
  let errs := (s.now :: e.errs).filter (fun t => decide (s.now < t + 1000000))
  let s := trCount 8 1 { s with tr.encs := s.tr.encs.set n { e with count := c, errs := errs } }
  if 16 ≤ errs.length && n == transitSource s && transitOn s.sys.mode && !faultActive s 0x0201 n then raise 0x0201 n s else s

/-- One sample of an encoder's two balls (R78, R79). -/
def encoderEdge (n : Nat) (a b : Bool) (s : State) : State :=
  let e := s.tr.encs.getD n {}
  let e' := { e with a := a, b := b }
  if e.enable = 0 then { s with tr.encs := s.tr.encs.set n e' }
  else
    let follow := fun (em : Encoder × Meas) (s : State) =>
      let s := { s with tr.encs := s.tr.encs.set n em.1 }
      if n = transitSource s && transitOn s.sys.mode then pruneTiming (measure em.2 s) else s
    if e.mode = 1 then
      if a && !e.a then follow (countEdge e' (!b) 0 s.now) s else { s with tr.encs := s.tr.encs.set n e' }
    else if a != e.a && b != e.b then illegalEdge n e' s
    else if a != e.a || b != e.b then follow (countEdge e' (quadForward e.a e.b a b) (edgeType e.a e.b a b) s.now) s
    else { s with tr.encs := s.tr.encs.set n e' }

/-- A level that does not hold for FILTER is no edge (R77). -/
def heldEdge (n held : Nat) (a b : Bool) (s : State) : State :=
  if 4 ≤ n || held < (s.tr.encs.getD n {}).filter then s else encoderEdge n a b s

/-- ENCODER_EDGE (R77, R78). -/
def execEncoderEdge (t : Nat) (edge : InputEdge) (a b : Bool) (s : State) : Host.Outcome State Fault Refusal := run t (heldEdge edge.input edge.held a b) s

/-- STILL_TIMEOUT (R84, R106): no measurement for STILL_TIME. -/
def stillTimeout (s : State) : State :=
  if !transitOn s.sys.mode then s
  else
    match s.tr.last with
    | none => s
    | some m =>
      if s.now < m.t + s.tr.cfg.stillTime * 1000000 then s
      else { s with tr.v := 0, tr.a := 0, tr.regime := .still, tr.fastFrom := none, tr.run := 0 }

def execStillTimeout (t : Nat) (s : State) : Host.Outcome State Fault Refusal := run t stillTimeout s

/-- CUE_EDGE (R65, R70, R80): a qualifying edge on the selected input while Transit tracks; only a capture session offers it on. -/
def cueEdge (cue : Nat) (rising : Bool) (s : State) : State :=
  let c := s.datum.cfg
  if !transitOn s.sys.mode || cue != c.cueInput || rising != (c.edge == 0) then s
  else
    let pos := cuePos s.tr s.now
    let old := s.tr.session && (match s.datum.maxC with | none => false | some m => decide (pos ≤ m))
    if s.tr.regime == .rev || old then trCount 10 1 s
    else if !s.tr.session then s
    else if s.sys.mode == .proof then offerSheet pos { s with datum.maxC := some pos }
    else if c.source = 0 then offerCue pos { s with datum.maxC := some pos }
    else s

/-- A level that does not hold for CUE_FILTER is no cue edge (R77). -/
def heldCue (cue held : Nat) (rising : Bool) (s : State) : State :=
  if 4 ≤ cue || held < s.tr.cueFilter.getD cue 0 then s else cueEdge cue rising s

def execCueEdge (t : Nat) (edge : InputEdge) (rising : Bool) (s : State) : Host.Outcome State Fault Refusal := run t (heldCue edge.input edge.held rising) s

/-- WINDOW_CLOSE (R66, R104): C has passed the end of the window. -/
def windowClose (s : State) : State :=
  match s.datum.expected with
  | none => s
  | some e =>
    if s.tr.session && s.datum.cfg.source == 0 && s.sys.mode != .proof
        && decide (e - (s.datum.cfg.cueOffset : Int) + (windowNow s : Int) < cuePos s.tr s.now) then closeWindow e s else s

def execWindowClose (t : Nat) (s : State) : Host.Outcome State Fault Refusal := run t windowClose s

/-- FREEZE (R90). -/
def execFreeze (t : Nat) (s : State) : Host.Outcome State Fault Refusal := run t freezeSpec s

/-- VERDICT_DEADLINE (R96). -/
def execVerdictDeadline (t : Nat) (s : State) : Host.Outcome State Fault Refusal := run t (fun s => pruneTiming (judgeDeadline s)) s

/-- COLLAPSE_COMPLETE (R172): the oldest exposure whose collapse is open. -/
def collapseComplete (s : State) : State :=
  match ((List.range s.gate.length).zip s.gate).find? (fun e => !e.2.collapsed) with
  | none => s
  | some (i, g) => releaseAll (correctReady i (usePoly g { s with gate := s.gate.set i { g with collapsed := true } }))

def execCollapseComplete (t : Nat) (s : State) : Host.Outcome State Fault Refusal := run t collapseComplete s

/-- A line or tile-plane-line of the ending repeat is still in flight (R59). -/
def oldBankInUse (s : State) : Bool :=
  let stale := fun (rid : Nat) => match datumById s rid with | some d => d.passed && d.gen != s.banks.gen | none => false
  s.gate.any (fun g => stale g.rid || g.tpls.any (fun t => stale t.rid)) || s.aln.lines.any (fun l => stale l.rid) || oldStreamsBusy s

/-- BANK_RELEASE (R59). -/
def bankRelease (s : State) : State :=
  if s.banks.old.isSome && !oldBankInUse s then releaseBank s else s

def execBankRelease (t : Nat) (s : State) : Host.Outcome State Fault Refusal := run t bankRelease s

/-- ENC_FAULT_CLEAR (R520): 100 ms without an illegal transition. -/
def encFaultClear (n : Nat) (s : State) : State :=
  let e := s.tr.encs.getD n {}
  match e.errs with
  | t :: _ => if s.now < t + 100000000 then s else clearFault 0x0201 n s
  | [] => clearFault 0x0201 n s

def execEncFaultClear (t enc : Nat) (s : State) : Host.Outcome State Fault Refusal := run t (encFaultClear enc) s

end Sys2Proof.Machine
end

