-- ==== Sys2Proof/Machine/Dispatch.lean ====
section
/-! DEFINITION. One arm per command: the call of its meaning, or its rejection by name. -/

namespace Sys2Proof.Machine

open Sys2Proof

def exec (i : Instr) (s : State) : Host.Outcome State Fault Refusal :=
  match i with
  | .porNFall t => Sys2Proof.Machine.execPorNFall t s
  | .porNRise t badChannels badLogTags => Sys2Proof.Machine.execPorNRise t badChannels badLogTags s
  | .sysRstNFall t => Sys2Proof.Machine.execSysRstNFall t s
  | .brownOut t => Sys2Proof.Machine.execBrownOut t s
  | .brownOutRecovery t => Sys2Proof.Machine.execBrownOutRecovery t s
  | .xtal25Stop t => Sys2Proof.Machine.execXtal25Stop t s
  | .xtal25Restart t => Sys2Proof.Machine.execXtal25Restart t s
  | .thermalTrip t sensor => Sys2Proof.Machine.execThermalTrip t sensor s
  | .thermalTripRelease t => Sys2Proof.Machine.execThermalTripRelease t s
  | .mailboxServiceStart t cfg => Sys2Proof.Machine.execMailboxServiceStart t cfg s
  | .bootComplete t slotOk => Sys2Proof.Machine.execBootComplete t slotOk s
  | .pcieLinkUp t rate width => Sys2Proof.Machine.execPcieLinkUp t rate width s
  | .configSpaceReady t => Sys2Proof.Machine.execConfigSpaceReady t s
  | .hostInterfaceReset t kind => Sys2Proof.Machine.execHostInterfaceReset t kind s
  | .linkRateChange t rate width => Sys2Proof.Machine.execLinkRateChange t rate width s
  | .mbDoorbell t mb token => Sys2Proof.Machine.execMbDoorbell t mb token s
  | .ringTailWrite t stream tail => Sys2Proof.Machine.execRingTailWrite t stream tail s
  | .evqHeadWrite t head => Sys2Proof.Machine.execEvqHeadWrite t head s
  | .evqEnable t => Sys2Proof.Machine.execEvqEnable t s
  | .evqArmed t => Sys2Proof.Machine.execEvqArmed t s
  | .evqVector t vector => Sys2Proof.Machine.execEvqVector t vector s
  | .registerWrite t addr data => Sys2Proof.Machine.execRegisterWrite t addr data s
  | .reservedAccess t addr bytes write => Sys2Proof.Machine.execReservedAccess t addr bytes write s
  | .rcRegisterRead t read => Sys2Proof.Machine.execRcRegisterRead t read s
  | .snapshotLoRead t pair => Sys2Proof.Machine.execSnapshotLoRead t pair s
  | .snapshotPairRead t pair => Sys2Proof.Machine.execSnapshotPairRead t pair s
  | .auxStatusRead t channel => Sys2Proof.Machine.execAuxStatusRead t channel s
  | .bar2Write t offset bytes => Sys2Proof.Machine.execBar2Write t offset bytes s
  | .bar2Read t offset count => Sys2Proof.Machine.execBar2Read t offset count s
  | .msixUnmask t vector => Sys2Proof.Machine.execMsixUnmask t vector s
  | .eventWrite t => Sys2Proof.Machine.execEventWrite t s
  | .coalesceTimer t => Sys2Proof.Machine.execCoalesceTimer t s
  | .devInfo t src => Sys2Proof.Machine.execDevInfo t src s
  | .devReset t src => Sys2Proof.Machine.execDevReset t src s
  | .modeSet t src => Sys2Proof.Machine.execModeSet t src s
  | .modeGet t src => Sys2Proof.Machine.execModeGet t src s
  | .datumCfg t src => Sys2Proof.Machine.execDatumCfg t src s
  | .datumForce t src => Sys2Proof.Machine.execDatumForce t src s
  | .stageCommit t src => Sys2Proof.Machine.execStageCommit t src s
  | .portCfg t src => Sys2Proof.Machine.execPortCfg t src s
  | .portTrain t src => Sys2Proof.Machine.execPortTrain t src s
  | .portReadmit t src => Sys2Proof.Machine.execPortReadmit t src s
  | .portStat t src => Sys2Proof.Machine.execPortStat t src s
  | .encCfg t src => Sys2Proof.Machine.execEncCfg t src s
  | .transitCfg t src => Sys2Proof.Machine.execTransitCfg t src s
  | .expoSet t src => Sys2Proof.Machine.execExpoSet t src s
  | .posRead t src => Sys2Proof.Machine.execPosRead t src s
  | .shadeLoad t src => Sys2Proof.Machine.execShadeLoad t src s
  | .shadeRead t src => Sys2Proof.Machine.execShadeRead t src s
  | .polyLoad t src => Sys2Proof.Machine.execPolyLoad t src s
  | .defectMap t src => Sys2Proof.Machine.execDefectMap t src s
  | .baselineCfg t src => Sys2Proof.Machine.execBaselineCfg t src s
  | .seamCfg t src => Sys2Proof.Machine.execSeamCfg t src s
  | .regionSet t src => Sys2Proof.Machine.execRegionSet t src s
  | .selvedgeCfg t src => Sys2Proof.Machine.execSelvedgeCfg t src s
  | .calRun t src => Sys2Proof.Machine.execCalRun t src s
  | .calStatus t src => Sys2Proof.Machine.execCalStatus t src s
  | .calLimits t src => Sys2Proof.Machine.execCalLimits t src s
  | .calApply t src => Sys2Proof.Machine.execCalApply t src s
  | .codeTableLoad t src => Sys2Proof.Machine.execCodeTableLoad t src s
  | .codecJob t src => Sys2Proof.Machine.execCodecJob t src s
  | .codecJobStat t src => Sys2Proof.Machine.execCodecJobStat t src s
  | .streamOpen t src => Sys2Proof.Machine.execStreamOpen t src s
  | .streamClose t src => Sys2Proof.Machine.execStreamClose t src s
  | .ringCfg t src => Sys2Proof.Machine.execRingCfg t src s
  | .spoolCfg t src => Sys2Proof.Machine.execSpoolCfg t src s
  | .spoolReplay t src => Sys2Proof.Machine.execSpoolReplay t src s
  | .spoolStat t src => Sys2Proof.Machine.execSpoolStat t src s
  | .lampMap t src => Sys2Proof.Machine.execLampMap t src s
  | .lampSet t src => Sys2Proof.Machine.execLampSet t src s
  | .lampCurve t src => Sys2Proof.Machine.execLampCurve t src s
  | .lampDerate t src => Sys2Proof.Machine.execLampDerate t src s
  | .lampGroup t src => Sys2Proof.Machine.execLampGroup t src s
  | .lampStat t src => Sys2Proof.Machine.execLampStat t src s
  | .lampRearm t src => Sys2Proof.Machine.execLampRearm t src s
  | .axisCfg t src => Sys2Proof.Machine.execAxisCfg t src s
  | .axisMove t src => Sys2Proof.Machine.execAxisMove t src s
  | .axisHome t src => Sys2Proof.Machine.execAxisHome t src s
  | .axisStop t src => Sys2Proof.Machine.execAxisStop t src s
  | .axisStat t src => Sys2Proof.Machine.execAxisStat t src s
  | .proofCfg t src => Sys2Proof.Machine.execProofCfg t src s
  | .auxCfg t src => Sys2Proof.Machine.execAuxCfg t src s
  | .auxSeq t src => Sys2Proof.Machine.execAuxSeq t src s
  | .auxRead t src => Sys2Proof.Machine.execAuxRead t src s
  | .auxPoly t src => Sys2Proof.Machine.execAuxPoly t src s
  | .auxCal t src => Sys2Proof.Machine.execAuxCal t src s
  | .stnCfg t src => Sys2Proof.Machine.execStnCfg t src s
  | .timeCfg t src => Sys2Proof.Machine.execTimeCfg t src s
  | .updBegin t src => Sys2Proof.Machine.execUpdBegin t src s
  | .updPiece t src nothing => Sys2Proof.Machine.execUpdPiece t src nothing s
  | .updStatus t src => Sys2Proof.Machine.execUpdStatus t src s
  | .updSchedule t src => Sys2Proof.Machine.execUpdSchedule t src s
  | .updConfirm t src => Sys2Proof.Machine.execUpdConfirm t src s
  | .updAbort t src => Sys2Proof.Machine.execUpdAbort t src s
  | .faultLog t src => Sys2Proof.Machine.execFaultLog t src s
  | .faultPolicy t src => Sys2Proof.Machine.execFaultPolicy t src s
  | .debugOpen t src => Sys2Proof.Machine.execDebugOpen t src s
  | .keyProvision t src nothing => Sys2Proof.Machine.execKeyProvision t src nothing s
  | .diagLoopback t src => Sys2Proof.Machine.execDiagLoopback t src s
  | .energyRead t src => Sys2Proof.Machine.execEnergyRead t src s
  | .loopbackComplete t errors => Sys2Proof.Machine.execLoopbackComplete t errors s
  | .pipelineArmed t => Sys2Proof.Machine.execPipelineArmed t s
  | .orderlyStopComplete t => Sys2Proof.Machine.execOrderlyStopComplete t s
  | .stopTimeout t => Sys2Proof.Machine.execStopTimeout t s
  | .encoderEdge t edge a b => Sys2Proof.Machine.execEncoderEdge t edge a b s
  | .stillTimeout t => Sys2Proof.Machine.execStillTimeout t s
  | .cueEdge t edge rising => Sys2Proof.Machine.execCueEdge t edge rising s
  | .windowClose t => Sys2Proof.Machine.execWindowClose t s
  | .freeze t => Sys2Proof.Machine.execFreeze t s
  | .syncRise t port => Sys2Proof.Machine.execSyncRise t port s
  | .syncFall t port => Sys2Proof.Machine.execSyncFall t port s
  | .verdictDeadline t => Sys2Proof.Machine.execVerdictDeadline t s
  | .bankRelease t => Sys2Proof.Machine.execBankRelease t s
  | .tilePacket t port idles blocks => Sys2Proof.Machine.execTilePacket t port idles blocks s
  | .alignmentRow t port idles blocks => Sys2Proof.Machine.execAlignmentRow t port idles blocks s
  | .blockLockLoss t port heard => Sys2Proof.Machine.execBlockLockLoss t port heard s
  | .lateError t port => Sys2Proof.Machine.execLateError t port s
  | .trainingComplete t port ok => Sys2Proof.Machine.execTrainingComplete t port ok s
  | .retrainComplete t port ok laneOrder polarity skew => Sys2Proof.Machine.execRetrainComplete t port ok laneOrder polarity skew s
  | .retrainRetry t port => Sys2Proof.Machine.execRetrainRetry t port s
  | .lockLoss t port lane => Sys2Proof.Machine.execLockLoss t port lane s
  | .ctlTransaction t port write addr data => Sys2Proof.Machine.execCtlTransaction t port write addr data s
  | .ctlReply t port levels => Sys2Proof.Machine.execCtlReply t port levels s
  | .ctlReplyLost t port => Sys2Proof.Machine.execCtlReplyLost t port s
  | .collapseComplete t => Sys2Proof.Machine.execCollapseComplete t s
  | .runningWhiteBlock t side slot => Sys2Proof.Machine.execRunningWhiteBlock t side slot s
  | .outputLine t => Sys2Proof.Machine.execOutputLine t s
  | .staggerDbe t port slot line row => Sys2Proof.Machine.execStaggerDbe t port slot line row s
  | .hbmRowRemap t row => Sys2Proof.Machine.execHbmRowRemap t row s
  | .boltDispatch t stream => Sys2Proof.Machine.execBoltDispatch t stream s
  | .boltCoded t stream seq => Sys2Proof.Machine.execBoltCoded t stream seq s
  | .codecJobStart t decompress source tables => Sys2Proof.Machine.execCodecJobStart t decompress source tables s
  | .codecJobComplete t decompress => Sys2Proof.Machine.execCodecJobComplete t decompress s
  | .descriptorFetch t stream bytes => Sys2Proof.Machine.execDescriptorFetch t stream bytes s
  | .itemDelivery t stream => Sys2Proof.Machine.execItemDelivery t stream s
  | .flushAge t stream => Sys2Proof.Machine.execFlushAge t stream s
  | .flushRecordTimeout t stream => Sys2Proof.Machine.execFlushRecordTimeout t stream s
  | .backlogBufferEarly t stream => Sys2Proof.Machine.execBacklogBufferEarly t stream s
  | .refugeAdmit t stream => Sys2Proof.Machine.execRefugeAdmit t stream s
  | .proofResumeAllow t => Sys2Proof.Machine.execProofResumeAllow t s
  | .spill t => Sys2Proof.Machine.execSpill t s
  | .catchup t stream => Sys2Proof.Machine.execCatchup t stream s
  | .pcieError t stream desc => Sys2Proof.Machine.execPcieError t stream desc s
  | .pcieCompletionTimeout t stream desc => Sys2Proof.Machine.execPcieCompletionTimeout t stream desc s
  | .nvmeCommandComplete t drive lseq ok => Sys2Proof.Machine.execNvmeCommandComplete t drive lseq ok s
  | .nvmeTimeout t drive lseq => Sys2Proof.Machine.execNvmeTimeout t drive lseq s
  | .controllerFatalStatus t drive => Sys2Proof.Machine.execControllerFatalStatus t drive s
  | .spoolLinkLoss t drive => Sys2Proof.Machine.execSpoolLinkLoss t drive s
  | .spoolAttachComplete t found => Sys2Proof.Machine.execSpoolAttachComplete t found s
  | .spoolFormatComplete t drives => Sys2Proof.Machine.execSpoolFormatComplete t drives s
  | .spoolReplayComplete t => Sys2Proof.Machine.execSpoolReplayComplete t s
  | .lampRound t => Sys2Proof.Machine.execLampRound t s
  | .lampSlot t slice => Sys2Proof.Machine.execLampSlot t slice s
  | .lampReply t slice levels => Sys2Proof.Machine.execLampReply t slice levels s
  | .lampReplyMissing t slice => Sys2Proof.Machine.execLampReplyMissing t slice s
  | .linePulse t => Sys2Proof.Machine.execLinePulse t s
  | .diagMarker t => Sys2Proof.Machine.execDiagMarker t s
  | .stringRetry t string => Sys2Proof.Machine.execStringRetry t string s
  | .stringUndiagnosed t string => Sys2Proof.Machine.execStringUndiagnosed t string s
  | .lampUndiagnosed t string => Sys2Proof.Machine.execLampUndiagnosed t string s
  | .profileTick t => Sys2Proof.Machine.execProfileTick t s
  | .pwmPeriod t axis => Sys2Proof.Machine.execPwmPeriod t axis s
  | .switchEdge t axis switch level => Sys2Proof.Machine.execSwitchEdge t axis switch level s
  | .driverFault t axis => Sys2Proof.Machine.execDriverFault t axis s
  | .driverFltClear t axis => Sys2Proof.Machine.execDriverFltClear t axis s
  | .supplyLow t axis => Sys2Proof.Machine.execSupplyLow t axis s
  | .vmTimeout t axis => Sys2Proof.Machine.execVmTimeout t axis s
  | .holdCurrent t axis => Sys2Proof.Machine.execHoldCurrent t axis s
  | .reApproach t => Sys2Proof.Machine.execReApproach t s
  | .restartCheck t => Sys2Proof.Machine.execRestartCheck t s
  | .deltaSigmaConversion t conv raw secondary => Sys2Proof.Machine.execDeltaSigmaConversion t conv raw secondary s
  | .ad2Conversion t use raw => Sys2Proof.Machine.execAd2Conversion t use raw s
  | .excitationOverload t vex => Sys2Proof.Machine.execExcitationOverload t vex s
  | .staleEvent t channel => Sys2Proof.Machine.execStaleEvent t channel s
  | .auxOpen t channel => Sys2Proof.Machine.execAuxOpen t channel s
  | .selfCalibrationDue t conv => Sys2Proof.Machine.execSelfCalibrationDue t conv s
  | .selfCalibrationComplete t conv ranges => Sys2Proof.Machine.execSelfCalibrationComplete t conv ranges s
  | .auxCalComplete t channel => Sys2Proof.Machine.execAuxCalComplete t channel s
  | .shadingResult t => Sys2Proof.Machine.execShadingResult t s
  | .lampResult t => Sys2Proof.Machine.execLampResult t s
  | .nspStatus t frame => Sys2Proof.Machine.execNspStatus t frame s
  | .nspCommand t frame => Sys2Proof.Machine.execNspCommand t frame s
  | .nspUpdAnnounce t frame => Sys2Proof.Machine.execNspUpdAnnounce t frame s
  | .nspUpdPiece t frame flashOk => Sys2Proof.Machine.execNspUpdPiece t frame flashOk s
  | .nspUpdSchedule t frame => Sys2Proof.Machine.execNspUpdSchedule t frame s
  | .otherFrame t => Sys2Proof.Machine.execOtherFrame t s
  | .statusFrameSend t => Sys2Proof.Machine.execStatusFrameSend t s
  | .updNeedSend t => Sys2Proof.Machine.execUpdNeedSend t s
  | .bucketRefill t => Sys2Proof.Machine.execBucketRefill t s
  | .syncMessage t offset => Sys2Proof.Machine.execSyncMessage t offset s
  | .holdover t => Sys2Proof.Machine.execHoldover t s
  | .hostTimeDecay t => Sys2Proof.Machine.execHostTimeDecay t s
  | .stnLost t => Sys2Proof.Machine.execStnLost t s
  | .verificationComplete t readErrors flashOk => Sys2Proof.Machine.execVerificationComplete t readErrors flashOk s
  | .activationTime t => Sys2Proof.Machine.execActivationTime t s
  | .activationWindowEnd t => Sys2Proof.Machine.execActivationWindowEnd t s
  | .switchOverStep t ok cfg => Sys2Proof.Machine.execSwitchOverStep t ok cfg s
  | .rollbackStep t => Sys2Proof.Machine.execRollbackStep t s
  | .confirmWindowExpiry t => Sys2Proof.Machine.execConfirmWindowExpiry t s
  | .sramError t store unit addr double => Sys2Proof.Machine.execSramError t store unit addr double s
  | .hbmError t addr double => Sys2Proof.Machine.execHbmError t addr double s
  | .scrub t findings => Sys2Proof.Machine.execScrub t findings s
  | .jtagUnlock t signature => Sys2Proof.Machine.execJtagUnlock t signature s
  | .secretsErased t => Sys2Proof.Machine.execSecretsErased t s
  | .authLockoutEnd t => Sys2Proof.Machine.execAuthLockoutEnd t s
  | .energyTick t => Sys2Proof.Machine.execEnergyTick t s
  | .clockStepRaise t queue => Sys2Proof.Machine.execClockStepRaise t queue s
  | .clockStepLower t quiet => Sys2Proof.Machine.execClockStepLower t quiet s
  | .clockStop t idle => Sys2Proof.Machine.execClockStop t idle s
  | .clockRestart t island => Sys2Proof.Machine.execClockRestart t island s
  | .hbmSelfRefresh t => Sys2Proof.Machine.execHbmSelfRefresh t s
  | .sysRstNRise t => Sys2Proof.Machine.execSysRstNRise t s
  | .perstNRise t => Sys2Proof.Machine.execPerstNRise t s
  | .modeChangeComplete t => Sys2Proof.Machine.execModeChangeComplete t s
  | .peerDelayFrame t delay => Sys2Proof.Machine.execPeerDelayFrame t delay s
  | .nspUnacceptedType t frame => Sys2Proof.Machine.execNspUnacceptedType t frame s
  | .encFaultClear t enc => Sys2Proof.Machine.execEncFaultClear t enc s
  | .auxAdcRetired t conv => Sys2Proof.Machine.execAuxAdcRetired t conv s
  | .shadeLoadComplete t src => Sys2Proof.Machine.execShadeLoadComplete t src s
  | .updPieceComplete t flashOk => Sys2Proof.Machine.execUpdPieceComplete t flashOk s
  | .jtagInstruction t ir => Sys2Proof.Machine.execJtagInstruction t ir s

end Sys2Proof.Machine
end

