-- ==== Sys2Proof/Safety.lean ====
section
/-! DEFINITION. The terms of the claims: what counts as a safe run, when nothing follows a command by itself, when a command of the command set is next to be served, and how its mailbox looks when it has been. -/

namespace Sys2Proof.Safety

open Sys2Proof Sys2Proof.Machine

/-- A step that neither faults nor is refused. -/
def Runs (s : State) : Prop := ∃ t, step s = .next t

/-- The HBM stack is never in self-refresh while work is under way that reads or writes it (R25). -/
def refreshInv (s : State) : Bool := !(s.clk.refresh && hbmBusy s)

/-- The bridge outputs carry what the axis states call for (R418, R419, R429). -/
def bridgesRest (s : State) : Bool :=
  [0, 1, 2, 3].all (fun n => let a := axisOf s n; wantDrive s a == a.drive || (a.drive == .pwm && a.state == 4 && a.cfg.enable == 1))

/-- The excitation sources carry what the settings and the mode call for (R450, R454). -/
def vexRests (s : State) : Bool := [0, 1].all (fun n => vexWanted s n == s.aux.vex.getD n 0)

/-- A coordinator sends its beacons, and no other unit does (R477). -/
def beaconsRest (s : State) : Bool := s.stn.beacons == (if stnOn s && s.stn.cfg.access == 1 && s.stn.cfg.nodeId == 0 then s.stn.cfg.nodeCount else 0)

/-- Nothing follows a command by itself: no fault calls for a reset, a shut-off or HOLD, no session, stop cycle, calibration run, drain, scheduled activation, ending conversion or forced Datum is about to take its next step, no mode has just been entered, the bridges, the excitation sources and the beacons stand as they should, and no request waits for its answer. -/
def Calm (s : State) : Bool :=
  !s.flt.resetReq && s.flt.groupReq.isEmpty && s.flt.holdReq.isNone && !(s.flt.active.any (fun a => a.code == 0x0402)) &&
  s.tr.vibHeld == 0 && s.tr.vibBound.isNone && decide (4 ≤ s.tr.cfg.vibChannel) && !schedQuiet s && !s.upd.blocked && (auxConv s 0).ending.isNone && (auxConv s 1).ending.isNone &&
  s.aux.reopens.isEmpty && s.host.mbs.all (fun m => m.answer.isNone) && beaconsRest s && s.mot.cycle.isNone && !s.dlv.proofStop && !s.spool.drainAll && !s.spool.spilling &&
  !sessionOver s && s.datum.forces.isEmpty && s.cal.run.isNone && !s.sys.entered && s.host.order.isEmpty && s.stn.busyCmd.isNone &&
  bridgesRest s && vexRests s && (!(hbmBusy s) || (!s.clk.refresh && s.clk.lastHbm == s.now)) && s.host.l1 == linkIdle s

/-- Source src holds a whole request of this opcode and LENGTH, and it is the next to be served (R338, R340, R343, R346, R377). -/
def holds (op len src : Nat) (s : State) : Bool :=
  let m := s.host.mbs.getD src {}
  s.sys.service && m.state == .busy && m.latched.opcode == op && itsTurn s src && m.latched.length == len && (latchedReq s src).sound

/-- It is not the read form of a command that has one (R361). -/
def asks (op len src : Nat) (s : State) : Bool := holds op len src s && !(bit (s.host.mbs.getD src {}).latched.flags 0)

/-- It is the read form (R361). -/
def asksRead (op len src : Nat) (s : State) : Bool := holds op len src s && bit (s.host.mbs.getD src {}).latched.flags 0

/-- The modes in which the commands of R52 are served: those of ALL, and RECOVERY for a mailbox. -/
def servesBasic (src : Nat) (s : State) : Bool := s.sys.mode.all || (s.sys.mode == .recovery && src != 4)

/-- Fewer than 16 commands of the source wait for their completion or for its entry to be written (R341, R350). -/
def hasRoomFor (src : Nat) (s : State) : Bool := decide (slotsUsed s src < 16)

/-- The staged bank is writable (R56, R59). -/
def stagedFree (s : State) : Bool := !s.banks.armed && s.banks.old.isNone

/-- The state once src's request has its OK and data (R340). -/
def answered (src : Nat) (data : List Byte) (s : State) : State := respond (latchedReq s src) 0 0 data s

/-- The state once src's request has its ACCEPTED and waits for its completion (R341). -/
def accepted (src res : Nat) (data : List Byte) (s : State) : State :=
  let r := latchedReq s src
  { respond r 1 0 data s with host.outstanding := s.host.outstanding ++ [{ src := src, seq := r.seq, token := r.token, opcode := r.opcode, res := res }] }

/-- The state once src's request has an error answer. -/
def turnedAway (src : Nat) (e : Err) (s : State) : State := respond (latchedReq s src) e.status e.detail e.data s

/-- The command of the command set that a row serves, and the source that holds its request; none for an event or a register access. -/
def rowCmd : Instr → Option (Nat × Cmd)
  | .porNFall _ => none
  | .porNRise _ _ _ => none
  | .sysRstNFall _ => none
  | .brownOut _ => none
  | .brownOutRecovery _ => none
  | .xtal25Stop _ => none
  | .xtal25Restart _ => none
  | .thermalTrip _ _ => none
  | .thermalTripRelease _ => none
  | .mailboxServiceStart _ _ => none
  | .bootComplete _ _ => none
  | .pcieLinkUp _ _ _ => none
  | .configSpaceReady _ => none
  | .hostInterfaceReset _ _ => none
  | .linkRateChange _ _ _ => none
  | .mbDoorbell _ _ _ => none
  | .ringTailWrite _ _ _ => none
  | .evqHeadWrite _ _ => none
  | .evqEnable _ => none
  | .evqArmed _ => none
  | .evqVector _ _ => none
  | .registerWrite _ _ _ => none
  | .reservedAccess _ _ _ _ => none
  | .rcRegisterRead _ _ => none
  | .snapshotLoRead _ _ => none
  | .snapshotPairRead _ _ => none
  | .auxStatusRead _ _ => none
  | .bar2Write _ _ _ => none
  | .bar2Read _ _ _ => none
  | .msixUnmask _ _ => none
  | .eventWrite _ => none
  | .coalesceTimer _ => none
  | .devInfo _ src => some (src, cmdDevInfo)
  | .devReset _ src => some (src, cmdDevReset)
  | .modeSet _ src => some (src, cmdModeSet)
  | .modeGet _ src => some (src, cmdModeGet)
  | .datumCfg _ src => some (src, cmdDatumCfg)
  | .datumForce _ src => some (src, cmdDatumForce)
  | .stageCommit _ src => some (src, cmdStageCommit)
  | .portCfg _ src => some (src, cmdPortCfg)
  | .portTrain _ src => some (src, cmdPortTrain)
  | .portReadmit _ src => some (src, cmdPortReadmit)
  | .portStat _ src => some (src, cmdPortStat)
  | .encCfg _ src => some (src, cmdEncCfg)
  | .transitCfg _ src => some (src, cmdTransitCfg)
  | .expoSet _ src => some (src, cmdExpoSet)
  | .posRead _ src => some (src, cmdPosRead)
  | .shadeLoad _ src => some (src, cmdShadeLoad)
  | .shadeRead _ src => some (src, cmdShadeRead)
  | .polyLoad _ src => some (src, cmdPolyLoad)
  | .defectMap _ src => some (src, cmdDefectMap)
  | .baselineCfg _ src => some (src, cmdBaselineCfg)
  | .seamCfg _ src => some (src, cmdSeamCfg)
  | .regionSet _ src => some (src, cmdRegionSet)
  | .selvedgeCfg _ src => some (src, cmdSelvedgeCfg)
  | .calRun _ src => some (src, cmdCalRun)
  | .calStatus _ src => some (src, cmdCalStatus)
  | .calLimits _ src => some (src, cmdCalLimits)
  | .calApply _ src => some (src, cmdCalApply)
  | .codeTableLoad _ src => some (src, cmdCodeTableLoad)
  | .codecJob _ src => some (src, cmdCodecJob)
  | .codecJobStat _ src => some (src, cmdCodecJobStat)
  | .streamOpen _ src => some (src, cmdStreamOpen)
  | .streamClose _ src => some (src, cmdStreamClose)
  | .ringCfg _ src => some (src, cmdRingCfg)
  | .spoolCfg _ src => some (src, cmdSpoolCfg)
  | .spoolReplay _ src => some (src, cmdSpoolReplay)
  | .spoolStat _ src => some (src, cmdSpoolStat)
  | .lampMap _ src => some (src, cmdLampMap)
  | .lampSet _ src => some (src, cmdLampSet)
  | .lampCurve _ src => some (src, cmdLampCurve)
  | .lampDerate _ src => some (src, cmdLampDerate)
  | .lampGroup _ src => some (src, cmdLampGroup)
  | .lampStat _ src => some (src, cmdLampStat)
  | .lampRearm _ src => some (src, cmdLampRearm)
  | .axisCfg _ src => some (src, cmdAxisCfg)
  | .axisMove _ src => some (src, cmdAxisMove)
  | .axisHome _ src => some (src, cmdAxisHome)
  | .axisStop _ src => some (src, cmdAxisStop)
  | .axisStat _ src => some (src, cmdAxisStat)
  | .proofCfg _ src => some (src, cmdProofCfg)
  | .auxCfg _ src => some (src, cmdAuxCfg)
  | .auxSeq _ src => some (src, cmdAuxSeq)
  | .auxRead _ src => some (src, cmdAuxRead)
  | .auxPoly _ src => some (src, cmdAuxPoly)
  | .auxCal _ src => some (src, cmdAuxCal)
  | .stnCfg _ src => some (src, cmdStnCfg)
  | .timeCfg _ src => some (src, cmdTimeCfg)
  | .updBegin _ src => some (src, cmdUpdBegin)
  | .updPiece _ src _ => some (src, cmdUpdPiece)
  | .updStatus _ src => some (src, cmdUpdStatus)
  | .updSchedule _ src => some (src, cmdUpdSchedule)
  | .updConfirm _ src => some (src, cmdUpdConfirm)
  | .updAbort _ src => some (src, cmdUpdAbort)
  | .faultLog _ src => some (src, cmdFaultLog)
  | .faultPolicy _ src => some (src, cmdFaultPolicy)
  | .debugOpen _ src => some (src, cmdDebugOpen)
  | .keyProvision _ src _ => some (src, cmdKeyProvision)
  | .diagLoopback _ src => some (src, cmdDiagLoopback)
  | .energyRead _ src => some (src, cmdEnergyRead)
  | .loopbackComplete _ _ => none
  | .pipelineArmed _ => none
  | .orderlyStopComplete _ => none
  | .stopTimeout _ => none
  | .encoderEdge _ _ _ _ => none
  | .stillTimeout _ => none
  | .cueEdge _ _ _ => none
  | .windowClose _ => none
  | .freeze _ => none
  | .syncRise _ _ => none
  | .syncFall _ _ => none
  | .verdictDeadline _ => none
  | .bankRelease _ => none
  | .tilePacket _ _ _ _ => none
  | .alignmentRow _ _ _ _ => none
  | .blockLockLoss _ _ _ => none
  | .lateError _ _ => none
  | .trainingComplete _ _ _ => none
  | .retrainComplete _ _ _ _ _ _ => none
  | .retrainRetry _ _ => none
  | .lockLoss _ _ _ => none
  | .ctlTransaction _ _ _ _ _ => none
  | .ctlReply _ _ _ => none
  | .ctlReplyLost _ _ => none
  | .collapseComplete _ => none
  | .runningWhiteBlock _ _ _ => none
  | .outputLine _ => none
  | .staggerDbe _ _ _ _ _ => none
  | .hbmRowRemap _ _ => none
  | .boltDispatch _ _ => none
  | .boltCoded _ _ _ => none
  | .codecJobStart _ _ _ _ => none
  | .codecJobComplete _ _ => none
  | .descriptorFetch _ _ _ => none
  | .itemDelivery _ _ => none
  | .flushAge _ _ => none
  | .flushRecordTimeout _ _ => none
  | .backlogBufferEarly _ _ => none
  | .refugeAdmit _ _ => none
  | .proofResumeAllow _ => none
  | .spill _ => none
  | .catchup _ _ => none
  | .pcieError _ _ _ => none
  | .pcieCompletionTimeout _ _ _ => none
  | .nvmeCommandComplete _ _ _ _ => none
  | .nvmeTimeout _ _ _ => none
  | .controllerFatalStatus _ _ => none
  | .spoolLinkLoss _ _ => none
  | .spoolAttachComplete _ _ => none
  | .spoolFormatComplete _ _ => none
  | .spoolReplayComplete _ => none
  | .lampRound _ => none
  | .lampSlot _ _ => none
  | .lampReply _ _ _ => none
  | .lampReplyMissing _ _ => none
  | .linePulse _ => none
  | .diagMarker _ => none
  | .stringRetry _ _ => none
  | .stringUndiagnosed _ _ => none
  | .lampUndiagnosed _ _ => none
  | .profileTick _ => none
  | .pwmPeriod _ _ => none
  | .switchEdge _ _ _ _ => none
  | .driverFault _ _ => none
  | .driverFltClear _ _ => none
  | .supplyLow _ _ => none
  | .vmTimeout _ _ => none
  | .holdCurrent _ _ => none
  | .reApproach _ => none
  | .restartCheck _ => none
  | .deltaSigmaConversion _ _ _ _ => none
  | .ad2Conversion _ _ _ => none
  | .excitationOverload _ _ => none
  | .staleEvent _ _ => none
  | .auxOpen _ _ => none
  | .selfCalibrationDue _ _ => none
  | .selfCalibrationComplete _ _ _ => none
  | .auxCalComplete _ _ => none
  | .shadingResult _ => none
  | .lampResult _ => none
  | .nspStatus _ _ => none
  | .nspCommand _ _ => none
  | .nspUpdAnnounce _ _ => none
  | .nspUpdPiece _ _ _ => none
  | .nspUpdSchedule _ _ => none
  | .otherFrame _ => none
  | .statusFrameSend _ => none
  | .updNeedSend _ => none
  | .bucketRefill _ => none
  | .syncMessage _ _ => none
  | .holdover _ => none
  | .hostTimeDecay _ => none
  | .stnLost _ => none
  | .verificationComplete _ _ _ => none
  | .activationTime _ => none
  | .activationWindowEnd _ => none
  | .switchOverStep _ _ _ => none
  | .rollbackStep _ => none
  | .confirmWindowExpiry _ => none
  | .sramError _ _ _ _ _ => none
  | .hbmError _ _ _ => none
  | .scrub _ _ => none
  | .jtagUnlock _ _ => none
  | .secretsErased _ => none
  | .authLockoutEnd _ => none
  | .energyTick _ => none
  | .clockStepRaise _ _ => none
  | .clockStepLower _ _ => none
  | .clockStop _ _ => none
  | .clockRestart _ _ => none
  | .hbmSelfRefresh _ => none
  | .sysRstNRise _ => none
  | .perstNRise _ => none
  | .modeChangeComplete _ => none
  | .peerDelayFrame _ _ => none
  | .nspUnacceptedType _ _ => none
  | .encFaultClear _ _ => none
  | .auxAdcRetired _ _ => none
  | .shadeLoadComplete _ _ => none
  | .updPieceComplete _ _ => none
  | .jtagInstruction _ _ => none

/-- Exactly one master commands the device (R355). -/
def oneMaster (s : State) : Bool := !(secondMaster s)

/-- The staged bank with one change. -/
def staged (f : Bank → Bank) (s : State) : State := { s with banks := { s.banks with staged := f s.banks.staged } }

end Sys2Proof.Safety
end

