-- ==== Sys2Proof/WellFormed.lean ====
section
/-! DEFINITION. Which commands can happen at all: the ranges that the numbering of R9, the sizes of chapters 4, 10, 12 and 14, and the value formats of chapter 15 give each operand. A command outside them spells no event; the machine answers it without an effect of its own (log 16). -/

namespace Sys2Proof

/-- A sensor port, SP0 to SP31 (R9). -/
def port32 (p : Nat) : Bool := decide (p < 32)

/-- A stream, S0 to S7 (R9). -/
def stream8 (n : Nat) : Bool := decide (n < 8)

/-- A motion axis, M0 to M3 (R9). -/
def axis4 (n : Nat) : Bool := decide (n < 4)

/-- A lamp string, 0 to 511 (R9). -/
def string512 (n : Nat) : Bool := decide (n < 512)

/-- A drive of the spool link, at most eight (R314). -/
def drive8 (n : Nat) : Bool := decide (n < 8)

def u32 (w : Nat) : Bool := decide (w < 2 ^ 32)

/-- An access of at least one byte inside the 1 MiB of BAR0 (Table 10.1). -/
def bar0 (addr bytes : Nat) : Bool := decide (0 < bytes) && decide (addr + bytes ≤ 2 ^ 20)

/-- An access inside the 4 GiB window of BAR2 (Table 10.1). -/
def bar2 (offset bytes : Nat) : Bool := decide (0 < bytes) && decide (offset + bytes ≤ 2 ^ 32)

/-- A PCIe generation 1 to 6 (R329). -/
def rateWf (r : Nat) : Bool := decide (1 ≤ r) && decide (r ≤ 6)

/-- A PCIe width (R329). -/
def widthWf (w : Nat) : Bool := w == 1 || w == 2 || w == 4 || w == 8 || w == 16

/-- Block periods: one block of 66 bits at each of the four balls (R125). -/
def blocksWf (l : List (List Nat)) : Bool := l.all (fun (r : List Nat) => r.length == 4 && r.all (fun b => decide (b < 2 ^ 66)))

/-- What a slot of AD2 can convert (R254, R459). -/
def Ad2Use.wf : Ad2Use → Bool
  | .vibration => true
  | .calibration r => decide (r < 24)
  | .supply n => axis4 n
  | .dieTemp n => decide (n < 8)
  | .rail n => decide (n < 3)
  | .channel c => decide (c < 16)

/-- 16 codes of zero and 16 of the reference (R252). -/
def CalRange.wf (r : CalRange) : Bool := decide (r.range < 24) && r.zero.length == 16 && r.ref.length == 16

/-- A Narian Station Protocol frame in the widths of Table 15.1. -/
def NspFrame.wf (f : NspFrame) : Bool :=
  decide (f.dstMac < 2 ^ 48) && decide (f.srcMac < 2 ^ 48) && f.tag.length == 8 && decide (f.version < 256) && decide (f.kind < 256) && decide (f.srcNode < 256) && decide (f.dstNode < 256) &&
  decide (f.nflags < 2 ^ 16) && u32 f.srcBoot && u32 f.seq && decide (f.time < 2 ^ 64) && decide (f.payload.length < 2 ^ 16)

/-- A store that a scrub covers (R525). -/
def ScrubFinding.wf (f : ScrubFinding) : Bool := decide (f.store < 7)

/-- Whether a command's operands lie in their ranges. -/
def Instr.wf : Instr → Bool
  | .porNFall _ => true
  | .porNRise _ badChannels _ => decide (badChannels < 2 ^ 16)
  | .sysRstNFall _ => true
  | .brownOut _ => true
  | .brownOutRecovery _ => true
  | .xtal25Stop _ => true
  | .xtal25Restart _ => true
  | .thermalTrip _ sensor => decide (sensor < 8)
  | .thermalTripRelease _ => true
  | .mailboxServiceStart _ _ => true
  | .bootComplete _ _ => true
  | .pcieLinkUp _ rate width => rateWf rate && widthWf width
  | .configSpaceReady _ => true
  | .hostInterfaceReset _ kind => decide (kind < 6)
  | .linkRateChange _ rate width => rateWf rate && widthWf width
  | .mbDoorbell _ mb token => decide (mb < 4) && u32 token
  | .ringTailWrite _ stream tail => stream8 stream && u32 tail
  | .evqHeadWrite _ head => u32 head
  | .evqEnable _ => true
  | .evqArmed _ => true
  | .evqVector _ vector => decide (vector < 64)
  | .registerWrite _ addr w => bar0 addr w.bytes.length && decide (w.enables < 2 ^ w.bytes.length)
  | .reservedAccess _ addr bytes _ => bar0 addr bytes
  | .rcRegisterRead _ r => bar0 r.addr r.count
  | .snapshotLoRead _ pair => decide (pair < 5)
  | .snapshotPairRead _ pair => decide (pair < 5)
  | .auxStatusRead _ channel => decide (channel < 16)
  | .bar2Write _ offset bytes => bar2 offset bytes.length
  | .bar2Read _ offset count => bar2 offset count
  | .msixUnmask _ vector => decide (vector < 64)
  | .eventWrite _ => true
  | .coalesceTimer _ => true
  | .devInfo _ src => decide (src < 5)
  | .devReset _ src => decide (src < 5)
  | .modeSet _ src => decide (src < 5)
  | .modeGet _ src => decide (src < 5)
  | .datumCfg _ src => decide (src < 5)
  | .datumForce _ src => decide (src < 5)
  | .stageCommit _ src => decide (src < 5)
  | .portCfg _ src => decide (src < 5)
  | .portTrain _ src => decide (src < 5)
  | .portReadmit _ src => decide (src < 5)
  | .portStat _ src => decide (src < 5)
  | .encCfg _ src => decide (src < 5)
  | .transitCfg _ src => decide (src < 5)
  | .expoSet _ src => decide (src < 5)
  | .posRead _ src => decide (src < 5)
  | .shadeLoad _ src => decide (src < 5)
  | .shadeRead _ src => decide (src < 5)
  | .polyLoad _ src => decide (src < 5)
  | .defectMap _ src => decide (src < 5)
  | .baselineCfg _ src => decide (src < 5)
  | .seamCfg _ src => decide (src < 5)
  | .regionSet _ src => decide (src < 5)
  | .selvedgeCfg _ src => decide (src < 5)
  | .calRun _ src => decide (src < 5)
  | .calStatus _ src => decide (src < 5)
  | .calLimits _ src => decide (src < 5)
  | .calApply _ src => decide (src < 5)
  | .codeTableLoad _ src => decide (src < 5)
  | .codecJob _ src => decide (src < 5)
  | .codecJobStat _ src => decide (src < 5)
  | .streamOpen _ src => decide (src < 5)
  | .streamClose _ src => decide (src < 5)
  | .ringCfg _ src => decide (src < 5)
  | .spoolCfg _ src => decide (src < 5)
  | .spoolReplay _ src => decide (src < 5)
  | .spoolStat _ src => decide (src < 5)
  | .lampMap _ src => decide (src < 5)
  | .lampSet _ src => decide (src < 5)
  | .lampCurve _ src => decide (src < 5)
  | .lampDerate _ src => decide (src < 5)
  | .lampGroup _ src => decide (src < 5)
  | .lampStat _ src => decide (src < 5)
  | .lampRearm _ src => decide (src < 5)
  | .axisCfg _ src => decide (src < 5)
  | .axisMove _ src => decide (src < 5)
  | .axisHome _ src => decide (src < 5)
  | .axisStop _ src => decide (src < 5)
  | .axisStat _ src => decide (src < 5)
  | .proofCfg _ src => decide (src < 5)
  | .auxCfg _ src => decide (src < 5)
  | .auxSeq _ src => decide (src < 5)
  | .auxRead _ src => decide (src < 5)
  | .auxPoly _ src => decide (src < 5)
  | .auxCal _ src => decide (src < 5)
  | .stnCfg _ src => decide (src < 5)
  | .timeCfg _ src => decide (src < 5)
  | .updBegin _ src => decide (src < 5)
  | .updPiece _ src _ => decide (src < 5)
  | .updStatus _ src => decide (src < 5)
  | .updSchedule _ src => decide (src < 5)
  | .updConfirm _ src => decide (src < 5)
  | .updAbort _ src => decide (src < 5)
  | .faultLog _ src => decide (src < 5)
  | .faultPolicy _ src => decide (src < 5)
  | .debugOpen _ src => decide (src < 5)
  | .keyProvision _ src _ => decide (src < 5)
  | .diagLoopback _ src => decide (src < 5)
  | .energyRead _ src => decide (src < 5)
  | .loopbackComplete _ errors => decide (errors < 2 ^ 32)
  | .pipelineArmed _ => true
  | .orderlyStopComplete _ => true
  | .stopTimeout _ => true
  | .encoderEdge _ e _ _ => decide (e.input < 4)
  | .stillTimeout _ => true
  | .cueEdge _ e _ => decide (e.input < 4)
  | .windowClose _ => true
  | .freeze _ => true
  | .syncRise _ port => port32 port
  | .syncFall _ port => port32 port
  | .verdictDeadline _ => true
  | .bankRelease _ => true
  | .tilePacket _ port _ blocks => port32 port && blocksWf blocks
  | .alignmentRow _ port _ blocks => port32 port && blocksWf blocks
  | .blockLockLoss _ port h => port32 port && decide (h.ball < 4) && h.headers.all (fun h => decide (h < 4))
  | .lateError _ port => port32 port
  | .trainingComplete _ port _ => port32 port
  | .retrainComplete _ port _ _ _ _ => port32 port
  | .retrainRetry _ port => port32 port
  | .lockLoss _ port lane => port32 port && decide (lane < 4)
  | .ctlTransaction _ port _ addr data => port32 port && decide (addr < 2 ^ 16) && decide (data < 2 ^ 32)
  | .ctlReply _ port _ => port32 port
  | .ctlReplyLost _ port => port32 port
  | .collapseComplete _ => true
  | .runningWhiteBlock _ side slot => decide (side < 2) && decide (slot < 4)
  | .outputLine _ => true
  | .staggerDbe _ port slot line _ => port32 port && decide (slot < 4) && decide (line < 2 ^ 48)
  | .hbmRowRemap _ _ => true
  | .boltDispatch _ stream => stream8 stream
  | .boltCoded _ stream _ => stream8 stream
  | .codecJobStart _ _ _ _ => true
  | .codecJobComplete _ _ => true
  | .descriptorFetch _ stream bytes => stream8 stream && bytes.length == 32
  | .itemDelivery _ stream => stream8 stream
  | .flushAge _ stream => stream8 stream
  | .flushRecordTimeout _ stream => stream8 stream
  | .backlogBufferEarly _ stream => stream8 stream
  | .refugeAdmit _ stream => stream8 stream
  | .proofResumeAllow _ => true
  | .spill _ => true
  | .catchup _ stream => stream8 stream
  | .pcieError _ stream _ => stream8 stream
  | .pcieCompletionTimeout _ stream _ => stream8 stream
  | .nvmeCommandComplete _ drive _ _ => drive8 drive
  | .nvmeTimeout _ drive _ => drive8 drive
  | .controllerFatalStatus _ drive => drive8 drive
  | .spoolLinkLoss _ drive => drive8 drive
  | .spoolAttachComplete _ _ => true
  | .spoolFormatComplete _ slots => slots.length == 8
  | .spoolReplayComplete _ => true
  | .lampRound _ => true
  | .lampSlot _ slice => decide (slice < 64)
  | .lampReply _ slice _ => decide (slice < 64)
  | .lampReplyMissing _ slice => decide (slice < 64)
  | .linePulse _ => true
  | .diagMarker _ => true
  | .stringRetry _ string => string512 string
  | .stringUndiagnosed _ string => string512 string
  | .lampUndiagnosed _ string => string512 string
  | .profileTick _ => true
  | .pwmPeriod _ axis => axis4 axis
  | .switchEdge _ axis switch _ => axis4 axis && decide (switch < 3)
  | .driverFault _ axis => axis4 axis
  | .driverFltClear _ axis => axis4 axis
  | .supplyLow _ axis => axis4 axis
  | .vmTimeout _ axis => axis4 axis
  | .holdCurrent _ axis => axis4 axis
  | .reApproach _ => true
  | .restartCheck _ => true
  | .deltaSigmaConversion _ conv _ _ => decide (conv < 2)
  | .ad2Conversion _ use _ => use.wf
  | .excitationOverload _ vex => decide (vex < 2)
  | .staleEvent _ channel => decide (channel < 16)
  | .auxOpen _ channel => decide (channel < 16)
  | .selfCalibrationDue _ conv => decide (conv < 3)
  | .selfCalibrationComplete _ conv ranges => decide (conv < 3) && ranges.all CalRange.wf
  | .auxCalComplete _ channel => decide (channel < 16)
  | .shadingResult _ => true
  | .lampResult _ => true
  | .nspStatus _ frame => frame.wf
  | .nspCommand _ frame => frame.wf
  | .nspUpdAnnounce _ frame => frame.wf
  | .nspUpdPiece _ frame _ => frame.wf
  | .nspUpdSchedule _ frame => frame.wf
  | .otherFrame _ => true
  | .statusFrameSend _ => true
  | .updNeedSend _ => true
  | .bucketRefill _ => true
  | .syncMessage _ _ => true
  | .holdover _ => true
  | .hostTimeDecay _ => true
  | .stnLost _ => true
  | .verificationComplete _ readErrors _ => decide (readErrors < 16)
  | .activationTime _ => true
  | .activationWindowEnd _ => true
  | .switchOverStep _ _ _ => true
  | .rollbackStep _ => true
  | .confirmWindowExpiry _ => true
  | .sramError _ store _ _ _ => decide (store < 6)
  | .hbmError _ addr _ => decide (addr < 2 ^ 34)
  | .scrub _ findings => findings.all ScrubFinding.wf
  | .jtagUnlock _ signature => signature.length == 96
  | .secretsErased _ => true
  | .authLockoutEnd _ => true
  | .energyTick _ => true
  | .clockStepRaise _ q => decide (q.island < 18)
  | .clockStepLower _ q => decide (q.island < 18)
  | .clockStop _ q => decide (q.island < 18)
  | .clockRestart _ island => decide (island < 18)
  | .hbmSelfRefresh _ => true
  | .sysRstNRise _ => true
  | .perstNRise _ => true
  | .modeChangeComplete _ => true
  | .peerDelayFrame _ delay => decide (delay < 2 ^ 64)
  | .nspUnacceptedType _ frame => frame.wf
  | .encFaultClear _ enc => decide (enc < 4)
  | .auxAdcRetired _ conv => decide (conv < 3)
  | .shadeLoadComplete _ src => decide (src < 5)
  | .updPieceComplete _ _ => true
  | .jtagInstruction _ ir => decide (ir < 32)

/-- The instant at which a command happens (log 1). -/
def Instr.time : Instr → Nat
  | .porNFall t => t
  | .porNRise t _ _ => t
  | .sysRstNFall t => t
  | .brownOut t => t
  | .brownOutRecovery t => t
  | .xtal25Stop t => t
  | .xtal25Restart t => t
  | .thermalTrip t _ => t
  | .thermalTripRelease t => t
  | .mailboxServiceStart t _ => t
  | .bootComplete t _ => t
  | .pcieLinkUp t _ _ => t
  | .configSpaceReady t => t
  | .hostInterfaceReset t _ => t
  | .linkRateChange t _ _ => t
  | .mbDoorbell t _ _ => t
  | .ringTailWrite t _ _ => t
  | .evqHeadWrite t _ => t
  | .evqEnable t => t
  | .evqArmed t => t
  | .evqVector t _ => t
  | .registerWrite t _ _ => t
  | .reservedAccess t _ _ _ => t
  | .rcRegisterRead t _ => t
  | .snapshotLoRead t _ => t
  | .snapshotPairRead t _ => t
  | .auxStatusRead t _ => t
  | .bar2Write t _ _ => t
  | .bar2Read t _ _ => t
  | .msixUnmask t _ => t
  | .eventWrite t => t
  | .coalesceTimer t => t
  | .devInfo t _ => t
  | .devReset t _ => t
  | .modeSet t _ => t
  | .modeGet t _ => t
  | .datumCfg t _ => t
  | .datumForce t _ => t
  | .stageCommit t _ => t
  | .portCfg t _ => t
  | .portTrain t _ => t
  | .portReadmit t _ => t
  | .portStat t _ => t
  | .encCfg t _ => t
  | .transitCfg t _ => t
  | .expoSet t _ => t
  | .posRead t _ => t
  | .shadeLoad t _ => t
  | .shadeRead t _ => t
  | .polyLoad t _ => t
  | .defectMap t _ => t
  | .baselineCfg t _ => t
  | .seamCfg t _ => t
  | .regionSet t _ => t
  | .selvedgeCfg t _ => t
  | .calRun t _ => t
  | .calStatus t _ => t
  | .calLimits t _ => t
  | .calApply t _ => t
  | .codeTableLoad t _ => t
  | .codecJob t _ => t
  | .codecJobStat t _ => t
  | .streamOpen t _ => t
  | .streamClose t _ => t
  | .ringCfg t _ => t
  | .spoolCfg t _ => t
  | .spoolReplay t _ => t
  | .spoolStat t _ => t
  | .lampMap t _ => t
  | .lampSet t _ => t
  | .lampCurve t _ => t
  | .lampDerate t _ => t
  | .lampGroup t _ => t
  | .lampStat t _ => t
  | .lampRearm t _ => t
  | .axisCfg t _ => t
  | .axisMove t _ => t
  | .axisHome t _ => t
  | .axisStop t _ => t
  | .axisStat t _ => t
  | .proofCfg t _ => t
  | .auxCfg t _ => t
  | .auxSeq t _ => t
  | .auxRead t _ => t
  | .auxPoly t _ => t
  | .auxCal t _ => t
  | .stnCfg t _ => t
  | .timeCfg t _ => t
  | .updBegin t _ => t
  | .updPiece t _ _ => t
  | .updStatus t _ => t
  | .updSchedule t _ => t
  | .updConfirm t _ => t
  | .updAbort t _ => t
  | .faultLog t _ => t
  | .faultPolicy t _ => t
  | .debugOpen t _ => t
  | .keyProvision t _ _ => t
  | .diagLoopback t _ => t
  | .energyRead t _ => t
  | .loopbackComplete t _ => t
  | .pipelineArmed t => t
  | .orderlyStopComplete t => t
  | .stopTimeout t => t
  | .encoderEdge t _ _ _ => t
  | .stillTimeout t => t
  | .cueEdge t _ _ => t
  | .windowClose t => t
  | .freeze t => t
  | .syncRise t _ => t
  | .syncFall t _ => t
  | .verdictDeadline t => t
  | .bankRelease t => t
  | .tilePacket t _ _ _ => t
  | .alignmentRow t _ _ _ => t
  | .blockLockLoss t _ _ => t
  | .lateError t _ => t
  | .trainingComplete t _ _ => t
  | .retrainComplete t _ _ _ _ _ => t
  | .retrainRetry t _ => t
  | .lockLoss t _ _ => t
  | .ctlTransaction t _ _ _ _ => t
  | .ctlReply t _ _ => t
  | .ctlReplyLost t _ => t
  | .collapseComplete t => t
  | .runningWhiteBlock t _ _ => t
  | .outputLine t => t
  | .staggerDbe t _ _ _ _ => t
  | .hbmRowRemap t _ => t
  | .boltDispatch t _ => t
  | .boltCoded t _ _ => t
  | .codecJobStart t _ _ _ => t
  | .codecJobComplete t _ => t
  | .descriptorFetch t _ _ => t
  | .itemDelivery t _ => t
  | .flushAge t _ => t
  | .flushRecordTimeout t _ => t
  | .backlogBufferEarly t _ => t
  | .refugeAdmit t _ => t
  | .proofResumeAllow t => t
  | .spill t => t
  | .catchup t _ => t
  | .pcieError t _ _ => t
  | .pcieCompletionTimeout t _ _ => t
  | .nvmeCommandComplete t _ _ _ => t
  | .nvmeTimeout t _ _ => t
  | .controllerFatalStatus t _ => t
  | .spoolLinkLoss t _ => t
  | .spoolAttachComplete t _ => t
  | .spoolFormatComplete t _ => t
  | .spoolReplayComplete t => t
  | .lampRound t => t
  | .lampSlot t _ => t
  | .lampReply t _ _ => t
  | .lampReplyMissing t _ => t
  | .linePulse t => t
  | .diagMarker t => t
  | .stringRetry t _ => t
  | .stringUndiagnosed t _ => t
  | .lampUndiagnosed t _ => t
  | .profileTick t => t
  | .pwmPeriod t _ => t
  | .switchEdge t _ _ _ => t
  | .driverFault t _ => t
  | .driverFltClear t _ => t
  | .supplyLow t _ => t
  | .vmTimeout t _ => t
  | .holdCurrent t _ => t
  | .reApproach t => t
  | .restartCheck t => t
  | .deltaSigmaConversion t _ _ _ => t
  | .ad2Conversion t _ _ => t
  | .excitationOverload t _ => t
  | .staleEvent t _ => t
  | .auxOpen t _ => t
  | .selfCalibrationDue t _ => t
  | .selfCalibrationComplete t _ _ => t
  | .auxCalComplete t _ => t
  | .shadingResult t => t
  | .lampResult t => t
  | .nspStatus t _ => t
  | .nspCommand t _ => t
  | .nspUpdAnnounce t _ => t
  | .nspUpdPiece t _ _ => t
  | .nspUpdSchedule t _ => t
  | .otherFrame t => t
  | .statusFrameSend t => t
  | .updNeedSend t => t
  | .bucketRefill t => t
  | .syncMessage t _ => t
  | .holdover t => t
  | .hostTimeDecay t => t
  | .stnLost t => t
  | .verificationComplete t _ _ => t
  | .activationTime t => t
  | .activationWindowEnd t => t
  | .switchOverStep t _ _ => t
  | .rollbackStep t => t
  | .confirmWindowExpiry t => t
  | .sramError t _ _ _ _ => t
  | .hbmError t _ _ => t
  | .scrub t _ => t
  | .jtagUnlock t _ => t
  | .secretsErased t => t
  | .authLockoutEnd t => t
  | .energyTick t => t
  | .clockStepRaise t _ => t
  | .clockStepLower t _ => t
  | .clockStop t _ => t
  | .clockRestart t _ => t
  | .hbmSelfRefresh t => t
  | .sysRstNRise t => t
  | .perstNRise t => t
  | .modeChangeComplete t => t
  | .peerDelayFrame t _ => t
  | .nspUnacceptedType t _ => t
  | .encFaultClear t _ => t
  | .auxAdcRetired t _ => t
  | .shadeLoadComplete t _ => t
  | .updPieceComplete t _ => t
  | .jtagInstruction t _ => t

/-- The same command at another instant. -/
def Instr.retime (u : Nat) : Instr → Instr
  | .porNFall _ => .porNFall u
  | .porNRise _ a b => .porNRise u a b
  | .sysRstNFall _ => .sysRstNFall u
  | .brownOut _ => .brownOut u
  | .brownOutRecovery _ => .brownOutRecovery u
  | .xtal25Stop _ => .xtal25Stop u
  | .xtal25Restart _ => .xtal25Restart u
  | .thermalTrip _ a => .thermalTrip u a
  | .thermalTripRelease _ => .thermalTripRelease u
  | .mailboxServiceStart _ a => .mailboxServiceStart u a
  | .bootComplete _ a => .bootComplete u a
  | .pcieLinkUp _ a b => .pcieLinkUp u a b
  | .configSpaceReady _ => .configSpaceReady u
  | .hostInterfaceReset _ a => .hostInterfaceReset u a
  | .linkRateChange _ a b => .linkRateChange u a b
  | .mbDoorbell _ a b => .mbDoorbell u a b
  | .ringTailWrite _ a b => .ringTailWrite u a b
  | .evqHeadWrite _ a => .evqHeadWrite u a
  | .evqEnable _ => .evqEnable u
  | .evqArmed _ => .evqArmed u
  | .evqVector _ a => .evqVector u a
  | .registerWrite _ a b => .registerWrite u a b
  | .reservedAccess _ a b c => .reservedAccess u a b c
  | .rcRegisterRead _ a => .rcRegisterRead u a
  | .snapshotLoRead _ a => .snapshotLoRead u a
  | .snapshotPairRead _ a => .snapshotPairRead u a
  | .auxStatusRead _ a => .auxStatusRead u a
  | .bar2Write _ a b => .bar2Write u a b
  | .bar2Read _ a b => .bar2Read u a b
  | .msixUnmask _ a => .msixUnmask u a
  | .eventWrite _ => .eventWrite u
  | .coalesceTimer _ => .coalesceTimer u
  | .devInfo _ a => .devInfo u a
  | .devReset _ a => .devReset u a
  | .modeSet _ a => .modeSet u a
  | .modeGet _ a => .modeGet u a
  | .datumCfg _ a => .datumCfg u a
  | .datumForce _ a => .datumForce u a
  | .stageCommit _ a => .stageCommit u a
  | .portCfg _ a => .portCfg u a
  | .portTrain _ a => .portTrain u a
  | .portReadmit _ a => .portReadmit u a
  | .portStat _ a => .portStat u a
  | .encCfg _ a => .encCfg u a
  | .transitCfg _ a => .transitCfg u a
  | .expoSet _ a => .expoSet u a
  | .posRead _ a => .posRead u a
  | .shadeLoad _ a => .shadeLoad u a
  | .shadeRead _ a => .shadeRead u a
  | .polyLoad _ a => .polyLoad u a
  | .defectMap _ a => .defectMap u a
  | .baselineCfg _ a => .baselineCfg u a
  | .seamCfg _ a => .seamCfg u a
  | .regionSet _ a => .regionSet u a
  | .selvedgeCfg _ a => .selvedgeCfg u a
  | .calRun _ a => .calRun u a
  | .calStatus _ a => .calStatus u a
  | .calLimits _ a => .calLimits u a
  | .calApply _ a => .calApply u a
  | .codeTableLoad _ a => .codeTableLoad u a
  | .codecJob _ a => .codecJob u a
  | .codecJobStat _ a => .codecJobStat u a
  | .streamOpen _ a => .streamOpen u a
  | .streamClose _ a => .streamClose u a
  | .ringCfg _ a => .ringCfg u a
  | .spoolCfg _ a => .spoolCfg u a
  | .spoolReplay _ a => .spoolReplay u a
  | .spoolStat _ a => .spoolStat u a
  | .lampMap _ a => .lampMap u a
  | .lampSet _ a => .lampSet u a
  | .lampCurve _ a => .lampCurve u a
  | .lampDerate _ a => .lampDerate u a
  | .lampGroup _ a => .lampGroup u a
  | .lampStat _ a => .lampStat u a
  | .lampRearm _ a => .lampRearm u a
  | .axisCfg _ a => .axisCfg u a
  | .axisMove _ a => .axisMove u a
  | .axisHome _ a => .axisHome u a
  | .axisStop _ a => .axisStop u a
  | .axisStat _ a => .axisStat u a
  | .proofCfg _ a => .proofCfg u a
  | .auxCfg _ a => .auxCfg u a
  | .auxSeq _ a => .auxSeq u a
  | .auxRead _ a => .auxRead u a
  | .auxPoly _ a => .auxPoly u a
  | .auxCal _ a => .auxCal u a
  | .stnCfg _ a => .stnCfg u a
  | .timeCfg _ a => .timeCfg u a
  | .updBegin _ a => .updBegin u a
  | .updPiece _ a b => .updPiece u a b
  | .updStatus _ a => .updStatus u a
  | .updSchedule _ a => .updSchedule u a
  | .updConfirm _ a => .updConfirm u a
  | .updAbort _ a => .updAbort u a
  | .faultLog _ a => .faultLog u a
  | .faultPolicy _ a => .faultPolicy u a
  | .debugOpen _ a => .debugOpen u a
  | .keyProvision _ a b => .keyProvision u a b
  | .diagLoopback _ a => .diagLoopback u a
  | .energyRead _ a => .energyRead u a
  | .loopbackComplete _ a => .loopbackComplete u a
  | .pipelineArmed _ => .pipelineArmed u
  | .orderlyStopComplete _ => .orderlyStopComplete u
  | .stopTimeout _ => .stopTimeout u
  | .encoderEdge _ a b c => .encoderEdge u a b c
  | .stillTimeout _ => .stillTimeout u
  | .cueEdge _ a b => .cueEdge u a b
  | .windowClose _ => .windowClose u
  | .freeze _ => .freeze u
  | .syncRise _ a => .syncRise u a
  | .syncFall _ a => .syncFall u a
  | .verdictDeadline _ => .verdictDeadline u
  | .bankRelease _ => .bankRelease u
  | .tilePacket _ a b c => .tilePacket u a b c
  | .alignmentRow _ a b c => .alignmentRow u a b c
  | .blockLockLoss _ a b => .blockLockLoss u a b
  | .lateError _ a => .lateError u a
  | .trainingComplete _ a b => .trainingComplete u a b
  | .retrainComplete _ a b c d e => .retrainComplete u a b c d e
  | .retrainRetry _ a => .retrainRetry u a
  | .lockLoss _ a b => .lockLoss u a b
  | .ctlTransaction _ a b c d => .ctlTransaction u a b c d
  | .ctlReply _ a b => .ctlReply u a b
  | .ctlReplyLost _ a => .ctlReplyLost u a
  | .collapseComplete _ => .collapseComplete u
  | .runningWhiteBlock _ a b => .runningWhiteBlock u a b
  | .outputLine _ => .outputLine u
  | .staggerDbe _ a b c d => .staggerDbe u a b c d
  | .hbmRowRemap _ a => .hbmRowRemap u a
  | .boltDispatch _ a => .boltDispatch u a
  | .boltCoded _ a b => .boltCoded u a b
  | .codecJobStart _ a b c => .codecJobStart u a b c
  | .codecJobComplete _ a => .codecJobComplete u a
  | .descriptorFetch _ a b => .descriptorFetch u a b
  | .itemDelivery _ a => .itemDelivery u a
  | .flushAge _ a => .flushAge u a
  | .flushRecordTimeout _ a => .flushRecordTimeout u a
  | .backlogBufferEarly _ a => .backlogBufferEarly u a
  | .refugeAdmit _ a => .refugeAdmit u a
  | .proofResumeAllow _ => .proofResumeAllow u
  | .spill _ => .spill u
  | .catchup _ a => .catchup u a
  | .pcieError _ a b => .pcieError u a b
  | .pcieCompletionTimeout _ a b => .pcieCompletionTimeout u a b
  | .nvmeCommandComplete _ a b c => .nvmeCommandComplete u a b c
  | .nvmeTimeout _ a b => .nvmeTimeout u a b
  | .controllerFatalStatus _ a => .controllerFatalStatus u a
  | .spoolLinkLoss _ a => .spoolLinkLoss u a
  | .spoolAttachComplete _ a => .spoolAttachComplete u a
  | .spoolFormatComplete _ a => .spoolFormatComplete u a
  | .spoolReplayComplete _ => .spoolReplayComplete u
  | .lampRound _ => .lampRound u
  | .lampSlot _ a => .lampSlot u a
  | .lampReply _ a b => .lampReply u a b
  | .lampReplyMissing _ a => .lampReplyMissing u a
  | .linePulse _ => .linePulse u
  | .diagMarker _ => .diagMarker u
  | .stringRetry _ a => .stringRetry u a
  | .stringUndiagnosed _ a => .stringUndiagnosed u a
  | .lampUndiagnosed _ a => .lampUndiagnosed u a
  | .profileTick _ => .profileTick u
  | .pwmPeriod _ a => .pwmPeriod u a
  | .switchEdge _ a b c => .switchEdge u a b c
  | .driverFault _ a => .driverFault u a
  | .driverFltClear _ a => .driverFltClear u a
  | .supplyLow _ a => .supplyLow u a
  | .vmTimeout _ a => .vmTimeout u a
  | .holdCurrent _ a => .holdCurrent u a
  | .reApproach _ => .reApproach u
  | .restartCheck _ => .restartCheck u
  | .deltaSigmaConversion _ a b c => .deltaSigmaConversion u a b c
  | .ad2Conversion _ a b => .ad2Conversion u a b
  | .excitationOverload _ a => .excitationOverload u a
  | .staleEvent _ a => .staleEvent u a
  | .auxOpen _ a => .auxOpen u a
  | .selfCalibrationDue _ a => .selfCalibrationDue u a
  | .selfCalibrationComplete _ a b => .selfCalibrationComplete u a b
  | .auxCalComplete _ a => .auxCalComplete u a
  | .shadingResult _ => .shadingResult u
  | .lampResult _ => .lampResult u
  | .nspStatus _ a => .nspStatus u a
  | .nspCommand _ a => .nspCommand u a
  | .nspUpdAnnounce _ a => .nspUpdAnnounce u a
  | .nspUpdPiece _ a b => .nspUpdPiece u a b
  | .nspUpdSchedule _ a => .nspUpdSchedule u a
  | .otherFrame _ => .otherFrame u
  | .statusFrameSend _ => .statusFrameSend u
  | .updNeedSend _ => .updNeedSend u
  | .bucketRefill _ => .bucketRefill u
  | .syncMessage _ a => .syncMessage u a
  | .holdover _ => .holdover u
  | .hostTimeDecay _ => .hostTimeDecay u
  | .stnLost _ => .stnLost u
  | .verificationComplete _ a b => .verificationComplete u a b
  | .activationTime _ => .activationTime u
  | .activationWindowEnd _ => .activationWindowEnd u
  | .switchOverStep _ a b => .switchOverStep u a b
  | .rollbackStep _ => .rollbackStep u
  | .confirmWindowExpiry _ => .confirmWindowExpiry u
  | .sramError _ a b c d => .sramError u a b c d
  | .hbmError _ a b => .hbmError u a b
  | .scrub _ a => .scrub u a
  | .jtagUnlock _ a => .jtagUnlock u a
  | .secretsErased _ => .secretsErased u
  | .authLockoutEnd _ => .authLockoutEnd u
  | .energyTick _ => .energyTick u
  | .clockStepRaise _ a => .clockStepRaise u a
  | .clockStepLower _ a => .clockStepLower u a
  | .clockStop _ a => .clockStop u a
  | .clockRestart _ a => .clockRestart u a
  | .hbmSelfRefresh _ => .hbmSelfRefresh u
  | .sysRstNRise _ => .sysRstNRise u
  | .perstNRise _ => .perstNRise u
  | .modeChangeComplete _ => .modeChangeComplete u
  | .peerDelayFrame _ a => .peerDelayFrame u a
  | .nspUnacceptedType _ a => .nspUnacceptedType u a
  | .encFaultClear _ a => .encFaultClear u a
  | .auxAdcRetired _ a => .auxAdcRetired u a
  | .shadeLoadComplete _ a => .shadeLoadComplete u a
  | .updPieceComplete _ a => .updPieceComplete u a
  | .jtagInstruction _ a => .jtagInstruction u a

end Sys2Proof
end

