-- ==== Sys2Proof/Certificates/Slice0/Obligations.lean ====
section
/-! DEFINITION. The statements for the provers. In each, s is the state before a command, t the instant at which it happens, and s.at t the state at that instant; after t s e is the state that the step answers when the command's own effect leads to e. -/

open Sys2Proof Sys2Proof.Machine Sys2Proof.Safety

/-! ### The machine -/

/-- A step runs the front command on the state with the queue's rest. -/
def Obligations.StepRunsFront : Prop :=
  ∀ (c : Instr) (rest : List Instr) (s : State), s.pending = c :: rest → step s = exec c { s with pending := rest }

/-- With no command waiting the block idles (the model's choice, log 17). -/
def Obligations.IdleStepChangesNothing : Prop :=
  ∀ s : State, s.pending = [] → step s = .next s

/-- Whatever a command does, it leaves the queue alone and moves the time base to its own instant, never back (log 1). -/
def Obligations.ExecKeepsQueueAndTime : Prop :=
  ∀ (c : Instr) (s n : State), exec c s = .next n → n.pending = s.pending ∧ n.now = Nat.max s.now c.time ∧ s.now ≤ n.now

/-- R355: the only stop of the machine is a command of the host after the station master has commanded; reads of RO registers, ring tails, the event queue's head and BAR2 reads go on (R356). No command is ever refused. -/
def Obligations.OnlySecondMasterStops : Prop :=
  ∀ (c : Instr) (s : State),
    (∀ r, exec c s ≠ .refused r) ∧
    (oneMaster s = true → ∃ n, exec c s = .next n) ∧
    (∀ t n tail h o k, c = .ringTailWrite t n tail ∨ c = .evqHeadWrite t h ∨ c = .bar2Read t o k → ∃ m, exec c s = .next m) ∧
    (∀ f, exec c s = .fault f → f = .secondMaster ∧ s.host.stnServed = true ∧ s.stn.cfg.master ≠ 255)

/-- R25: from every state in which the HBM stack is not in self-refresh while exposures, lines, staged rows, bolts, transfers of the drives, jobs or load-area reads are in flight, a step leads to another such state. -/
def Obligations.NoSelfRefreshWhileBusy : Prop :=
  ∀ s n : State, refreshInv s = true → step s = .next n → refreshInv n = true

/-- The invariant of NoSelfRefreshWhileBusy holds after reset. -/
def Obligations.ResetIsNotSelfRefreshing : Prop :=
  refreshInv State.reset = true ∧ State.reset.clk.refresh = false

/-- After a command whose effect leads to a calm state, the step answers that state itself: nothing else of the device has changed. -/
def Obligations.CalmEffectIsFinal : Prop :=
  ∀ (t : Nat) (s e : State), Calm e = true → e.now = Nat.max s.now t → e.pending = s.pending → after t s e = e

/-- What the device holds after reset where the manual says it: RESET (R39), both banks alike with an exposure of 6000 ns (R55), records with GAIN 0x400000 (R162), polynomial sets with k00 1.0 (R167), BANK_GEN and the repeat number 0 (R43, R57), the mailboxes idle (R339), the event queue disabled with LOG2 6 (R348), every axis LOST (R430), MASTER_NODE none (Table 11.11), no port retired and the plane order RED, GRN, BLU, NIR (R8). -/
def Obligations.ResetValues : Prop :=
  let s := State.reset
  s.sys.mode = .reset ∧ s.banks.live = s.banks.staged ∧ s.banks.live.expo = 6000 ∧
  (∀ i, tget shadeReset i s.banks.live.shade = 0x400000 * 2 ^ 40) ∧ (∀ i, (tget polyReset i s.banks.live.poly).head? = some 0x3F800000) ∧
  s.banks.gen = 0 ∧ s.datum.repeatNo = 0 ∧ (∀ n, (s.host.mbs.getD n {}).state = .idle ∧ (s.host.mbs.getD n {}).seq = 0) ∧
  s.host.evq.enable = false ∧ s.host.evq.log2 = 6 ∧ (∀ n, (axisOf s n).lost = true) ∧ s.stn.cfg.master = 255 ∧ s.ports.retired = 0 ∧
  (∀ p, (portOf s p).cfg.colours = [0, 1, 2, 3]) ∧ s.pending = []

/-! ### Requests -/

/-- R343: a request that fails a check is answered with that error, and nothing else changes; one whose OPCODE the command set does not hold is answered BAD_OPCODE. One whose latched parameters are not whole is answered INTERNAL with the entry that it logs (R346; that only this fails a command's own check is the model's choice, log 93). -/
def Obligations.FailedRequestChangesNothing : Prop :=
  (∀ (c : Instr) (s : State) (src : Nat) (k : Cmd) (e : Err), rowCmd c = some (src, k) →
    let u := s.at c.time
    canServe k src u = true → (latchedReq u src).sound = true → judge k (latchedReq u src) u = .error e → exec c s = .next (after c.time s (turnedAway src e u))) ∧
  (∀ (c : Instr) (s : State) (src : Nat) (k : Cmd), rowCmd c = some (src, k) →
    let u := s.at c.time
    canServe k src u = true → (latchedReq u src).sound = false →
      exec c s = .next (after c.time s (raise 0x0B01 (latchedReq u src).opcode (turnedAway src { status := 0xFF, detail := u.flt.next % 65536 } u)))) ∧
  (∀ (src : Nat) (s : State), src < 4 → s.sys.service = true → (s.host.mbs.getD src {}).state = .busy → itsTurn s src = true →
    (s.host.mbs.getD src {}).latched.opcode ∉ knownOpcodes → answerPlain src s = turnedAway src { status := 0x10 } s)

/-- A command row whose source holds no such request in service changes nothing but the time (the model's choice, log 16). -/
def Obligations.UnaskedCommandChangesNothing : Prop :=
  ∀ (c : Instr) (s : State) (src : Nat) (k : Cmd), rowCmd c = some (src, k) → canServe k src (s.at c.time) = false →
    exec c s = .next (after c.time s (s.at c.time))

/-- R52: in RECOVERY every command but DEV_INFO, DEV_RESET, MODE_GET, UPD_BEGIN, UPD_PIECE, UPD_STATUS, UPD_ABORT, FAULT_LOG and DIAG_LOOPBACK returns WRONG_MODE with condition NOT_LEGAL and changes nothing, once its LENGTH is right (R343). -/
def Obligations.RecoveryServesFew : Prop :=
  ∀ (c : Instr) (s : State) (src : Nat) (k : Cmd), rowCmd c = some (src, k) →
    let u := s.at c.time
    let r := latchedReq u src
    u.sys.mode = .recovery → ¬(k.opcode ∈ [0x0001, 0x0002, 0x0102, 0x0C10, 0x0C11, 0x0C12, 0x0C15, 0x0D01, 0x0E01]) → canServe k src u = true → r.sound = true →
    (match k.readLen with | some l => (if r.isRead then l r else k.len r) = none | none => k.len r = none) →
    exec c s = .next (after c.time s (turnedAway src (.wrongMode .recovery 0) u))

/-- R360 and Tables 11.1 to 11.11: a command that its Modes column does not allow returns WRONG_MODE with condition NOT_LEGAL and changes nothing. -/
def Obligations.ModesAreChecked : Prop :=
  ∀ (t src : Nat) (s : State), let u := s.at t
    let away := Host.Outcome.next (ρ := Refusal) (φ := Fault) (after t s (turnedAway src (.wrongMode u.sys.mode 0) u))
    u.sys.mode.all = true →
    (holds 0x0111 0 src u = true → u.sys.mode.cap = false → exec (.datumForce t src) s = away) ∧
    (holds 0x0202 4 src u = true → u.sys.mode.quiet = false → exec (.portTrain t src) s = away) ∧
    (asks 0x0804 12 src u = true → ¬(u.sys.mode ∈ [.standby, .ready, .service]) → exec (.spoolCfg t src) s = away) ∧
    (holds 0x0805 20 src u = true → u.sys.mode ≠ .replay → exec (.spoolReplay t src) s = away) ∧
    (asks 0x0901 36 src u = true → u.sys.mode.quiet = false → exec (.lampMap t src) s = away) ∧
    (asks 0x0905 4 src u = true → u.sys.mode.quiet = false → exec (.lampGroup t src) s = away) ∧
    (asks 0x0A01 24 src u = true → u.sys.mode.quiet = false → exec (.axisCfg t src) s = away) ∧
    (holds 0x0A02 24 src u = true → u.sys.mode ∈ [.standby, .hold] → exec (.axisMove t src) s = away) ∧
    (holds 0x0A03 20 src u = true → ¬(u.sys.mode ∈ [.ready, .service]) → exec (.axisHome t src) s = away) ∧
    (asks 0x0A06 16 src u = true → u.sys.mode.quiet = false → exec (.proofCfg t src) s = away) ∧
    (holds 0x0D10 16 src u = true → ¬(u.sys.mode ∈ [.standby, .service]) → exec (.debugOpen t src) s = away) ∧
    (holds 0x0D11 60 src u = true → ¬(u.sys.mode ∈ [.standby, .service]) → exec (.keyProvision t src ()) s = away) ∧
    (holds 0x0E01 12 src u = true → u.sys.mode ≠ .service → exec (.diagLoopback t src) s = away)

/-- R340 and R53: a doorbell at a mailbox in IDLE or DONE latches the request as MBn_REQ stands, records TOKEN and increments SEQ; the mailbox is BUSY once mailbox service runs, and QUEUED, held in doorbell order, before. One that finds it QUEUED or BUSY is ignored and sets OVERRUN. -/
def Obligations.DoorbellLatchesRequest : Prop :=
  ∀ (t n token : Nat) (s : State), let u := s.at t
    let m := u.host.mbs.getD n {}
    oneMaster s = true → n < 4 → u.sys.mode ≠ .reset →
    ((m.state = .idle ∨ m.state = .done) → ∃ l : Latched, ∃ e : State,
      exec (.mbDoorbell t n token) s = .next (after t s e) ∧
      e = { u with host.mbs := u.host.mbs.set n { m with seq := (m.seq + 1) % 2 ^ 32, token := token % 2 ^ 32, rung := u.now, latched := l, area := u.hbm, state := if u.sys.service then .busy else .queued },
                   host.order := u.host.order ++ [n], host.held := if u.sys.service then u.host.held else u.host.held ++ [n] } ∧
      l.opcode = (tget 0 0 m.req).toNat + 256 * (tget 0 1 m.req).toNat ∧ l.flags = (tget 0 2 m.req).toNat + 256 * (tget 0 3 m.req).toNat ∧
      l.length = (tget 0 4 m.req).toNat + 256 * (tget 0 5 m.req).toNat ∧ l.params = (List.range (Nat.min l.length 4088)).map (fun i => tget 0 (8 + i) m.req)) ∧
    ((m.state = .queued ∨ m.state = .busy) →
      exec (.mbDoorbell t n token) s = .next (after t s { u with host.mbs := u.host.mbs.set n { m with overrun := true } }))

/-! ### Status commands -/

/-- The status commands answer OK with data of the length their rows give and change nothing but their mailbox (R113, R154, R190, R257, R293, R326, R362, R415, R469, R529, Tables 11.1 to 11.12). -/
def Obligations.ReportsChangeNothing : Prop :=
  ∀ (t src : Nat) (s : State), let u := s.at t
    let r := latchedReq u src
    let reports := fun (c : Instr) (n : Nat) => ∃ data : List Byte, data.length = n ∧ exec c s = .next (after t s (answered src data u))
    (holds 0x0001 0 src u = true → servesBasic src u = true → reports (.devInfo t src) 56) ∧
    (holds 0x0102 0 src u = true → servesBasic src u = true → reports (.modeGet t src) 16) ∧
    (holds 0x0D01 8 src u = true → servesBasic src u = true → 1 ≤ r.u16 4 → r.u16 4 ≤ 127 →
      reports (.faultLog t src) (8 + 32 * ((u.flt.log.filter (fun e => decide (r.u32 0 ≤ e.number))).take (r.u16 4)).length)) ∧
    (holds 0x0C12 0 src u = true → servesBasic src u = true → reports (.updStatus t src) 64) ∧
    (u.sys.mode.all = true →
      (holds 0x0204 4 src u = true → r.u8 0 < 32 → r.isClear = false → reports (.portStat t src) 80) ∧
      (holds 0x0304 0 src u = true → reports (.posRead t src) 160) ∧
      (holds 0x0402 12 src u = true → r.u8 0 ≠ 1 → 1 ≤ r.u32 8 → r.u32 8 ≤ 509 → r.u32 4 + r.u32 8 ≤ 655360 → reports (.shadeRead t src) (8 + 8 * r.u32 8)) ∧
      (holds 0x0602 4 src u = true → r.u8 0 = 0 → reports (.calStatus t src) 2128) ∧
      (holds 0x0703 4 src u = true → r.u8 0 = 1 → r.u8 1 < 8 → r.isClear = false → reports (.codecJobStat t src) 40) ∧
      (holds 0x0806 4 src u = true → r.u8 0 < 8 → reports (.spoolStat t src) 184) ∧
      (holds 0x0906 4 src u = true → 1 ≤ r.u16 2 → r.u16 2 ≤ 254 → r.u16 0 + r.u16 2 ≤ 512 → reports (.lampStat t src) (16 + 16 * r.u16 2)) ∧
      (holds 0x0A05 4 src u = true → r.u8 0 < 4 → reports (.axisStat t src) 32) ∧
      (holds 0x0B03 4 src u = true → reports (.auxRead t src) (8 + 8 * (maskIdx 16 (r.u16 0)).length)))

/-- R469: AUX_READ returns the station time and, for every channel in its mask, value, status bits 4:0 and age at that instant; no latch changes. -/
def Obligations.AuxReadTellsEveryChannel : Prop :=
  ∀ (t src : Nat) (s : State), let u := s.at t
    let r := latchedReq u src
    let entry := fun (c : Nat) => let a := auxCh u c
      leBytes 4 (ofS 32 a.value) ++ leBytes 2 (auxStatus a % 32) ++ leBytes 2 (auxAge u.now a)
    holds 0x0B03 4 src u = true → u.sys.mode.all = true →
    exec (.auxRead t src) s = .next (after t s (answered src (leBytes 8 (stationTime u) ++ (maskIdx 16 (r.u16 0)).flatMap entry) u)) ∧
    (answered src (leBytes 8 (stationTime u) ++ (maskIdx 16 (r.u16 0)).flatMap entry) u).aux = u.aux ∧ (∀ i, i < 16 → (i ∈ maskIdx 16 (r.u16 0) ↔ (r.u16 0).testBit i = true))

/-- R40, R362, R36: MODE_GET returns the present and the previous mode, the cause, the target of a MODE_SET in progress or 0xFF, the fault and the entry time; ENERGY_READ returns what the last tick latched, every channel from one tick, and the E_LINE_AVG of 1024 lines or more; below that the value is free (log 78). -/
def Obligations.ModeAndEnergyAreReported : Prop :=
  ∀ (t src : Nat) (s : State), let u := s.at t
    let m := u.meter
    (holds 0x0102 0 src u = true → servesBasic src u = true →
    exec (.modeGet t src) s = .next (after t s (answered src (layout 16
      [(0, 1, u.sys.mode.code), (1, 1, u.sys.prev.code), (2, 1, u.sys.cause), (3, 1, (u.sys.pend.map (fun p => p.target.code)).getD 0xFF), (4, 2, u.sys.fault), (8, 8, u.sys.tEnter)]) u))) ∧
    (holds 0x0E02 0 src u = true → u.sys.mode.all = true →
    exec (.energyRead t src) s = .next (after t s { answered src (leBytes 8 m.tSnap ++ m.ch.flatMap (leBytes 8) ++ leBytes 8 m.snapIn ++ leBytes 8 m.snapOut ++ leBytes 8 m.snapLines
      ++ leBytes 4 (m.snapAvg.getD (Config.freeValue u.free).toNat)) u with free := u.free + 1 }))


/-! ### Settings that act at once (R361) -/

/-- R361: the read form of a command that has one answers with the settings in force and changes nothing; a value outside its table is answered with the error that the command's own form would give. With CLEAR it clears the counters that the command names, nothing else. -/
def Obligations.ReadFormsTellTheSettings : Prop :=
  ∀ (c : Instr) (s : State) (src : Nat) (k : Cmd) (l : Req → Option Nat), rowCmd c = some (src, k) → k.readLen = some l →
    let u := s.at c.time
    let r := latchedReq u src
    canServe k src u = true → r.isRead = true → l r = none → u.sys.mode.all = true →
    (∀ data, k.read r u = .ok data → r.isClear = false → exec c s = .next (after c.time s (answered src data u))) ∧
    (∀ data, k.read r u = .ok data → r.isClear = true → exec c s = .next (after c.time s (k.clear r (answered src data u)))) ∧
    (∀ e, k.read r u = .error e → exec c s = .next (after c.time s (turnedAway src e u)))

/-- R65, R77, R81, R87: DATUM_CFG, ENC_CFG, TRANSIT_CFG and PROOF_CFG act at once on their own settings, and on nothing else; while a session captures, the settings that R77 and R87 lock must stay. With no vibration channel the bar term is 0 (R85); the position expected for the next cue moves with REPEAT_NOMINAL (R67). -/
def Obligations.TimingSettingsActAtOnce : Prop :=
  ∀ (t src : Nat) (s : State), let u := s.at t
    let r := latchedReq u src
    u.sys.mode.all = true →
    (asks 0x0110 40 src u = true → exec (.datumCfg t src) s = .next (after t s { answered src [] u with datum := { u.datum with cfg := datumCfgOf r u, expected := u.datum.expected.map (fun e => e - (u.datum.cfg.nominal : Int) + ((datumCfgOf r u).nominal : Int)) } })) ∧
    (asks 0x0301 20 src u = true → r.u8 0 < 4 → (u.sys.mode.cap = false ∨ r.u8 0 ≠ transitSource u) →
      exec (.encCfg t src) s = .next (after t s { answered src [] u with tr := { u.tr with encs := u.tr.encs.set (r.u8 0) (encOf r (u.tr.encs.getD (r.u8 0) {})), cueFilter := cueFilters r u.tr.cueFilter } })) ∧
    (asks 0x0302 36 src u = true → (u.sys.mode.cap = false ∨ ((transitCfgOf r).pitch = u.tr.cfg.pitch ∧ (transitCfgOf r).source = u.tr.cfg.source)) →
      (r.u8 3 < 4 → exec (.transitCfg t src) s = .next (after t s { answered src [] u with tr := { u.tr with cfg := transitCfgOf r } })) ∧
      (4 ≤ r.u8 3 → exec (.transitCfg t src) s = .next (after t s { answered src [] u with tr := { u.tr with cfg := transitCfgOf r, dB := 0, vB := 0, vibHeld := 0 } }))) ∧
    (asks 0x0A06 16 src u = true → u.sys.mode.quiet = true → (r.u8 0 < 4 ∨ r.u8 0 = 255) → (r.u8 1 < 4 ∨ r.u8 1 = 255) →
      exec (.proofCfg t src) s = .next (after t s { answered src [] u with proof := { proofAxis := r.u8 0, benchAxis := r.u8 1, proofSource := r.enum 2 5 0, benchSource := r.enum 3 5 0, proofScale := r.u32 4, benchScale := r.u32 8, lag := Nat.min (r.u16 0x0C) 1000 } }))

/-- R344 and R345: whatever a request asks, the values in force lie in the ranges of their tables: DATUM_CFG (Table 2.6), ENC_CFG (Table 3.2), TRANSIT_CFG (Table 3.4), PORT_CFG (Table 4.2), RING_CFG (Table 9.4), CAL_LIMITS (Table 7.3), LAMP_DERATE (R396), STN_CFG (Table 11.11), and the ring's ENTRIES is a power of two. -/
def Obligations.RequestValuesAreClamped : Prop :=
  ∀ (r : Req) (u : State) (e : Encoder) (n : Nat),
    (let c := datumCfgOf r u
     c.source ≤ 2 ∧ c.cueInput ≤ 3 ∧ c.edge ≤ 1 ∧ c.flywheel ≤ 1 ∧ 1 ≤ c.modulus ∧ 256 ≤ c.nominal ∧ c.nominal < 2 ^ 40 ∧ c.cueOffset < 2 ^ 40 ∧ c.window ≤ c.nominal / 4 ∧ c.minSpacing ≤ c.nominal) ∧
    (let c := encOf r e
     c.enable ≤ 1 ∧ c.mode ≤ 1 ∧ c.invert ≤ 1 ∧ c.filter ≤ 30 ∧ c.filter % 2 = 0 ∧ ∀ x ∈ c.trims, -64 ≤ x ∧ x ≤ 63) ∧
    (let c := transitCfgOf r
     c.source ≤ 3 ∧ c.tol ≤ 128 ∧ 1 ≤ c.horizonLines ∧ c.horizonLines ≤ 4 ∧ (c.vibChannel < 4 ∨ c.vibChannel = 255) ∧ 1048576 ≤ c.pitch ∧ c.pitch < 2 ^ 48 ∧
     10000 ≤ c.horizonTime ∧ c.horizonTime ≤ 40000 ∧ c.vMin ≤ 20000 ∧ 2048 ≤ c.alpha ∧ c.alpha ≤ 49152 ∧ 1 ≤ c.beta ∧ c.beta ≤ 32768 ∧ c.gamma * (65536 - c.alpha) ≤ 2 * c.alpha * c.beta ∧ 1 ≤ c.ticksPerM) ∧
    (let c := portCfgOf r
     64 ≤ c.columns ∧ c.columns ≤ 5120 ∧ c.columns % 64 = 0 ∧ 1 ≤ c.planes ∧ c.planes ≤ 15 ∧ (c.depth = 10 ∨ c.depth = 12 ∨ c.depth = 14) ∧ c.dark ≤ 64) ∧
    (let c := ringOf r n
     (∃ k, 6 ≤ k ∧ k ≤ 16 ∧ c.entries = 2 ^ k) ∧ c.base % 4096 = 0 ∧ 1 ≤ c.reserve ∧ c.reserve ≤ c.entries / 2 ∧ 1 ≤ c.storeMax ∧ c.storeMax ≤ 224 ∧ 1 ≤ c.proofHigh ∧ c.proofHigh ≤ c.storeMax ∧ c.proofLow ≤ c.proofHigh) ∧
    (let c := limitsOf r
     c.gainMin ≤ c.gainMax ∧ c.gainMax < 2 ^ 24 ∧ -8192 ≤ c.offMin ∧ c.offMin ≤ 0 ∧ 0 ≤ c.offMax ∧ c.offMax ≤ 32768 ∧ c.trimMin ≤ c.trimMax) ∧
    (let d := derateTemps r
     d.1 ≤ 2400 ∧ -640 ≤ d.1 ∧ d.1 < d.2.1 ∧ d.2.1 ≤ d.2.2.1 ∧ d.2.2.2 + 16 ≤ d.2.2.1) ∧
    (let c := stnCfgOf r
     c.enable ≤ 1 ∧ c.access ≤ 1 ∧ c.nodeId ≤ 254 ∧ 1 ≤ c.nodeCount ∧ 1 ≤ c.rate)

/-- R235, R394, R396, R370, R411: CAL_LIMITS, LAMP_CURVE, LAMP_DERATE, LAMP_GROUP and LAMP_MAP act at once on what they name. LAMP_GROUP has the slices that hold the group's strings send a new GROUP_MAP. -/
def Obligations.LampSettingsActAtOnce : Prop :=
  ∀ (t src : Nat) (s : State), let u := s.at t
    let r := latchedReq u src
    u.sys.mode.all = true →
    (asks 0x0603 40 src u = true → exec (.calLimits t src) s = .next (after t s { answered src [] u with cal := { u.cal with limits := limitsOf r } })) ∧
    (asks 0x0903 16 src u = true → r.u16 0 + r.u16 2 ≤ 512 → (r.u8 4 ≠ 2 ∨ (r.u32 0x0C + 2048 ≤ 64 * 2 ^ 20)) → exec (.lampCurve t src) s = .next (after t s (applyCurve r (answered src [] u)))) ∧
    (asks 0x0903 16 src u = true → r.u16 0 < 512 → r.u16 2 = 1 → r.u8 4 < 2 → (lampStr u (r.u16 0)).pwm = r.enum 5 2 0 →
      exec (.lampCurve t src) s = .next (after t s { answered src [] u with lamp := { u.lamp with strs := tset {} (r.u16 0) { lampStr u (r.u16 0) with curve := r.u8 4, gamma := clampN (r.u16 6) 16384 49152, fadeMs := Nat.min (r.u32 8) 65000, table := [], tableAt := r.u32 0x0C, before := some ((lampStr u (r.u16 0)).before.getD ((lampStr u (r.u16 0)).curve, (lampStr u (r.u16 0)).gamma, (lampStr u (r.u16 0)).table)) } u.lamp.strs } })) ∧
    (asks 0x0904 16 src u = true → r.u16 0 + r.u16 2 ≤ 512 →
      exec (.lampDerate t src) s = .next (after t s { answered src [] u with lamp := { u.lamp with strs := (List.range (r.u16 2)).foldl (fun l j => tset {} (r.u16 0 + j) { tget {} (r.u16 0 + j) l with knee := (derateTemps r).1, floorT := (derateTemps r).2.1, offT := (derateTemps r).2.2.1, onT := (derateTemps r).2.2.2, floor := r.u16 0x0C } l) u.lamp.strs } })) ∧
    (asks 0x0905 4 src u = true → u.sys.mode.quiet = true → r.u8 0 < 8 →
      exec (.lampGroup t src) s = .next (after t s { answered src [] u with lamp := { u.lamp with safety := setBit u.lamp.safety (r.u8 0) (r.flag 1 == 1), slices := (((groupStrings u (r.u8 0)).map (fun i => i / 8)).eraseDups).foldl (fun l n => if (tget {} n l).enable = 1 then tset {} n { tget {} n l with mapDue := true } l else l) u.lamp.slices } })) ∧
    (asks 0x0901 36 src u = true → u.sys.mode.quiet = true → r.u8 0 < 64 → (∀ k, k < 8 → r.u8 (5 + 4 * k) < 8 ∨ r.u8 (5 + 4 * k) = 255) →
      ∃ e : State, exec (.lampMap t src) s = .next (after t s e) ∧ e = applyMap (r.u8 0) (r.flag 1) (mapEntries r) (answered src [] u) ∧
        e.lamp.off = u.lamp.off ∧ e.lamp.safety = u.lamp.safety ∧ (∀ n, n ≠ 0x0301 → n ≠ 0x0302 → n ≠ 0x0303 → ∀ x, faultActive e n x = faultActive u n x))

/-- R73, R419, R449, R452, R464: AXIS_CFG, AUX_SEQ and AUX_POLY act at once on their own axis or channel, and AUX_CFG puts its adjusted values in force; one that enables a channel whose last conversion still runs is accepted and waits for its end (R73). An axis that is enabled holds, with its fault bits clear; one that is disabled loses its position and stops, with EV_AXIS of that where it was known. -/
def Obligations.AxisAndAuxSettingsActAtOnce : Prop :=
  ∀ (t src : Nat) (s : State), let u := s.at t
    let r := latchedReq u src
    u.sys.mode.all = true →
    (asks 0x0A01 24 src u = true → u.sys.mode.quiet = true → r.u8 0 < 4 → (axisOf u (r.u8 0)).state ∉ [2, 3, 5] →
      let c : AxisCfg :=
        { enable := r.flag 1, stopMode := r.enum 2 2 0, debounce := Nat.min (r.u8 3) 100, pwm := clampN (r.u8 4) 25 80, pol := r.u8 5 % 8, invert := r.flag 6, profile := r.enum 7 2 0, res := clampN (r.u16 8) 100 50000, ind := Nat.max (r.u16 0x0A) 10, ke := r.u16 0x0C, run := Nat.min (r.u16 0x0E) 5000, hold := Nat.min (r.u16 0x10) 5000, backlash := r.u32 0x14 }
      let a := axisOf u (r.u8 0)
      (1 ≤ r.u8 1 → exec (.axisCfg t src) s = .next (after t s { answered src [] u with mot := { u.mot with axes := u.mot.axes.set (r.u8 0) { a with cfg := c, state := if a.state = 4 then 4 else 1, raised := true, holding := true, vmTime := if a.cfg.enable = 1 then a.vmTime else u.now, satSince := 0, satPosted := false, faults := 0 } } })) ∧
      (r.u8 1 = 0 → a.lost = true → exec (.axisCfg t src) s = .next (after t s { answered src [] u with mot := { u.mot with axes := u.mot.axes.set (r.u8 0) { a with cfg := c, state := 0, lost := true, motion := none, req := none, homing := none, vel := {}, dutyA := 0, dutyB := 0, satSince := 0 } } })) ∧
      (r.u8 1 = 0 → a.lost = false → exec (.axisCfg t src) s = .next (after t s (evAxis 4 0 (r.u8 0) { answered src [] u with mot := { u.mot with axes := u.mot.axes.set (r.u8 0) { a with cfg := c, state := 0, lost := true, motion := none, req := none, homing := none, vel := {}, dutyA := 0, dutyB := 0, satSince := 0 } } })))) ∧
    (asks 0x0B04 64 src u = true → r.u8 0 < 16 →
      exec (.auxPoly t src) s = .next (after t s { answered src [] u with aux := { u.aux with chs := u.aux.chs.set (r.u8 0) { auxCh u (r.u8 0) with tempCh := if r.u8 1 < 16 ∨ r.u8 1 = 0xFE then r.u8 1 else 0xFF, poly := some ((List.range 15).map (fun i => f32Clean 0x7F7FFFFF (r.u32 (4 + 4 * i)))) } } })) ∧
    (asks 0x0B02 68 src u = true → (∀ i, i < clampN (r.u8 1) 1 16 → r.u8 (4 + 4 * i) < 16) →
      ∃ e : State, exec (.auxSeq t src) s = .next (after t s e) ∧ e.aux.seq.mode = r.enum 0 2 0 ∧ e.aux.seq.slots = clampN (r.u8 1) 1 16 ∧
        e.aux.seq.entries = (List.range 16).map (fun i => (r.u8 (4 + 4 * i), Nat.min (r.u16 (6 + 4 * i)) 1000)) ∧ (auxConv e 2) = (auxConv u 2) ∧ ∀ c, (auxCh e c).cfg = (auxCh u c).cfg ∧ (auxCh e c).value = (auxCh u c).value) ∧
    (asks 0x0B01 24 src u = true → r.u8 0 < 16 → shuttingDown u (r.u8 0) = false → exec (.auxCfg t src) s = .next (after t s (applyAuxCfg (r.u8 0) (auxCfgOf u r) (answered src [] u)))) ∧
    (asks 0x0B01 24 src u = true → r.u8 0 < 16 → shuttingDown u (r.u8 0) = true → 1 ≤ r.u8 1 → hasRoomFor src u = true →
      exec (.auxCfg t src) s = .next (after t s { accepted src (r.u8 0) [] u with aux := { u.aux with reopens := u.aux.reopens ++ [(src * 2 ^ 32 + r.seq, r.u8 0, auxCfgOf u r)] } }))

/-- R476, R355, R492, R373, R297, R298, R316: STN_CFG, TIME_CFG, FAULT_POLICY and RING_CFG act at once; a new MASTER_NODE forgets that another has commanded; a change of ACCESS, NODE_ID or NODE_COUNT discards the STATUS that waited; a HOST_TIME of 0 sets no time, and the Syncs of another source or domain count anew (the model's choice, log 97); a ring starts empty with its registers reset; the first use of SPOOL_CFG that switches the spool off has the device look at its drives and completes at once, and one that switches it on has the device look at its drives (R314). -/
def Obligations.BusAndRingSettingsActAtOnce : Prop :=
  ∀ (t src : Nat) (s : State), let u := s.at t
    let r := latchedReq u src
    u.sys.mode.all = true →
    (asks 0x0C01 16 src u = true → (r.u8 6 = u.stn.cfg.master) → (u.stn.cfg.enable = 1 ∨ r.u8 0 = 0) →
      exec (.stnCfg t src) s = .next (after t s { answered src [] u with stn := { u.stn with cfg := stnCfgOf r, statusDue := u.stn.statusDue && decide (u.stn.cfg.access = r.enum 1 2 0 ∧ u.stn.cfg.nodeId = Nat.min (r.u8 2) 254 ∧ u.stn.cfg.nodeCount = Nat.max 1 (r.u8 3)) } })) ∧
    (asks 0x0C01 16 src u = true → (r.u8 6 ≠ u.stn.cfg.master) →
      ∃ e : State, exec (.stnCfg t src) s = .next (after t s e) ∧ e.stn.cfg = stnCfgOf r ∧ e.host.stnServed = false ∧ (u.stn.cfg.enable = 0 → 1 ≤ r.u8 0 → e.stn.lastRx = u.now)) ∧
    (asks 0x0C02 16 src u = true → r.u64 8 = 0 →
      exec (.timeCfg t src) s = .next (after t s { answered src [] u with time := { u.time with source := r.enum 0 2 0, domain := r.u8 1, good := if u.time.source = r.enum 0 2 0 ∧ u.time.domain = r.u8 1 then u.time.good else 0 } })) ∧
    (asks 0x0C02 16 src u = true → r.u64 8 ≠ 0 → r.u8 0 = 1 →
      ∃ e : State, exec (.timeCfg t src) s = .next (after t s e) ∧ e.time.source = 1 ∧ e.time.domain = r.u8 1 ∧ e.time.state = 1 ∧ e.time.lastHost = u.now ∧ e.time.everSet = true) ∧
    (∀ n, asks 0x0D02 (4 * n) src u = true → 1 ≤ n → n ≤ 1022 → (∀ i, i < n → (faultRow (r.u16 (4 * i))).isSome = true) →
      exec (.faultPolicy t src) s = .next (after t s { answered src [] u with flt := { u.flt with policy := ((List.range n).map (policyEntry r)).foldl setPolicy u.flt.policy } })) ∧
    (asks 0x0803 36 src u = true → r.u8 0 < 8 → (streamOf u (r.u8 0)).flow = 0 → (streamOf u (r.u8 0)).closing = false → backlog (streamOf u (r.u8 0)) = false →
      exec (.ringCfg t src) s = .next (after t s (modStream (r.u8 0) (fun x => { x with ringed := true, ring := ringOf r (r.u8 0), tail := 0, head := 0, dseq := 0, phase := 1, ringErr := false, desc := none, buf := none }) (answered src [] u)))) ∧
    (asks 0x0804 12 src u = true → u.sys.mode ∈ [.standby, .ready, .service] → (r.u8 3 ≠ 1 ∨ r.u32 8 = 0x464F524D) → hasRoomFor src u = true →
      (1 ≤ r.u8 0 → exec (.spoolCfg t src) s = .next (after t s (probeDrives { accepted src 0 [] u with spool := { u.spool with cfg := spoolCfgOf r } }))) ∧
      (r.u8 0 = 0 → exec (.spoolCfg t src) s = .next (after t s (complete (ofOpcode 0x0804) 0 0 0 (probeDrives { accepted src 0 [] u with spool := { u.spool with cfg := spoolCfgOf r } })))))

/-- R118, R119, R364: PORT_CFG acts at once on its port; a new FILL is all it changes while a session captures; a port whose lanes must train anew is trained, and the command is accepted until that training ends; one that would take a table past its capacity is TABLE_FULL (R347). -/
def Obligations.PortCfgActsOnItsPort : Prop :=
  ∀ (t src : Nat) (s : State), let u := s.at t
    let r := latchedReq u src
    let c := portCfgOf r
    let x := portOf u (r.u8 0)
    asks 0x0201 20 src u = true → u.sys.mode.all = true → r.u8 0 < 32 →
    baselineOver (fun q => if q = r.u8 0 then c else (portOf u q).cfg) u.banks.staged.base = false →
    (∀ k, takenPast u (modPort (r.u8 0) (fun x => { x with cfg := c }) u) = some k → ({ c with fill := x.cfg.fill } = x.cfg ∨ (u.sys.mode.cap = false ∧ u.sys.mode ≠ .replay)) →
      exec (.portCfg t src) s = .next (after t s (turnedAway src (.tableFull k) u))) ∧
    (({ c with fill := x.cfg.fill } ≠ x.cfg → (u.sys.mode.cap = true ∨ u.sys.mode = .replay) → exec (.portCfg t src) s = .next (after t s (turnedAway src (.wrongMode u.sys.mode 0x0A) u)))) ∧
    (takenPast u (modPort (r.u8 0) (fun x => { x with cfg := c }) u) = none →
    ({ c with fill := x.cfg.fill } = x.cfg →
      exec (.portCfg t src) s = .next (after t s { answered src [] u with ports := { u.ports with list := u.ports.list.set (r.u8 0) { x with cfg := { x.cfg with fill := r.u16 0x0E } } } })) ∧
    ({ c with fill := x.cfg.fill } ≠ x.cfg → u.sys.mode.cap = false → u.sys.mode ≠ .replay → ((u.sys.mode ∉ [.ready, .service, .hold] ∧ x.state = .off) ∨ r.u8 1 = 0 ∨ x.state = .retired) → (x.cfg.enable = 0 ∨ 1 ≤ r.u8 1) →
      exec (.portCfg t src) s = .next (after t s { answered src [] u with ports := { u.ports with list := u.ports.list.set (r.u8 0) { x with cfg := c } } })) ∧
    ({ c with fill := x.cfg.fill } ≠ x.cfg → u.sys.mode.cap = false → u.sys.mode ≠ .replay → (u.sys.mode ∈ [.ready, .service, .hold] ∨ x.state ≠ .off) → 1 ≤ r.u8 1 → x.state ≠ .retired → hasRoomFor src u = true →
      let m : State := { accepted src (r.u8 0) [] u with ports := { u.ports with list := u.ports.list.set (r.u8 0) { x with cfg := c } } }
      exec (.portCfg t src) s = .next (after t s (startTraining (r.u8 0) { m with ports := { m.ports with trains := u.ports.trains ++ [{ key := src * 2 ^ 32 + r.seq, op := 0x0201, mask := 2 ^ r.u8 0, left := 2 ^ r.u8 0 }] } }))) ∧
    (u.sys.mode.cap = false → u.sys.mode ≠ .replay → x.cfg.enable = 1 → r.u8 1 = 0 →
      exec (.portCfg t src) s = .next (after t s (disablePort (r.u8 0) { answered src [] u with ports := { u.ports with list := u.ports.list.set (r.u8 0) { x with cfg := c } } }))))

/-! ### The staged bank (R55 to R61) -/

/-- R55, R56, R60, R163, R167, R192, R202, R207, R211, R212, R279: with the staged bank free, each of these commands writes its own part of the staged bank and nothing else; the live bank stays until a Datum takes the staged one. A STREAM_OPEN of a stream that still closes is accepted and waits for its end (R73); records that the host rewrites are no longer those in which a scrub found an error (R525). R168: POLY_LOAD FORM 1 binds a port to a temperature at once, whatever the staged bank. -/
def Obligations.StagedSettingsGoToTheStagedBank : Prop :=
  ∀ (t src : Nat) (s : State), let u := s.at t
    let r := latchedReq u src
    let done := fun (c : Instr) (f : Bank → Bank) => exec c s = .next (after t s (staged f (answered src [] u)))
    u.sys.mode.all = true →
    (asks 0x0403 8 src u = true → r.u8 0 = 1 → r.u8 1 < 32 → exec (.polyLoad t src) s = .next (after t s { answered src [] u with px := { u.px with
      binds := tset {} (r.u8 1) { source := if r.u8 2 < 16 then r.u8 2 else 255, fixed := clampI (r.s16 4) (-880) 2400, held := (tget {} (r.u8 1) u.px.binds).held && (tget {} (r.u8 1) u.px.binds).source == (if r.u8 2 < 16 then r.u8 2 else 255) } u.px.binds } })) ∧
    (stagedFree u = true →
    (asks 0x0303 4 src u = true → done (.expoSet t src) (fun b => { b with expo := clampN (r.u32 0) 2000 999500 })) ∧
    (asks 0x0504 72 src u = true → done (.selvedgeCfg t src) (fun b => { b with sv := svOf r u })) ∧
    (asks 0x0502 8 src u = true → r.u8 0 < 32 →
      takenPast u (staged (fun b => { b with seams := tset {} (r.u8 0) (clampSeam { overlap := r.u16 2, offset := r.s16 4, blend := r.u16 6 } (seamColumns u (r.u8 0)).1 (seamColumns u (r.u8 0)).2) b.seams }) u) = none →
      done (.seamCfg t src) (fun b => { b with seams := tset {} (r.u8 0) (clampSeam { overlap := r.u16 2, offset := r.s16 4, blend := r.u16 6 } (seamColumns u (r.u8 0)).1 (seamColumns u (r.u8 0)).2) b.seams })) ∧
    (asks 0x0501 12 src u = true → r.u8 0 < 32 → u.sys.mode.cap = false → staggerLines u (tset {} (r.u8 0) (baseOfReq r) u.banks.staged.base) ≤ 65536 →
      baselineOver (fun q => (portOf u q).cfg) (tset {} (r.u8 0) (baseOfReq r) u.banks.staged.base) = false → done (.baselineCfg t src) (fun b => { b with base := tset {} (r.u8 0) (baseOfReq r) b.base })) ∧
    (asks 0x0701 12 src u = true → 8 ≤ r.u8 0 → r.u8 0 < 24 → tableBytesValid (slice r.params 1 9) = true →
      done (.codeTableLoad t src) (fun b => { b with codes := tset (tableBytes (builtinTable (r.u8 0 % 8))) (r.u8 0) (slice r.params 1 9) b.codes })) ∧
    (asks 0x0801 72 src u = true → r.u8 0 < 8 → (streamOf u (r.u8 0)).ringed = true → ((streamOf u (r.u8 0)).flow ≠ 0 ∨ backlog (streamOf u (r.u8 0)) = false) → r.u8 6 < 24 → r.u8 7 < 24 →
      formatRefused u (r.u8 0) (streamFmt r) = none →
      ((streamOf u (r.u8 0)).closing = false → done (.streamOpen t src) (fun b => { b with streams := tset {} (r.u8 0) (streamFmt r) b.streams })) ∧
      ((streamOf u (r.u8 0)).closing = true → backlog (streamOf u (r.u8 0)) = false → hasRoomFor src u = true →
        exec (.streamOpen t src) s = .next (after t s (staged (fun b => { b with streams := tset {} (r.u8 0) (streamFmt r) b.streams }) (accepted src (r.u8 0) [] u))))) ∧
    (∀ n, 1 ≤ n → n ≤ 1022 → asks 0x0902 (4 * n) src u = true → (∀ i, i < n → r.u16 (4 * i) < 512) →
      done (.lampSet t src) (fun b => { b with lamps := (List.range n).foldl (fun l i => tset 0 (r.u16 (4 * i)) (r.u16 (4 * i + 2)) l) b.lamps })) ∧
    (∀ n, 1 ≤ n → n ≤ 127 → asks 0x0503 (32 * n) src u = true → (∀ i, i < n → r.u16 (32 * i) < 256) →
      takenPast u (staged (fun b => { b with regions := (List.range n).foldl (fun l i => tset {} (r.u16 (32 * i)) (regionEntry r i).2 l) b.regions }) u) = none →
      done (.regionSet t src) (fun b => { b with regions := (List.range n).foldl (fun l i => tset {} (r.u16 (32 * i)) (regionEntry r i).2 l) b.regions })) ∧
    (u.banks.grade = false →
      (∀ n, 1 ≤ n → n ≤ 1022 → holds 0x0404 (4 * n) src u = true → (∀ e ∈ defectEntries r, e.1 < 655360) →
        done (.defectMap t src) (fun b => { b with shade := (defectEntries r).foldl (fun l e => tmod shadeReset e.1 (fun w => withDef w e.2) l) b.shade })) ∧
      (∀ n, 1 ≤ n → n ≤ 509 → holds 0x0401 (16 + 8 * n) src u = true → r.u32 4 = n → r.u8 8 ≠ 1 → r.u32 0 + n ≤ 655360 →
        tcoBad (r.u32 0) n (putRecords (r.u32 0) (recordsOf n (r.params.drop 16)) u.banks.staged.shade) = false →
        exec (.shadeLoad t src) s = .next (after t s (staged (fun b => { b with shade := putRecords (r.u32 0) (recordsOf n (r.params.drop 16)) b.shade })
          { answered src [] u with mem := { u.mem with latentShade := u.mem.latentShade.filter (fun e => !(e.1 == 1 && decide (r.u32 0 ≤ e.2) && decide (e.2 < r.u32 0 + (recordsOf n (r.params.drop 16)).length))) } })))) ∧
    (∀ n, 1 ≤ n → n ≤ 101 → asks 0x0403 (4 + 40 * n) src u = true → r.u8 0 ≠ 1 → r.u8 2 = n → r.u8 1 + n ≤ 256 →
      done (.polyLoad t src) (fun b => { b with poly := (List.range n).foldl (fun l i => tset polyReset (r.u8 1 + i) ((List.range 10).map (fun k => polyWord (r.u32 (4 + 40 * i + 4 * k)))) l) b.poly })))

/-- R56, R59, R397: STAGE_COMMIT arms the staged bank and answers with BANK_GEN, ARMED 1 and the grade's flag, at once where no changed string without a fade is in service, and else when the PENDING frames that are due in the slots of those slices have been written; where the bank is armed already it only answers; with no lamp target that changes nothing else changes. While the staged bank is armed, or the bank of the ending repeat is still held, every write of the staged bank is answered BUSY with DETAIL 0x0100 and changes nothing. -/
def Obligations.StageCommitArmsAndArmedBankIsBusy : Prop :=
  ∀ (t src : Nat) (s : State), let u := s.at t
    let r := latchedReq u src
    let busy := Host.Outcome.next (ρ := Refusal) (φ := Fault) (after t s (turnedAway src (.busy 1) u))
    u.sys.mode.all = true →
    (holds 0x0112 0 src u = true →
      let data := layout 4 [(0, 2, u.banks.gen), (2, 1, 1), (3, 1, b2n u.banks.grade)]
      (u.banks.armed = true → exec (.stageCommit t src) s = .next (after t s (answered src data u))) ∧
      (u.banks.armed = false → u.banks.old.isSome = true → exec (.stageCommit t src) s = busy) ∧
      (u.banks.armed = false → u.banks.old = none → armPendings u = [] → exec (.stageCommit t src) s = .next (after t s (armLamps { answered src data u with banks := { u.banks with armed := true } }))) ∧
      (u.banks.armed = false → u.banks.old = none → armPendings u ≠ [] → exec (.stageCommit t src) s = .next (after t s (armLamps { holdAnswer r 0 0 data u with banks := { u.banks with armed := true } })))) ∧
    (changedStrings u.banks.live u.banks.staged = [] → armLamps u = u ∧ armPendings u = []) ∧
    (∀ e ∈ armPendings u, ((tget {} e.1 (armLamps u).lamp.slices).pend).isSome = true ∧ (tget {} e.1 (armLamps u).lamp.slices).written = false) ∧
    (∀ m : State, m.lamp.slices.any (fun e => e.2.pend.isSome && !e.2.written) = true → lateAnswers m = m) ∧
    (stagedFree u = false →
    (asks 0x0303 4 src u = true → exec (.expoSet t src) s = busy) ∧
    (asks 0x0504 72 src u = true → exec (.selvedgeCfg t src) s = busy) ∧
    (asks 0x0502 8 src u = true → exec (.seamCfg t src) s = busy) ∧
    (asks 0x0701 12 src u = true → exec (.codeTableLoad t src) s = busy) ∧
    (∀ n, 1 ≤ n → n ≤ 1022 → asks 0x0902 (4 * n) src u = true → exec (.lampSet t src) s = busy) ∧
    (∀ n, 1 ≤ n → n ≤ 127 → asks 0x0503 (32 * n) src u = true → exec (.regionSet t src) s = busy) ∧
    (∀ n, 1 ≤ n → n ≤ 1022 → u.banks.grade = false → holds 0x0404 (4 * n) src u = true → exec (.defectMap t src) s = busy) ∧
    (asks 0x0801 72 src u = true → r.u8 0 < 8 → (streamOf u (r.u8 0)).ringed = true → exec (.streamOpen t src) s = busy) ∧
    (u.sys.mode.cap = false → asks 0x0501 12 src u = true → exec (.baselineCfg t src) s = busy))

/-- R163, R337, R365: a SHADE_LOAD from the load area is accepted, puts the records it finds into the staged bank and stays open; SHADE_LOAD_COMPLETE ends the oldest, and where HBM stands as it did the records stand as they are. Each 64-byte block of the area reads as at the doorbell or as now, freely. -/
def Obligations.ShadeLoadFromTheLoadArea : Prop :=
  ∀ (t src : Nat) (s : State), let u := s.at t
    let r := latchedReq u src
    let bs := readLoad (areaOf u src) (r.u32 0x0C) (8 * r.u32 4) u
    let mine := fun (j : ShadeJob) => fun (p : Pend) => p.opcode == 0x0401 && p.src == j.src && p.seq == j.seq
    (holds 0x0401 16 src u = true → u.sys.mode.all = true → stagedFree u = true → u.banks.grade = false → r.u8 8 = 1 → 1 ≤ r.u32 4 → r.u32 0 + r.u32 4 ≤ 655360 →
      r.u32 0x0C % 8 = 0 → r.u32 0x0C + 8 * r.u32 4 ≤ 67108864 → tcoBad (r.u32 0) (r.u32 4) (putRecords (r.u32 0) (recordsOf (r.u32 4) bs) u.banks.staged.shade) = false → hasRoomFor src u = true →
      exec (.shadeLoad t src) s = .next (after t s (drewLoad (8 * r.u32 4) (staged (fun b => { b with shade := putRecords (r.u32 0) (recordsOf (r.u32 4) bs) b.shade })
        { accepted src 0 [] u with px := { u.px with loads := u.px.loads ++ [{ src := src, seq := r.seq, first := r.u32 0, count := r.u32 4, offset := r.u32 0x0C, area := areaOf u src, seen := u.hbm }] } })))) ∧
    (∀ j, u.px.loads.head? = some j → j.src = src →
      let v : State := { u with px := { u.px with loads := u.px.loads.erase j } }
      (u.hbm = j.seen → exec (.shadeLoadComplete t src) s = .next (after t s (complete (mine j) 0 0 0 v))) ∧
      (u.hbm ≠ j.seen → exec (.shadeLoadComplete t src) s = .next (after t s (complete (mine j) 0 0 0
        (drewLoad (8 * j.count) (staged (fun b => { b with shade := putRecords j.first (recordsOf j.count (readLoad j.area j.offset (8 * j.count) u)) b.shade }) v))))))


/-! ### Commands that start or end something -/

/-- R363: a MODE code of RESET, BOOT, RECOVERY or ACTIVATE, and any undefined code, returns WRONG_MODE with condition TRANSITION (1) and changes nothing. -/
def Obligations.ModeSetRefusesInternalModes : Prop :=
  ∀ (t src : Nat) (s : State), let u := s.at t
    let r := latchedReq u src
    holds 0x0101 4 src u = true → u.sys.mode.all = true → (r.u8 0 ∈ [0, 1, 2, 11] ∨ 12 ≤ r.u8 0) →
    exec (.modeSet t src) s = .next (after t s (turnedAway src { status := 0x12, detail := u.sys.mode.code + 256 * 1 } u))

/-- R44, R46, R49, R329 and Table 2.3: MODE_SET to the current mode is answered OK; along a transition of the table whose conditions hold it is accepted and becomes the change in progress; any other target is WRONG_MODE with condition TRANSITION. A target other than READY changes nothing more until the pipeline is armed or the change completes. -/
def Obligations.ModeSetStartsTheChange : Prop :=
  ∀ (t src : Nat) (s : State) (m : Mode), let u := s.at t
    let r := latchedReq u src
    let table : List (Mode × Mode) := [(.standby, .ready), (.ready, .standby), (.ready, .bench), (.ready, .inline), (.ready, .proof), (.ready, .replay), (.ready, .service), (.bench, .ready), (.inline, .ready),
      (.proof, .ready), (.replay, .ready), (.service, .ready), (.hold, .ready), (.hold, .standby)]
    let link := 8 ≤ u.host.width ∧ 4 ≤ u.host.rate
    let met := ((m = .bench ∨ m = .inline ∨ m = .proof ∨ m = .replay) → link) ∧
      (m = .inline → (u.tr.encs.getD u.tr.cfg.source {}).enable ≠ 0 ∧ ∃ p ∈ enabledPorts u, (portOf u p).state ≠ .retired) ∧
      (m = .proof → u.proof.proofAxis < 4 ∧ (axisOf u u.proof.proofAxis).lost = false) ∧ (m = .bench → u.proof.benchAxis < 4 ∧ (axisOf u u.proof.benchAxis).lost = false) ∧
      (m = .replay → drivesIn u ≠ []) ∧ (m = .ready → u.sys.mode = .hold → holdActive u = false)
    let req : ModeReq := { target := m, src := src, seq := r.seq }
    holds 0x0101 4 src u = true → u.sys.mode.all = true → Mode.ofCode (r.u8 0) = some m → u.sys.pend = none →
    (m = u.sys.mode → exec (.modeSet t src) s = .next (after t s (answered src [] u))) ∧
    ((u.sys.mode, m) ∈ table → met → hasRoomFor src u = true → exec (.modeSet t src) s = .next (after t s (beginMode req (accepted src 0 [] u)))) ∧
    (m ≠ .ready → ∀ e : State, beginMode req e = (if m = .standby then stopAllAxes { e with sys := { e.sys with pend := some req } } else { e with sys := { e.sys with pend := some req } })) ∧
    (∀ e : State, (∀ n, n < 4 → axisMoving (axisOf e n) = false) → stopAllAxes e = e) ∧
    (m ≠ u.sys.mode → (u.sys.mode, m) ∉ table → exec (.modeSet t src) s = .next (after t s (turnedAway src (.wrongMode u.sys.mode 1) u)))

/-- R57, R69, R152: DATUM_FORCE fixes a Datum at the next line boundary without a ticket, or fails where no session is left; PORT_TRAIN trains the enabled ports of its mask, is done where there are none once no earlier training of its ports is open, and names a retired port; PORT_READMIT clears a retired port's history and trains it. -/
def Obligations.DatumAndPortCommandsAct : Prop :=
  ∀ (t src : Nat) (s : State), let u := s.at t
    let r := latchedReq u src
    let n := u.tr.nextK + lookAhead u
    hasRoomFor src u = true →
    (holds 0x0111 0 src u = true → u.sys.mode.cap = true →
      (u.tr.session = false → exec (.datumForce t src) s = .next (after t s (complete (ofOpcode 0x0111) 0x40 1 0 (accepted src 0 [] u)))) ∧
      (u.tr.session = true → exec (.datumForce t src) s = .next (after t s (forceDatum (accepted src 0 [] u)))) ∧
      (u.tr.session = true → u.datum.list = [] → gradePlaced u = false →
        let d : Datum := { id := u.datum.nextId, flags := 4, byPos := false, pos := 0, line := n, deviation := 0, holds := u.banks.armed && u.banks.bound.isNone, passed := false, repeatNo := 0, gen := 0, first := 0, tFixed := u.now }
        let w : State := if d.holds then lateCollapse d (accepted src 0 [] u) else accepted src 0 [] u
        exec (.datumForce t src) s = .next (after t s { w with datum := { u.datum with list := [d], nextId := u.datum.nextId + 1, forces := u.datum.forces ++ [u.datum.nextId] }, banks := { u.banks with bound := if d.holds then some u.datum.nextId else u.banks.bound } }))) ∧
    (holds 0x0202 4 src u = true → u.sys.mode.quiet = true →
      let ps := (maskIdx 32 (r.u32 0)).filter (enabledPort u)
      (∀ p, (maskIdx 32 (r.u32 0)).find? (fun p => (portOf u p).state == .retired || bit u.ports.retired p) = some p →
        exec (.portTrain t src) s = .next (after t s (turnedAway src (.retired p (portOf u p).cause) u))) ∧
      ((∀ p ∈ maskIdx 32 (r.u32 0), (portOf u p).state ≠ .retired ∧ bit u.ports.retired p = false) →
        (ps = [] → u.ports.trains = [] → exec (.portTrain t src) s = .next (after t s (complete (fun q => q.src * 2 ^ 32 + q.seq == src * 2 ^ 32 + r.seq) 0 0 0 (accepted src 0 [] u)))) ∧
        (ps = [] → exec (.portTrain t src) s = .next (after t s (endTrains 32 0 { accepted src 0 [] u with ports := { u.ports with trains := u.ports.trains ++ [{ key := src * 2 ^ 32 + r.seq, op := 0x0202, mask := r.u32 0, left := 0 }] } }))) ∧
        (ps ≠ [] → exec (.portTrain t src) s = .next (after t s (ps.foldl (fun s p => startTraining p s) { accepted src 0 [] u with ports := { u.ports with trains := u.ports.trains ++ [{ key := src * 2 ^ 32 + r.seq, op := 0x0202, mask := r.u32 0, left := sumN (ps.map (fun p => 2 ^ p)) }] } }))))) ∧
    (holds 0x0203 4 src u = true → u.sys.mode.all = true → r.u8 0 < 32 →
      let x := portOf u (r.u8 0)
      ((x.readmit = 1 ∨ x.readmit = 2) → exec (.portReadmit t src) s = .next (after t s (turnedAway src (.busy 2) u))) ∧
      (x.readmit ≠ 1 → x.readmit ≠ 2 → x.state ≠ .retired → exec (.portReadmit t src) s = .next (after t s (answered src [] u))) ∧
      (x.readmit ≠ 1 → x.readmit ≠ 2 → x.state = .retired → exec (.portReadmit t src) s = .next (after t s (startTraining (r.u8 0) { accepted src (r.u8 0) [] u with ports := { u.ports with list := u.ports.list.set (r.u8 0) { x with readmit := 1, readmitAt := none, errs := [], fails := 0, event := false, posted := 0, suppressed := 0, lock := [0, 0, 0, 0], counters := List.replicate 16 0 } } }))))

/-- R223, R225, R246, R250, R256: CAL_RUN starts a shading or lamp run in BENCH while none runs; for RUNNING_WHITE it discards the open block of every side and plane slot in its mask, sets their RW_REF to 0, returns OK and leaves W alone; for a converter it sets the schedule, and with RUN_NOW calibrates. -/
def Obligations.CalRunStartsItsKind : Prop :=
  ∀ (t src : Nat) (s : State), let u := s.at t
    let r := latchedReq u src
    u.sys.mode.all = true →
    (holds 0x0601 48 src u = true → r.u8 0 = 0 → u.sys.mode = .bench → u.cal.run = none → u.cal.grade = none → hasRoomFor src u = true →
      exec (.calRun t src) s = .next (after t s (startRun { kind := 0, shade := shadeOf r u } { accepted src 0 [] u with cal := { u.cal with shadeParams := shadeOf r u } }))) ∧
    (holds 0x0601 92 src u = true → r.u8 0 = 1 → u.sys.mode = .bench → u.cal.run = none → u.cal.grade = none → hasRoomFor src u = true →
      exec (.calRun t src) s = .next (after t s (startRun { kind := 1, lamp := lampOf r u, todo := (lampOf r u).strings } (accepted src 1 [] u)))) ∧
    (holds 0x0601 8 src u = true → r.u8 0 = 2 → (u.sys.mode = .inline ∨ u.sys.mode = .proof) →
      exec (.calRun t src) s = .next (after t s { answered src [] u with px := { u.px with rw := (List.range 8).foldl (fun l i => if bit (r.u8 4) (i % 4) then l.set i { l.getD i {} with lines := 0, n := 0, sum := 0, ref := 0 } else l) u.px.rw } })) ∧
    (holds 0x0601 8 src u = true → 3 ≤ r.u8 0 → r.u8 0 ≤ 5 → (auxConv u (r.u8 0 - 3)).running = none →
      let set := modConv (r.u8 0 - 3) (fun k => { k with autoPeriod := Nat.min (r.u16 6) 3600, autoDt := Nat.min (r.u8 5) 50 })
      (r.u8 4 = 0 → exec (.calRun t src) s = .next (after t s (set (answered src [] u)))) ∧
      (1 ≤ r.u8 4 → hasRoomFor src u = true → exec (.calRun t src) s = .next (after t s (askSelfCal (r.u8 0 - 3) (set (accepted src (r.u8 0) [] u)))))) ∧
    (holds 0x0601 48 src u = true → r.u8 0 = 0 → u.sys.mode ≠ .bench → exec (.calRun t src) s = .next (after t s (turnedAway src (.wrongMode u.sys.mode 0) u))) ∧
    (holds 0x0601 8 src u = true → r.u8 0 = 2 → ¬(u.sys.mode = .inline ∨ u.sys.mode = .proof) → exec (.calRun t src) s = .next (after t s (turnedAway src (.wrongMode u.sys.mode 0) u)))

/-- R73, R261, R286, R288, R301, R324: CODEC_JOB queues a job and answers with its JOB_ID; STREAM_CLOSE begins to close its stream; SPOOL_REPLAY begins to deliver a range in REPLAY. -/
def Obligations.CodecAndStreamCommandsAct : Prop :=
  ∀ (t src : Nat) (s : State), let u := s.at t
    let r := latchedReq u src
    u.sys.mode.all = true → hasRoomFor src u = true →
    (let c := jobCfg r.params
     holds 0x0702 72 src u = true → u.sys.mode ≠ .standby → c.tableId < 24 → (u.dlv.jobs.filter (fun j => j.state == 0)).length < 16 → jobAreaBad c = false →
     (c.decompress = true ∨ c.srcBytes = c.columns * c.lines * sampleBytes c.depth) →
      exec (.codecJob t src) s = .next (after t s { accepted src (b2n c.decompress) (layout 4 [(0, 2, u.dlv.nextJob)]) u with dlv := { u.dlv with nextJob := wrapInc 16 u.dlv.nextJob, jobs := u.dlv.jobs.filter (fun j => j.id != u.dlv.nextJob) ++ [{ id := u.dlv.nextJob, src := src, seq := r.seq, params := r.params, decompress := c.decompress }] } })) ∧
    (holds 0x0802 4 src u = true → r.u8 0 < 8 → exec (.streamClose t src) s = .next (after t s (beginClose (r.u8 0) (accepted src (r.u8 0) [] u)))) ∧
    (holds 0x0802 4 src u = true → r.u8 0 < 8 → (streamOf u (r.u8 0)).flow = 0 → (streamOf u (r.u8 0)).work = [] → (streamOf u (r.u8 0)).live = [] → (streamOf u (r.u8 0)).row = [] → (streamOf u (r.u8 0)).accLines = [] →
      datumById u (streamOf u (r.u8 0)).rid = none → ∃ e : State, exec (.streamClose t src) s = .next (after t s e) ∧ (tget {} (r.u8 0) e.banks.live.streams).opened = false ∧ e.gate = u.gate ∧ e.sys = u.sys) ∧
    (holds 0x0805 20 src u = true → u.sys.mode = .replay → r.u8 0 < 8 → r.u8 1 < 8 → (streamOf u (r.u8 1)).flow = 0 → (streamOf u (r.u8 1)).ringed = true → u.spool.replay = none →
      exec (.spoolReplay t src) s = .next (after t s (beginReplay (r.u8 0) (r.u8 1) (r.enum 2 2 0) (clampN (r.u8 3) 1 56) (r.u64 4) (r.u64 0x0C) (accepted src 0 [] u))))

/-- R371, R427 to R429, R434: AXIS_MOVE puts a move in force on an axis that is enabled and has no active end switch ahead, in the place of earlier moves and stops, and is refused for an absolute move of a LOST axis; AXIS_HOME starts its search, away from an active HOME or towards it; AXIS_STOP IMMEDIATE answers OK, ends what is outstanding on its axes and leaves them stopped and LOST, and PROFILE brings its moving axes to rest and is done at once where none moves. -/
def Obligations.AxisCommandsAct : Prop :=
  ∀ (t src : Nat) (s : State), let u := s.at t
    let r := latchedReq u src
    let n := r.u8 0
    let a := axisOf u n
    u.sys.mode.all = true →
    (holds 0x0A02 24 src u = true → n < 4 → u.sys.mode ∉ [.standby, .hold] → ¬(n = u.proof.proofAxis ∧ u.sys.mode ∈ [.inline, .proof]) → (n ≠ u.proof.benchAxis ∨ u.cal.run = none) →
      let m : MotionSet := { vmax := clampN (r.u32 8) 1 (vmaxLimit a.cfg), accel := clampN (r.u32 0x0C) 1 (2 ^ 28), decel := clampN (r.u32 0x10) 1 (2 ^ 28), jerk := clampN (r.u32 0x14) 1 (2 ^ 31) }
      let goal := if 1 ≤ r.u8 1 then satS 32 (microsteps a.pos + r.s32 4) else r.s32 4
      (r.u8 1 = 0 → a.lost = true → exec (.axisMove t src) s = .next (after t s (turnedAway src (.wrongMode u.sys.mode 6) u))) ∧
      ((1 ≤ r.u8 1 ∨ a.lost = false) → a.homing = none → hasRoomFor src u = true →
        exec (.axisMove t src) s = .next (after t s (applyMove r n (r.flag 1 == 1) m (accepted src n [] u)))) ∧
      ((1 ≤ r.u8 1 ∨ a.lost = false) → a.homing = none → hasRoomFor src u = true → a.state ≠ 0 → limitAhead a (Frac.sub (Frac.ofInt goal) (axisNow u n).1.1).sgn = false →
        ∃ e : State, exec (.axisMove t src) s = .next (after t s e) ∧ axisOf e n = { a with set := m, target := goal, state := 2, homing := none, req := some { target := some goal, set := m } } ∧
          (∀ k, k ≠ n → axisOf e k = axisOf u k) ∧ e.sys = u.sys ∧ e.banks = u.banks ∧ (∀ q ∈ e.mot.stops, bit q.2 n = false)) ∧
      ((1 ≤ r.u8 1 ∨ a.lost = false) → a.homing.isSome = true → exec (.axisMove t src) s = .next (after t s (turnedAway src (.busy 0x0A) u)))) ∧
    (∀ (m : MotionSet) (e : State), n < 4 → (axisOf e n).state = 1 → limitAhead (axisOf e n) (Frac.sub (Frac.ofInt (r.s32 4)) (axisNow e n).1.1).sgn = false → e.mot.stops = [] → e.host.outstanding = [] →
      let b := axisOf (applyMove r n false m e) n
      b.state = 2 ∧ b.target = r.s32 4 ∧ b.req = some { target := some (r.s32 4), set := m } ∧ b.pos = (axisOf e n).pos) ∧
    (holds 0x0A03 20 src u = true → n < 4 → (u.sys.mode = .ready ∨ u.sys.mode = .service) → a.motion = none → a.req = none → hasRoomFor src u = true →
      let h : Homing := { phase := 0, dir := if r.enum 1 2 0 = 1 then 1 else -1, speed := clampN (r.u32 4) 1 (vmaxLimit a.cfg), accel := clampN (r.u32 8) 1 (2 ^ 28), offset := r.s32 0x0C, maxTravel := r.u32 0x10, legFrom := 0, reversed := false }
      let set : MotionSet := { a.set with vmax := h.speed, accel := h.accel, decel := h.accel }
      (a.state ≠ 0 → exec (.axisHome t src) s = .next (after t s (startHome n h (accepted src n [] u)))) ∧
      let goes := fun (g : Homing) (dir : Int) => u.mot.axes.set n { a with state := 3, homing := some { g with legFrom := a.pos }, req := some { target := some (microsteps a.pos + dir * 2 ^ 40), set := set } }
      (a.state ≠ 0 → a.active 0 = true → exec (.axisHome t src) s = .next (after t s { accepted src n [] u with mot := { u.mot with axes := goes h (-h.dir) } })) ∧
      (a.state ≠ 0 → a.active 0 = false → exec (.axisHome t src) s = .next (after t s { accepted src n [] u with mot := { u.mot with axes := goes { h with phase := 2 } h.dir } })) ∧
      (a.state = 0 → exec (.axisHome t src) s = .next (after t s (axisDone n 0x40 0 (accepted src n [] u))))) ∧
    (holds 0x0A04 4 src u = true → n < 16 →
      (r.u8 1 = 1 → exec (.axisStop t src) s = .next (after t s ((maskIdx 4 n).foldl (fun s i => immediateStop i s) (answered src [] u)))) ∧
      (r.u8 1 = 1 → (∀ i ∈ maskIdx 4 n, (axisOf u i).state ≠ 5) → ∃ e : State, exec (.axisStop t src) s = .next (after t s e) ∧
        (∀ i ∈ maskIdx 4 n, (axisOf u i).state ≠ 0 → let b := axisOf e i
          b.state = 4 ∧ b.lost = true ∧ b.motion = none ∧ b.req = none ∧ b.homing = none ∧ b.pos = (axisOf u i).pos ∧ b.cfg = (axisOf u i).cfg) ∧
        (∀ i, (bit n i = false ∨ 4 ≤ i ∨ (axisOf u i).state = 0) → axisOf e i = axisOf u i) ∧ e.sys = u.sys ∧ e.banks = u.banks) ∧
      (r.u8 1 ≠ 1 → hasRoomFor src u = true → (∀ i ∈ maskIdx 4 n, (axisOf u i).state ≠ 5 ∧ (axisOf u i).homing = none) → ∃ e : State, exec (.axisStop t src) s = .next (after t s e) ∧
        (∀ i ∈ maskIdx 4 n, axisMoving (axisOf u i) = true → axisOf e i = { axisOf u i with req := some { target := none, set := (axisOf u i).set } }) ∧
        (∀ i, (bit n i = false ∨ 4 ≤ i ∨ axisMoving (axisOf u i) = false) → axisOf e i = axisOf u i) ∧ e.sys = u.sys ∧ e.banks = u.banks ∧
        ((∃ i ∈ maskIdx 4 n, axisMoving (axisOf u i) = true) → ∃ l, e.mot.stops = l ++ [(src * 2 ^ 32 + r.seq, sumN (((maskIdx 4 n).filter (fun i => axisMoving (axisOf u i))).map (fun i => 2 ^ i)))])) ∧
      (r.u8 1 ≠ 1 → hasRoomFor src u = true → ∃ e : State, exec (.axisStop t src) s = .next (after t s e) ∧
        (n = 0 → e = complete (fun p => p.src * 2 ^ 32 + p.seq == src * 2 ^ 32 + r.seq) 0 0 0 (accepted src (256 + n) [] u))))

/-- R466, R408, R242, R249: AUX_CAL starts to average towards its point, or clears the trim at once; LAMP_REARM rearms its groups; CAL_APPLY starts to apply a pending result, discards it or finishes its grade. -/
def Obligations.TrimAndRearmCommandsAct : Prop :=
  ∀ (t src : Nat) (s : State), let u := s.at t
    let r := latchedReq u src
    u.sys.mode.all = true →
    (holds 0x0B05 12 src u = true → r.u8 0 < 16 → (auxCh u (r.u8 0)).cal = none → hasRoomFor src u = true →
      let c := r.u8 0
      let n := clampN (r.u16 8) 16 4096
      (r.u8 1 ≠ 2 → exec (.auxCal t src) s = .next (after t s { accepted src c [] u with aux := { u.aux with chs := u.aux.chs.set c { auxCh u c with cal := some { point := r.enum 1 3 0, value := r.s32 4, samples := n, ys := [], deadline := u.now + n * convInterval u c + filterLatency (auxCh u c).cfg + 10000000 } } } })) ∧
      (r.u8 1 = 2 → exec (.auxCal t src) s = .next (after t s (complete (ofOpRes 0x0B05 c) 0 0 0 (startTrim c {} (accepted src c [] u)))))) ∧
    (holds 0x0B05 12 src u = true → (auxCh u (r.u8 0)).cal.isSome = true → exec (.auxCal t src) s = .next (after t s (turnedAway src (.busy 0x0B) u))) ∧
    (holds 0x0907 4 src u = true → exec (.lampRearm t src) s = .next (after t s ((maskIdx 8 (r.u8 0)).foldl (fun s g => rearmGroup g s) (answered src [] u)))) ∧
    (holds 0x0907 4 src u = true → (∀ g ∈ maskIdx 8 (r.u8 0), bit u.lamp.off g = false) → exec (.lampRearm t src) s = .next (after t s (answered src [] u))) ∧
    (holds 0x0604 4 src u = true → r.u8 0 = 0 → r.u8 1 = 1 → exec (.calApply t src) s = .next (after t s { answered src [] u with cal := { u.cal with pendShade := none } })) ∧
    (holds 0x0604 4 src u = true → r.u8 0 = 0 → r.u8 1 = 2 → exec (.calApply t src) s = .next (after t s { answered src [] u with cal := { u.cal with grade := u.cal.grade.map (fun g => { g with finish := true }) } })) ∧
    (holds 0x0604 4 src u = true → r.u8 0 = 1 → r.u8 1 = 1 → exec (.calApply t src) s = .next (after t s { answered src [] u with cal := { u.cal with pendLamp := none } })) ∧
    (holds 0x0604 4 src u = true → r.u8 0 = 1 → r.u8 1 = 0 →
      (u.cal.pendLamp = none → exec (.calApply t src) s = .next (after t s (turnedAway src (.implausible 0) u))) ∧
      (∀ ts, u.cal.pendLamp = some ts → stagedFree u = false → exec (.calApply t src) s = .next (after t s (turnedAway src (.busy 1) u))) ∧
      (∀ ts, u.cal.pendLamp = some ts → stagedFree u = true → armPendings (stageTrims ts u) = [] →
        exec (.calApply t src) s = .next (after t s (applyTrims ts (answered src [] u)))) ∧
      (∀ ts, u.cal.pendLamp = some ts → stagedFree u = true → armPendings (stageTrims ts u) ≠ [] →
        exec (.calApply t src) s = .next (after t s (applyTrims ts (holdAnswer r 0 0 [] u))))) ∧
    (holds 0x0604 4 src u = true → r.u8 0 = 0 → r.u8 1 = 0 →
      (u.cal.grade.isSome = true → exec (.calApply t src) s = .next (after t s (turnedAway src (.busy 6) u))) ∧
      (u.cal.grade = none → u.cal.pendShade = none → exec (.calApply t src) s = .next (after t s (turnedAway src (.implausible 0) u))) ∧
      (∀ p, u.cal.grade = none → u.cal.pendShade = some p → basisHolds p.basis p.planes u.banks.staged = false →
        exec (.calApply t src) s = .next (after t s { turnedAway src { Err.implausible 64 with code := 64 } u with cal := { u.cal with pendShade := none } })) ∧
      (∀ p, u.cal.grade = none → u.cal.pendShade = some p → basisHolds p.basis p.planes u.banks.staged = true → ∃ e : State,
        exec (.calApply t src) s = .next (after t s e) ∧ e.cal.pendShade = none ∧ e.banks.grade = true ∧ ∃ g, e.cal.grade = some g ∧ g.result = p ∧ g.steps = (if r.u8 2 = 0 then p.steps else clampN (r.u8 2) 1 16)))

/-- R332, R377, R501, R502, R506, R507, R512: DEV_RESET answers and then resets; UPD_BEGIN starts or resumes a download; UPD_PIECE takes a needed piece; UPD_SCHEDULE, UPD_CONFIRM and UPD_ABORT act in the states that allow them and are WRONG_MODE in those that forbid them. That UPD_ABORT with nothing to abort answers OK is the model's choice (log 84). -/
def Obligations.UpdateCommandsAct : Prop :=
  ∀ (t src : Nat) (s : State), let u := s.at t
    let r := latchedReq u src
    u.sys.mode.all = true →
    (holds 0x0002 4 src u = true → (src ≠ 4 ∨ r.u8 0 ≠ 1) → exec (.devReset t src) s = .next (after t s (devReset (r.u8 0 == 1) (answered src [] u)))) ∧
    (holds 0x0C10 12 src u = true → (u.upd.state = 0 ∨ (u.upd.state = 7 ∧ (u.upd.dl.id ≠ r.u32 8 ∨ u.upd.dl.bytes = 0))) → ∃ data, data.length = 8 ∧ exec (.updBegin t src) s = .next (after t s { answered src data u with upd := { u.upd with state := 1, dl := { id := r.u32 8, bytes := Nat.min (r.u32 0) 50331648 }, fresh := 0, saved := none, lastPiece := u.now, late := [], sched := none, waiting := false }, stn := { u.stn with statusDue := true } })) ∧
    (holds 0x0C10 12 src u = true → u.upd.state = 7 → u.upd.dl.id = r.u32 8 → u.upd.dl.bytes ≠ 0 → ∃ (data : List Byte) (e : State), data.length = 8 ∧ exec (.updBegin t src) s = .next (after t s e) ∧
      e = startDownload (r.u32 8) (r.u32 0) (answered src data u) ∧
      (u.upd.dl.comps.isSome = true → allHeld u.upd.dl = false → e = { answered src data u with upd := { u.upd with state := 1, lastPiece := u.now }, stn := { u.stn with statusDue := true } })) ∧
    (holds 0x0C10 12 src u = true → u.upd.state = 1 → u.upd.dl.id = r.u32 8 → ∃ data, data.length = 8 ∧ exec (.updBegin t src) s = .next (after t s (answered src data u))) ∧
    (holds 0x0C10 12 src u = true → (u.upd.state ∉ [0, 1, 7] ∨ (u.upd.state = 1 ∧ u.upd.dl.id ≠ r.u32 8)) → exec (.updBegin t src) s = .next (after t s (turnedAway src (.busy 0x0C) u))) ∧
    (holds 0x0C11 12 src u = true → src ≠ 4 → r.u32 8 + r.u32 4 ≤ 67108864 → (u.upd.state = 1 ∨ u.upd.state = 2) → r.u32 0 < ceilN (pieceCount u.upd.dl.bytes) 1024 → r.u32 4 = megPiece u.upd.dl (r.u32 0) →
      (((megPieces u.upd.dl (r.u32 0)).all (received u.upd.dl) = false ∨ u.upd.state = 2) → hasRoomFor src u = true → exec (.updPiece t src ()) s = .next (after t s { accepted src 0 [] u with upd := { u.upd with lastPiece := u.now, pieces := u.upd.pieces ++ [{ src := src, seq := r.seq, image := u.upd.dl.id, index := r.u32 0, offset := r.u32 8, area := areaOf u src }] } })) ∧
      ((megPieces u.upd.dl (r.u32 0)).all (received u.upd.dl) = true → u.upd.state = 1 → exec (.updPiece t src ()) s = .next (after t s (answered src [] u)))) ∧
    (holds 0x0C13 20 src u = true →
      (u.upd.state ∈ [3, 4] → exec (.updSchedule t src) s = .next (after t s (schedule { time := r.u64 0, policy := if r.u8 8 < 2 then r.u8 8 else 0, window := clampN (r.u32 0x0C) 1 604800, confirm := clampN (r.u32 0x10) 60 86400 } (answered src [] u)))) ∧
      (u.upd.state ∉ [3, 4] → exec (.updSchedule t src) s = .next (after t s (turnedAway src (.wrongMode u.sys.mode 0x0E) u)))) ∧
    (holds 0x0C14 0 src u = true →
      (u.upd.state = 6 → exec (.updConfirm t src) s = .next (after t s (confirmTrial (answered src [] u)))) ∧
      (u.upd.state ≠ 6 → exec (.updConfirm t src) s = .next (after t s (turnedAway src (.wrongMode u.sys.mode 0x0F) u)))) ∧
    (holds 0x0C15 0 src u = true →
      (u.upd.state ∈ [1, 2, 3, 4] → ∃ e : State, exec (.updAbort t src) s = .next (after t s e) ∧ e.upd.state = 0 ∧ e.upd.dl = {} ∧ e.upd.saved = none ∧ e.upd.sched = none ∧ e.upd.boot = u.upd.boot) ∧
      (u.upd.state = 6 → exec (.updAbort t src) s = .next (after t s (turnedAway src (.wrongMode u.sys.mode 0x0F) u))) ∧
      (u.upd.state ∉ [1, 2, 3, 4, 6] → exec (.updAbort t src) s = .next (after t s (answered src [] u))))

/-- R487, R532, R534, R535, R373: DEBUG_OPEN with the owner token begins to open the port, a wrong token is AUTH_FAILED and counts, and the station master is turned away; KEY_PROVISION replaces a secret by a blob that unwraps or by a draw of the device; DIAG_LOOPBACK runs in SERVICE for 1 to 60000 ms, one at a time. -/
def Obligations.SecurityCommandsAct : Prop :=
  ∀ (t src : Nat) (s : State), let u := s.at t
    let r := latchedReq u src
    (holds 0x0D10 16 src u = true → (u.sys.mode = .standby ∨ u.sys.mode = .service) →
      (src = 4 → exec (.debugOpen t src) s = .next (after t s (turnedAway src (.wrongMode u.sys.mode 0) u))) ∧
      (src ≠ 4 → u.sec.erasePending = false → u.sec.lockUntil = none → field r.params 0 16 = u.sec.ownerToken.getD 0 → u.sec.opens < 32 → hasRoomFor src u = true →
        exec (.debugOpen t src) s = .next (after t s (evSecurity 1 0 { accepted src 0 [] u with sec := { u.sec with opens := u.sec.opens + 1, erasePending := true, opener := src, openerSeq := r.seq } }))) ∧
      (src ≠ 4 → u.sec.erasePending = false → field r.params 0 16 ≠ u.sec.ownerToken.getD 0 → exec (.debugOpen t src) s = .next (after t s (refuseAuth (turnedAway src { status := 0x50 } u))))) ∧
    (holds 0x0D11 60 src u = true → (u.sys.mode = .standby ∨ u.sys.mode = .service) → src ≠ 4 → u.sec.debugOpen = false → u.sec.erasePending = false →
      (u.sec.lockUntil = none → field r.params 4 16 = u.sec.ownerToken.getD 0 →
        (2 ≤ r.enum 0 4 0 → exec (.keyProvision t src ()) s = .next (after t s (provision (r.enum 0 4 0) [] (answered src [] u)))) ∧
        (∀ b, r.enum 0 4 0 < 2 → blobOf r = some b → exec (.keyProvision t src ()) s = .next (after t s (provision (r.enum 0 4 0) b (answered src [] u)))) ∧
        (r.enum 0 4 0 < 2 → blobOf r = none → ∃ d, exec (.keyProvision t src ()) s = .next (after t s (turnedAway src (.implausible d) u)))) ∧
      (field r.params 4 16 ≠ u.sec.ownerToken.getD 0 → exec (.keyProvision t src ()) s = .next (after t s (refuseAuth (turnedAway src { status := 0x50 } u))))) ∧
    (holds 0x0E01 12 src u = true → u.sys.mode = .service →
      (u.loop.isSome = true → exec (.diagLoopback t src) s = .next (after t s (turnedAway src (.busy 0x0E) u))) ∧
      (u.loop = none → hasRoomFor src u = true → exec (.diagLoopback t src) s = .next (after t s { accepted src 0 [] u with loop := some { target := r.enum 0 5 0, ports := r.u32 4, src := src, seq := r.seq, until' := u.now + clampN (r.u32 8) 1 60000 * 1000000 } })))

/-- R154, R190, R291, R293: the reads that clear: PORT_STAT with CLEAR zeroes its port's counters, SHADE_READ FORM 1 with CLEAR the correction counters, CODEC_JOB_STAT FORM 1 with CLEAR its stream's coding counters; SHADE_READ FORM 1 without CLEAR changes nothing, and the job form draws the values that the manual leaves open (log 27). -/
def Obligations.ClearingReadsClearTheirCounters : Prop :=
  ∀ (t src : Nat) (s : State), let u := s.at t
    let r := latchedReq u src
    u.sys.mode.all = true →
    (holds 0x0204 4 src u = true → r.u8 0 < 32 → r.isClear = true → ∃ data, data.length = 80 ∧
      exec (.portStat t src) s = .next (after t s { answered src data u with ports := { u.ports with list := u.ports.list.set (r.u8 0) { portOf u (r.u8 0) with counters := List.replicate 16 0 } } })) ∧
    (holds 0x0402 4 src u = true → r.u8 0 = 1 → r.u8 1 < 32 → ∃ data,
      exec (.shadeRead t src) s = .next (after t s (if r.isClear then { answered src data u with px := { u.px with counters := List.replicate 9 0 } } else answered src data u))) ∧
    (holds 0x0703 4 src u = true → r.u8 0 = 1 → r.u8 1 < 8 → r.isClear = true → ∃ data, data.length = 40 ∧
      exec (.codecJobStat t src) s = .next (after t s (modStream (r.u8 1) (fun x => { x with coding := [0, 0, 0, 0, 0, 0, 0] }) (answered src data u)))) ∧
    (holds 0x0703 4 src u = true → r.u8 0 ≠ 1 → ∃ data, data.length = 32 ∧ exec (.codecJobStat t src) s = .next (after t s { answered src data u with free := u.free + 4 }))

/-! ### Resets and boot (chapter 2) -/

/-- R36, R43, R44, R522, R548, R549: POR_N low, SYS_RST_N low, a brown-out, XTAL_25 stopped and a thermal trip put the device in RESET with its settings, banks, rings, ports and lamps at their reset values; the boot record, the fault log and the secrets with IDENTITY stay. SYS_RST_N, a stopped XTAL_25 and a thermal trip keep the energy counters, the others clear them; the thermal trip is logged at the next boot. -/
def Obligations.PinsPutTheDeviceInReset : Prop :=
  ∀ (t sensor : Nat) (s : State), let u := s.at t
    let inReset := fun (e : State) => e.sys.mode = .reset ∧ e.sys.prev = u.sys.mode ∧ e.banks = {} ∧ e.host = {} ∧ e.datum = {} ∧ e.gate = [] ∧ e.ports = {} ∧ e.dlv = {} ∧ e.spool = {} ∧ e.lamp = {} ∧ e.mot = { axes := u.mot.axes.map (fun (a : Axis) => { switches := a.switches.map (fun (w : Switch) => { high := w.high }) }) } ∧ e.aux = {} ∧
      e.stn = {} ∧ e.hbm = [] ∧ ((u.upd.older = none ∨ u.upd.wroteAt ≠ u.now + 1) → e.upd.boot = u.upd.boot) ∧ (∀ b, u.upd.older = some b → u.upd.wroteAt = u.now + 1 → e.upd.boot = b) ∧ e.flt.log = u.flt.log ∧ e.flt.next = u.flt.next ∧ e.mem.repair = u.mem.repair ∧ (u.sec.identity.isSome = true → e.sec.ownerToken = u.sec.ownerToken ∧ e.sec.stationKey = u.sec.stationKey)
    (∃ e, exec (.porNFall t) s = .next (after t s e) ∧ inReset e ∧ e.sys.porN = false ∧ e.meter.ch = List.replicate 25 0) ∧
    (∃ e, exec (.brownOut t) s = .next (after t s e) ∧ inReset e ∧ e.sys.brownOut = true ∧ e.meter.ch = List.replicate 25 0) ∧
    (∃ e, exec (.xtal25Stop t) s = .next (after t s e) ∧ inReset e ∧ e.sys.xtalStop = true ∧ e.meter.ch = u.meter.ch) ∧
    (u.sys.sysRstN = true → ∃ e, exec (.sysRstNFall t) s = .next (after t s e) ∧ inReset e ∧ e.sys.sysRstN = false ∧ e.meter.ch = u.meter.ch) ∧
    (u.sys.mode ≠ .reset → ∃ e, exec (.thermalTrip t sensor) s = .next (after t s e) ∧ inReset e ∧ e.sys.thermal = true ∧ e.meter.ch = u.meter.ch ∧ e.flt.atBoot = u.flt.atBoot ++ [(0x0703, sensor % 8)]) ∧
    (u.sys.mode = .reset → exec (.thermalTrip t sensor) s = .next (after t s { u with sys := { u.sys with thermal := true } }))

/-- R44, R51, R522, R548, R549: the device leaves RESET for BOOT when the last of its causes ends, and stays in RESET while another holds. -/
def Obligations.TheLastCauseReleasesReset : Prop :=
  ∀ (t ch tags : Nat) (s : State), let u := s.at t
    let y := u.sys
    let boots := fun (c : Instr) => ∃ e : State, exec c s = .next (after t s e) ∧ e.sys.mode = .boot ∧ e.sys.prev = .reset ∧ e.sys.porN = true ∧ e.sys.sysRstN = true ∧ e.banks = u.banks
    let stays := fun (c : Instr) => ∃ e : State, exec c s = .next (after t s e) ∧ e.sys.mode = .reset ∧ e.banks = u.banks ∧ e.flt.log = u.flt.log
    y.mode = .reset →
    (y.porN = false → y.sysRstN = true → y.xtalStop = false → y.brownOut = false → y.thermal = false → boots (.porNRise t ch tags)) ∧
    (y.porN = false → (y.sysRstN = false ∨ y.xtalStop = true ∨ y.brownOut = true ∨ y.thermal = true) → stays (.porNRise t ch tags)) ∧
    (y.porN = true → y.sysRstN = false → y.xtalStop = false → y.brownOut = false → y.thermal = false → boots (.sysRstNRise t)) ∧
    (y.sysRstN = false → (y.porN = false ∨ y.xtalStop = true ∨ y.brownOut = true ∨ y.thermal = true) → stays (.sysRstNRise t)) ∧
    (y.porN = true → y.sysRstN = true → y.xtalStop = false → y.brownOut = true → y.thermal = false → boots (.brownOutRecovery t)) ∧
    (y.porN = true → y.sysRstN = true → y.xtalStop = true → y.brownOut = false → y.thermal = false → boots (.xtal25Restart t)) ∧
    (y.porN = true → y.sysRstN = true → y.xtalStop = false → y.brownOut = false → y.thermal = true → boots (.thermalTripRelease t)) ∧
    (y.thermal = true → (y.porN = false ∨ y.sysRstN = false ∨ y.xtalStop = true ∨ y.brownOut = true) → stays (.thermalTripRelease t))

/-- R51, R52, R53, R329, R331, R332, R357: mailbox service puts the values of CFG into both banks, with the counts and IDs beside them, and takes the held doorbells; BOOT ends in STANDBY once mailbox service runs, or in RECOVERY where no slot is good or DEV_RESET asked for it; the link trains 20 ms and configuration space answers 100 ms after PERST_N rose, and neither before; a host-interface reset disables the event queue, drops the queued requests, puts every configured ring in RING_ERROR with TAIL at HEAD and stops host access. -/
def Obligations.BootStagesFollowTheirRows : Prop :=
  ∀ (t rate width kind : Nat) (cfg : Option CfgPart) (slotOk : Bool) (s : State), let u := s.at t
    (u.sys.mode = .boot → u.sys.service = false → u.sys.afterActivate = false →
      let v : State := match cfg with
        | none => u
        | some c => { loadTargets { u with banks := { u.banks with live := c.bank, staged := c.bank }, host := { u.host with subsys := c.subsys } } with
                             cal := match c.cal with
                               | none => u.cal
                               | some (n, tl, live) => { u.cal with kinds := nmod {} u.cal.kinds 0 (fun k => { k with count := n, tLast := tl }), liveCount := live } }
      exec (.mailboxServiceStart t cfg) s = .next (after t s { v with sys := { u.sys with service := true }, host := { v.host with mbs := u.host.mbs.map (fun m => if m.state == .queued then { m with state := .busy } else m) } })) ∧
    (u.sys.mode = .boot → u.upd.boot.act = 0 →
      (slotOk = true → u.sys.toRecovery = false → u.sys.service = false → exec (.bootComplete t slotOk) s = .next (after t s u)) ∧
      ((slotOk = false ∨ u.sys.toRecovery = true ∨ u.sys.service = true) → ∃ e : State, exec (.bootComplete t slotOk) s = .next (after t s e) ∧
        e.sys.mode = (if slotOk && !u.sys.toRecovery then .standby else .recovery) ∧ e.sys.prev = .boot ∧ e.sys.cause = u.sys.bootCause ∧ e.stn.up = true ∧ e.banks = u.banks)) ∧
    (u.sys.perstN = false → exec (.perstNRise t) s = .next (after t s { u with sys := { u.sys with perstN := true, tPerst := u.now } })) ∧
    (u.sys.perstN = true → u.sys.mode ≠ .reset →
      (u.now < u.sys.tPerst + 100000000 → exec (.configSpaceReady t) s = .next (after t s u)) ∧
      (u.sys.tPerst + 100000000 ≤ u.now → exec (.configSpaceReady t) s = .next (after t s { u with sys := { u.sys with cfgReady := true } })) ∧
      (u.now < u.sys.tPerst + 20000000 → exec (.pcieLinkUp t rate width) s = .next (after t s u)) ∧
      (u.sys.tPerst + 20000000 ≤ u.now → exec (.pcieLinkUp t rate width) s = .next (after t s { u with host := { u.host with rate := rate % 8, width := width % 32, bme := true, d3hot := false } }))) ∧
    (u.sys.mode ≠ .reset → u.host.rate ≠ 0 → exec (.linkRateChange t rate width) s = .next (after t s { u with host := { u.host with rate := rate % 8, width := width % 32 } })) ∧
    (u.sys.mode ≠ .reset → u.dlv.streams.length = 8 → ∃ e : State, exec (.hostInterfaceReset t kind) s = .next (after t s e) ∧ hostUp e = false ∧ e.host.evq.enable = false ∧
      (∀ m ∈ e.host.mbs, m.state ≠ .queued) ∧ (∀ n, n < 8 → (streamOf u n).ringed = true → (streamOf e n).ringErr = true ∧ (streamOf e n).tail = (streamOf e n).head) ∧
      ((kind = 2 ∨ kind = 3) → e.host.rate = 0 ∧ e.host.width = 0) ∧ (kind = 2 → e.sys.perstN = false ∧ e.sys.cfgReady = false) ∧ e.sys.mode = u.sys.mode ∧ e.banks = u.banks)

/-! ### The host interface (chapter 10) -/

/-- R7, R333, R334, R340, R348, R349, R352, R354, R468: what the accesses to BAR0 do outside RESET: a write reaches the register at its address and no other, an access that no register answers is counted, an RC register clears when it is read, a snapshot latches its high half, and a status read latches the channel's value. -/
def Obligations.RegisterAccessesActOnTheirRegister : Prop :=
  ∀ (t n w a : Nat) (bytes : List Byte) (s : State), let u := s.at t
    let q := u.host.evq
    u.sys.mode ≠ .reset →
    (oneMaster s = true →
      (bytes.length = 4 → exec (.registerWrite t 0x0010 ⟨15, bytes⟩) s = .next (after t s { u with host := { u.host with scratch := ofLe bytes } })) ∧
      (bytes.length = 4 → q.enable = false → exec (.registerWrite t 0x1008 ⟨15, bytes⟩) s = .next (after t s { u with host := { u.host with evq := { q with log2 := clampN (ofLe bytes % 32) 6 16 } } })) ∧
      (bytes.length = 4 → q.enable = true → exec (.registerWrite t 0x1008 ⟨15, bytes⟩) s = .next (after t s { u with host := { u.host with accessErr := satInc 32 u.host.accessErr } })) ∧
      (q.enable = false → exec (.evqEnable t) s = .next (after t s { u with host := { u.host with evq := { q with enable := true, head := 0, tail := 0, everOn := true, due := [] }, bme := true, d3hot := false } })) ∧
      (q.enable = true → exec (.evqEnable t) s = .next (after t s u)) ∧
      (exec (.evqArmed t) s = .next (after t s { u with host := { u.host with evq := { q with armed := true } } })) ∧
      (exec (.evqVector t w) s = .next (after t s { u with host := { u.host with evq := { q with vector := if w % 64 = 5 ∨ w % 64 = 6 ∨ w % 64 = 7 then 0 else w % 64 } } })) ∧
      (exec (.rcRegisterRead t ⟨0x000C, 4⟩) s = .next (after t s { u with host := { u.host with accessErr := 0 }, out := .readData 0x000C (leBytes 4 u.host.accessErr) :: u.out })) ∧
      (exec (.rcRegisterRead t ⟨0x5008, 4⟩) s = .next (after t s { u with host := { u.host with winDiscard := 0 }, out := .readData 0x5008 (leBytes 4 u.host.winDiscard) :: u.out })) ∧
      (n < 5 → exec (.snapshotLoRead t n) s = .next (after t s { u with host := { u.host with latches := u.host.latches.set n (pairValue u n / 2 ^ 32) }, out := .readData (0x3000 + 8 * n) (leBytes 4 (pairValue u n)) :: u.out })) ∧
      (n < 5 → exec (.snapshotPairRead t n) s = .next (after t s { u with host := { u.host with latches := u.host.latches.set n (pairValue u n / 2 ^ 32) }, out := .readData (0x3000 + 8 * n) (leBytes 8 (pairValue u n)) :: u.out }))) ∧
    (served u a n true = true → exec (.reservedAccess t a n true) s = .next (after t s u)) ∧
    (served u a n true = false → exec (.reservedAccess t a n true) s = .next (after t s { u with host := { u.host with accessErr := satInc 32 u.host.accessErr } })) ∧
    (served u a n false = true → exec (.reservedAccess t a n false) s = .next (after t s u)) ∧
    (served u a n false = false → exec (.reservedAccess t a n false) s = .next (after t s { u with host := { u.host with accessErr := satInc 32 u.host.accessErr }, out := .readData a (zeros n) :: u.out }))

/-- R468: a read of AUXn_STATUS returns the status and AGE of its channel and latches that result's value for AUXn_VALUE; nothing else changes. -/
def Obligations.AuxStatusReadLatchesTheValue : Prop :=
  ∀ (t n : Nat) (s : State), let u := s.at t
    u.sys.mode ≠ .reset → n < 16 → exec (.auxStatusRead t n) s = .next (after t s { u with aux := { u.aux with chs := u.aux.chs.set n { auxCh u n with latch := (auxCh u n).value } }, out := .readData (0x100 + 8 * n) (leBytes 2 (auxStatus (auxCh u n)) ++ leBytes 2 (auxAge u.now (auxCh u n))) :: u.out })

/-- R25, R303, R336, R337, R349, R350, R352, R353: BAR2 writes only the load area, unless in SERVICE, where a byte also reaches the data of the unit that holds it, and reads the load area as it was written; a tail beyond the ring's entries is a RING_ERROR and a good one clears it; EVQ_HEAD consumes entries and arms; a held event is written once there is space; unmasking signals a pending vector while host writes run; COALESCE signals when its time has come. -/
def Obligations.WindowRingAndQueueRowsAct : Prop :=
  ∀ (t o n w : Nat) (bytes : List Byte) (s : State), let u := s.at t
    let a := (u.host.winBase + o) % 2 ^ 34
    let q := u.host.evq
    let x := streamOf u n
    u.sys.mode ≠ .reset →
    (oneMaster s = true → u.sys.mode ≠ .service → a + bytes.length ≤ 67108864 → exec (.bar2Write t o bytes) s = .next (after t s (hbmWrite a bytes { u with clk := { u.clk with refresh := false, lastHbm := u.now } }))) ∧
    (oneMaster s = true → u.sys.mode = .service → exec (.bar2Write t o bytes) s = .next (after t s ((withIdx 0 bytes).foldl (fun s e => pokeByte ((a + e.1) % 2 ^ 34) e.2 s) { u with clk := { u.clk with refresh := false, lastHbm := u.now } }))) ∧
    (oneMaster s = true → u.sys.mode ≠ .service → 67108864 < a + bytes.length → exec (.bar2Write t o bytes) s = .next (after t s { u with host := { u.host with winDiscard := satInc 32 u.host.winDiscard } })) ∧
    (exec (.bar2Read t o n) s = .next (after t s { u with clk := { u.clk with refresh := false, lastHbm := u.now }, free := u.free + n, out := .readData o ((List.range n).map (fun i => viewByte u i ((a + i) % 2 ^ 34))) :: u.out })) ∧
    (∀ i x, x < 67108864 → viewByte u i x = hbmRead u x) ∧
    (n < 8 → x.ringed = true →
      let v : State := { u with host := { u.host with bme := true, d3hot := false } }
      (mdist 32 x.head (w % 2 ^ 32) ≤ x.ring.entries → exec (.ringTailWrite t n w) s = .next (after t s (modStream n (fun x => { x with tail := w % 2 ^ 32, ringErr := false }) v))) ∧
      (x.ring.entries < mdist 32 x.head (w % 2 ^ 32) → x.ringErr = false → exec (.ringTailWrite t n w) s = .next (after t s (ringError n 0xFFFFFFFF (modStream n (fun x => { x with tail := w % 2 ^ 32 }) v))))) ∧
    (mdist 32 w q.tail ≤ 2 ^ q.log2 → mdist 32 w q.tail = 0 → exec (.evqHeadWrite t w) s = .next (after t s { u with host := { u.host with evq := { q with head := w % 2 ^ 32, armed := true } } })) ∧
    (mdist 32 w q.tail ≤ 2 ^ q.log2 → mdist 32 w q.tail ≠ 0 → exec (.evqHeadWrite t w) s = .next (after t s (signal q.vector { u with host := { u.host with evq := { q with head := w % 2 ^ 32, armed := false } } }))) ∧
    (2 ^ q.log2 < mdist 32 w q.tail → exec (.evqHeadWrite t w) s = .next (after t s { u with host := { u.host with accessErr := satInc 32 u.host.accessErr } })) ∧
    (n < 64 → bit u.host.pba n = true → hostUp u = true → exec (.msixUnmask t n) s = .next (after t s { u with host := { u.host with msix := tset {} n { tget {} n u.host.msix with ctrl := 0 } u.host.msix, pba := setBit u.host.pba n false, evq := { q with armed := q.armed && n != q.vector } }, out := .msix n :: u.out })) ∧
    (n < 64 → (bit u.host.pba n = false ∨ hostUp u = false) → exec (.msixUnmask t n) s = .next (after t s { u with host := { u.host with msix := tset {} n { tget {} n u.host.msix with ctrl := 0 } u.host.msix } })) ∧
    (∀ e rest, q.hold = e :: rest → evqReady u = true → exec (.eventWrite t) s = .next (after t s (writeEntry e { u with host := { u.host with evq := { q with hold := rest } } }))) ∧
    (∀ d rest, q.due = d :: rest → d ≤ u.now → exec (.coalesceTimer t) s = .next (after t s (signal q.vector { u with host := { u.host with evq := { q with due := rest, armed := false } } })))

/-! ### Modes, position and exposures (chapters 2, 3 and 4) -/

/-- R45, R47, R48, R373, R446: an armed pipeline starts the session of the mode that was asked for; a change without capture reaches its target and completes its MODE_SET, one to STANDBY once its axes hold (R446), which ends the moves accepted since; a stop reaches READY once its lines are out, is late after 1 s, and a loopback completes with its bit errors when its time is over. -/
def Obligations.ModeChangesReachTheirTarget : Prop :=
  ∀ (t errors : Nat) (r : ModeReq) (l : Loop) (s : State), let u := s.at t
    let mine := fun (p : Pend) => p.opcode == 0x0101 && p.src == r.src && p.seq == r.seq
    let left := fun (e : State) => e.sys.pend = none ∧ e.sys.stopping = none ∧ e.sys.prev = u.sys.mode
    (u.sys.pend = some r → u.sys.mode = .ready → r.target.cap = true → ∃ e : State,
      exec (.pipelineArmed t) s = .next (after t s (complete mine 0 0 0 e)) ∧ e = startSession (enterMode r.target 1 0 (some r) u) ∧ e.sys.mode = r.target ∧ left e ∧ e.tr.session = true ∧ e.tr.nextK = u.tr.used ∧ e.datum.list = []) ∧
    (u.sys.pend = some r → r.target.cap = false → u.sys.mode.cap = false → u.tr.session = false → (r.target ≠ .ready ∨ portsTrain u = false) → (r.target = .standby → u.mot.axes.any axisMoving = false) → ∃ e : State,
      exec (.modeChangeComplete t) s = .next (after t s (complete mine 0 0 0 e)) ∧ e = enterMode r.target 1 0 (some r) u ∧ e.sys.mode = r.target ∧ left e ∧ e.banks = u.banks) ∧
    (u.sys.pend = some r → r.target = .standby → u.sys.mode.cap = false → u.tr.session = false → u.mot.axes.any axisMoving = true →
      ((∀ p ∈ u.host.outstanding, p.opcode ≠ 0x0A02 ∧ p.opcode ≠ 0x0A03) → exec (.modeChangeComplete t) s = .next (after t s u)) ∧
      ((∃ p ∈ u.host.outstanding, p.opcode = 0x0A02 ∨ p.opcode = 0x0A03) → exec (.modeChangeComplete t) s = .next (after t s (stopAllAxes u)))) ∧
    (u.sys.pend = some r → r.target = .ready → u.sys.mode.cap = true → linesOut u = true → ∃ e : State,
      exec (.orderlyStopComplete t) s = .next (after t s (complete mine 0 0 0 e)) ∧ e.sys.mode = .ready ∧ e.sys.cause = (if u.sys.stopLate then 5 else 1) ∧ left e) ∧
    (∀ t0, u.sys.stopping = some t0 → u.tr.session = true → captureDone u = false → t0 + 1000000000 ≤ u.now →
      exec (.stopTimeout t) s = .next (after t s { u with sys := { u.sys with stopLate := true }, tr := { u.tr with closed := true } })) ∧
    (u.loop = some l → l.until' ≤ u.now →
      exec (.loopbackComplete t errors) s = .next (after t s (complete (fun p => p.opcode == 0x0E01 && p.src == l.src && p.seq == l.seq) 0 0 (Nat.min errors 0xFFFF) { u with loop := none })))

/-- R65, R66, R70, R77 to R80, R84, R106, R520: a level that does not hold for its filter is no edge; an edge of an enabled encoder counts by A leading B, or by B at a pulse of A, and the source's edge is a measurement; a double change is illegal and moves the count by 2 with the speed; a source in STILL_TIME without a measurement is STILL with v and a 0; a cue is judged on its own input and edge while positions are tracked and moving forward, and offered on only in a session; a closed window moves on by the nominal distance. -/
def Obligations.EdgesAndTimeoutsMoveThePosition : Prop :=
  ∀ (t n held : Nat) (a b rising : Bool) (s : State), let u := s.at t
    let enc := u.tr.encs.getD n {}
    let c := u.datum.cfg
    let C := cuePos u.tr u.now
    let filter := u.tr.cueFilter.getD n 0
    ((4 ≤ n ∨ held < enc.filter) → exec (.encoderEdge t ⟨n, held⟩ a b) s = .next (after t s u)) ∧
    (n < 4 → enc.filter ≤ held → enc.enable = 0 → exec (.encoderEdge t ⟨n, held⟩ a b) s = .next (after t s { u with tr := { u.tr with encs := u.tr.encs.set n { enc with a := a, b := b } } })) ∧
    (n < 4 → enc.filter ≤ held → enc.enable ≠ 0 → enc.mode ≠ 1 → (a != enc.a) = !(b != enc.b) →
      let ahead := if a != enc.a then a != enc.b else enc.a == b
      let up := if enc.invert = 1 then !ahead else ahead
      let hi := if up then enc.count + 1 else enc.count
      let ty := if a != enc.a then (if a then 0 else 2) else (if b then 1 else 3)
      let k : State := { u with tr := { u.tr with encs := u.tr.encs.set n { enc with a := a, b := b, count := if up then enc.count + 1 else enc.count - 1 } } }
      ((n ≠ transitSource u ∨ transitOn u.sys.mode = false) → exec (.encoderEdge t ⟨n, held⟩ a b) s = .next (after t s k)) ∧
      (n = transitSource u → transitOn u.sys.mode = true → exec (.encoderEdge t ⟨n, held⟩ a b) s = .next (after t s (pruneTiming (measure { t := u.now, z := (256 * hi + enc.trims.getD ty 0) * 65536, span := 16777216, down := up, edge := hi } k))))) ∧
    (n < 4 → enc.filter ≤ held → enc.enable ≠ 0 → enc.mode = 1 →
      let up := if enc.invert = 1 then b else !b
      let hi := if up then enc.count + 1 else enc.count
      let k : State := { u with tr := { u.tr with encs := u.tr.encs.set n { enc with a := a, b := b, count := if a && !enc.a then (if up then enc.count + 1 else enc.count - 1) else enc.count } } }
      ((n ≠ transitSource u ∨ transitOn u.sys.mode = false ∨ a = false ∨ enc.a = true) → exec (.encoderEdge t ⟨n, held⟩ a b) s = .next (after t s k)) ∧
      (n = transitSource u → transitOn u.sys.mode = true → a = true → enc.a = false →
        exec (.encoderEdge t ⟨n, held⟩ a b) s = .next (after t s (pruneTiming (measure { t := u.now, z := (256 * hi + enc.trims.getD 0 0) * 65536, span := 16777216, down := up, edge := hi } k))))) ∧
    (n < 4 → enc.filter ≤ held → enc.enable ≠ 0 → enc.mode ≠ 1 → a ≠ enc.a → b ≠ enc.b → n ≠ transitSource u →
      exec (.encoderEdge t ⟨n, held⟩ a b) s = .next (after t s (trCount 8 1 { u with tr := { u.tr with encs := u.tr.encs.set n { enc with a := a, b := b, count := if 0 < u.tr.v then enc.count + 2 else if u.tr.v < 0 then enc.count - 2 else enc.count, errs := (u.now :: enc.errs).filter (fun x => decide (u.now < x + 1000000)) } } }))) ∧
    (∀ m, transitOn u.sys.mode = true → u.tr.last = some m → m.t + u.tr.cfg.stillTime * 1000000 ≤ u.now →
      exec (.stillTimeout t) s = .next (after t s { u with tr := { u.tr with v := 0, a := 0, regime := .still, fastFrom := none, run := 0 } })) ∧
    ((4 ≤ n ∨ held < filter ∨ transitOn u.sys.mode = false ∨ n ≠ c.cueInput ∨ rising = !(c.edge == 0)) → exec (.cueEdge t ⟨n, held⟩ rising) s = .next (after t s u)) ∧
    (n < 4 → filter ≤ held → transitOn u.sys.mode = true → n = c.cueInput → rising = (c.edge == 0) →
      ((u.tr.regime = .rev ∨ (u.tr.session = true ∧ ∃ m, u.datum.maxC = some m ∧ C ≤ m)) → exec (.cueEdge t ⟨n, held⟩ rising) s = .next (after t s (trCount 10 1 u))) ∧
      (u.tr.regime ≠ .rev → u.tr.session = false → exec (.cueEdge t ⟨n, held⟩ rising) s = .next (after t s u)) ∧
      (u.tr.regime ≠ .rev → u.tr.session = true → (∀ m, u.datum.maxC = some m → m < C) → u.sys.mode ≠ .proof → c.source = 0 →
        exec (.cueEdge t ⟨n, held⟩ rising) s = .next (after t s (offerCue C { u with datum := { u.datum with maxC := some C } }))) ∧
      (u.tr.regime ≠ .rev → u.tr.session = true → (∀ m, u.datum.maxC = some m → m < C) → u.sys.mode ≠ .proof → c.source ≠ 0 → exec (.cueEdge t ⟨n, held⟩ rising) s = .next (after t s u)) ∧
      (u.tr.regime ≠ .rev → u.tr.session = true → (∀ m, u.datum.maxC = some m → m < C) → u.sys.mode = .proof →
        exec (.cueEdge t ⟨n, held⟩ rising) s = .next (after t s (offerSheet C { u with datum := { u.datum with maxC := some C } })))) ∧
    (∀ e, u.datum.expected = some e → u.tr.session = true → c.source = 0 → u.sys.mode ≠ .proof → c.flywheel = 0 → e - c.cueOffset + windowNow u < C →
      exec (.windowClose t) s = .next (after t s { u with datum := { u.datum with expected := some (e + c.nominal) } })) ∧
    ((∀ x rest, enc.errs = x :: rest → x + 100000000 ≤ u.now) → exec (.encFaultClear t n) s = .next (after t s (clearFault 0x0201 n u)))

/-- R67: a candidate that would be a ninth fixed position not yet reached is rejected and counted, be it a cue, a sheet start or a mark placed by FLYWHEEL; so none of them leads from 8 such positions or fewer to more than 8. -/
def Obligations.EightDatumPositionsAreHeld : Prop :=
  ∀ (C e : Int) (s : State),
    (8 ≤ heldPositions s → offerCue C s = trCount 9 1 s ∧ offerSheet C s = trCount 9 1 s ∧
      (s.datum.cfg.flywheel ≠ 0 → closeWindow e s = trCount 9 1 { s with datum := { s.datum with expected := some (e + (s.datum.cfg.nominal : Int)) } })) ∧
    (heldPositions s ≤ 8 → heldPositions (offerCue C s) ≤ 8 ∧ heldPositions (offerSheet C s) ≤ 8 ∧ heldPositions (closeWindow e s) ≤ 8)

/-- R89 to R94: in SPEC, with no Datum due at the line, the next line is frozen when the time base has come within L_s of its start, unless that start lies beyond the horizon; it takes the next index and exposure number. With eight exposures in flight it is handled as a squash (R93). -/
def Obligations.FreezeTakesTheNextLine : Prop :=
  ∀ (t : Nat) (tc : Int) (s : State), let u := s.at t
    let k := u.tr.nextK
    let n := k + lookAhead u
    let p := predictLine u k (gridPos u.tr k)
    let ts0 := (tc - ((p.2 / 2 : Nat) : Int)).toNat
    mayFreeze u = true → u.tr.regime = .spec → crossing u.tr k = some tc → sessionDue u = false → modulusDue u n = false → (∀ d ∈ u.datum.list, d.passed = false → (n : Int) < datumLine u.tr d) →
    (∀ x, u.tr.lastStart = some x → Nat.max (x + 8333) (u.tr.lastEnd + 500) ≤ u.now + leadTime u) → ts0 ≤ u.now + leadTime u → u.tr.diagEnd ≤ u.now + leadTime u →
    (inHorizon u.tr u.now (tc - ((p.2 / 2 : Nat) : Int)) = true → exec (.freeze t) s = .next (after t s (releaseAll (judgeKnown u.tr (freezeLine k ts0 p.2 p.1 false u))))) ∧
    (inHorizon u.tr u.now (tc - ((p.2 / 2 : Nat) : Int)) = false → exec (.freeze t) s = .next (after t s u)) ∧
    (u.gate.length < 8 → ∃ g : Slot, (freezeLine k ts0 p.2 p.1 false u).gate = u.gate ++ [g] ∧ g.line = k ∧ g.expo = u.tr.expoNo ∧ g.freeze = u.now ∧ g.e = p.2 ∧ g.rid = p.1 ∧ g.verdict = none ∧
      u.now + leadTime u ≤ g.ts ∧ (freezeLine k ts0 p.2 p.1 false u).tr.nextK = k + 1 ∧ (freezeLine k ts0 p.2 p.1 false u).tr.expoNo = (u.tr.expoNo + 1) % 2 ^ 32) ∧
    (8 ≤ u.gate.length → ∃ e : State, freezeLine k ts0 p.2 p.1 false u = e ∧ e.gate = u.gate ∧ e.tr.nextK = k + 1 ∧ e.aln.squashed.head?.map Prod.fst = some k)

/-- R59, R96, R121 to R123, R172, R244, R525: in a mode with capture SYNC rises for the oldest exposure a port still owes its edge, with an EXPO frame that waits for a transaction in progress, and falls at its end; a verdict is given at the deadline from extrapolation; a collapse completes oldest first, and a set in which a scrub has found a double-bit error makes what it collapses absent; the old bank is released when nothing of its repeat is in flight, and the staged bank becomes equal to the live one but for Table 6.1, and takes the next step of a grade. -/
def Obligations.ExposureEventsAct : Prop :=
  ∀ (t p : Nat) (i : Nat) (g : Slot) (b : Bank) (s : State), let u := s.at t
    let slots := (List.range u.gate.length).zip u.gate
    let raised := fun (e : State) => (portOf e p).sync = true ∧ e.gate = u.gate.set i { g with due := g.due.erase p, high := g.high ++ [p] } ∧ (∀ q, q ≠ p → portOf e q = portOf u q)
    (slots.find? (fun e => e.2.due.contains p) = some (i, g) → inService u p = true → u.sys.mode.cap = true → g.ts ≤ u.now + tTileOf u p → (portOf u p).tx = none → ∃ e : State,
      exec (.syncRise t p) s = .next (after t s e) ∧ e.out = .ctl p (expoFrame (g.expo % 65536)) :: .sync p true :: u.out ∧ raised e) ∧
    (slots.find? (fun e => e.2.due.contains p) = some (i, g) → inService u p = true → u.sys.mode.cap = true → g.ts ≤ u.now + tTileOf u p → (portOf u p).tx ≠ none → ∃ e : State,
      exec (.syncRise t p) s = .next (after t s e) ∧ e.out = .sync p true :: u.out ∧ (portOf e p).frameDue = (portOf u p).frameDue ++ [g.expo % 65536] ∧ raised e) ∧
    (slots.find? (fun e => e.2.due.contains p) = some (i, g) → (inService u p = false ∨ u.sys.mode.cap = false ∨ u.now + tTileOf u p < g.ts) → exec (.syncRise t p) s = .next (after t s u)) ∧
    (slots.find? (fun e => e.2.high.contains p) = some (i, g) → u.sys.mode.cap = true → g.ts + g.e ≤ u.now + tTileOf u p →
      exec (.syncFall t p) s = .next (after t s { u with gate := u.gate.set i { g with high := g.high.erase p }, ports := { u.ports with list := u.ports.list.set p { portOf u p with sync := false } }, out := .sync p false :: u.out })) ∧
    (slots.find? (fun e => e.2.high.contains p) = some (i, g) → (u.sys.mode.cap = false ∨ u.now + tTileOf u p < g.ts + g.e) → exec (.syncFall t p) s = .next (after t s u)) ∧
    (∀ m, unjudged u = some (i, g) → g.deadline ≤ u.now → u.tr.last = some m →
      let v := if u.tr.v = 0 then (if m.down then 0 else -1) else u.tr.v
      exec (.verdictDeadline t) s = .next (after t s (pruneTiming (releaseAll (giveVerdict i (clampAfter m v (extrapolate u.tr ((g.tp : Int) - m.t))) u))))) ∧
    (unjudged u = some (i, g) → u.now < g.deadline → exec (.verdictDeadline t) s = .next (after t s (pruneTiming u))) ∧
    (slots.find? (fun e => !e.2.collapsed) = some (i, g) → exec (.collapseComplete t) s = .next (after t s (releaseAll (correctReady i (usePoly g { u with gate := u.gate.set i { g with collapsed := true } }))))) ∧
    (slots.find? (fun e => !e.2.collapsed) = some (i, g) → (∀ set ∈ u.mem.latentPoly, ∀ x ∈ g.tpls, x.absent = true ∨ namesSet u set x = false) →
      exec (.collapseComplete t) s = .next (after t s (releaseAll (correctReady i { u with gate := u.gate.set i { g with collapsed := true } })))) ∧
    (u.banks.old = some b → oldBankInUse u = false →
      exec (.bankRelease t) s = .next (after t s (placeStep { u with banks := { u.banks with old := none, staged := { u.banks.live with base := u.banks.staged.base } } })) ∧
      (u.cal.grade = none → exec (.bankRelease t) s = .next (after t s { u with banks := { u.banks with old := none, staged := { u.banks.live with base := u.banks.staged.base } } }))) ∧
    (u.banks.old = some b → oldBankInUse u = true → exec (.bankRelease t) s = .next (after t s u))

/-! ### Sensor ports (chapter 4) -/

/-- R125, R129 to R131, R133, R134, R146: blocks at the balls of a trained port are descrambled and make rows; an alignment row off its spacing or with unequal numbers, a mixed row and a lost lane open an error event, an idle row changes nothing; the first row of a packet brings its line to the Gate, or opens an error event with the first error of its header; the row that completes it brings its samples, or a CRC error; a line not complete 32 µs after its end is late; a ball loses lock at the 16th invalid header of 64 and gains it at the 64th valid one in a row. -/
def Obligations.PacketsJoinOrFail : Prop :=
  ∀ (t p lane idles i h : Nat) (raws heads nos : List Nat) (blocks : List (List Nat)) (row : List (Nat × Nat)) (rest : List BallRx) (ws : List Word64) (c : BallRx) (g : Slot) (tp : Tpl) (s : State), let u := s.at t
    let x := portOf u p
    let balls := (List.range 4).map (fun b => ballIn x.rx.aligned (x.rx.balls.getD b {}) (raws.getD b 0))
    let put := fun (r : PortRx) => modPort p (fun y => { y with rx := r }) u
    let got := modPort p (fun y => { y with rx := { y.rx with balls := balls }, lock := lockStamps u.now x.lock balls }) u
    let heard := x.rx.balls.set lane (heads.foldl headIn (x.rx.balls.getD lane {}))
    let sensed := modPort p (fun y => { y with rx := { y.rx with balls := heard }, lock := lockStamps u.now x.lock heard }) u
    let k := parsePacket (x.rx.words ++ ws)
    let held := put { x.rx with words := x.rx.words ++ ws }
    let done := modRx p (fun r => { r with words := [] }) held
    exec (.tilePacket t p idles blocks) s = .next (after t s (rowsIn p idles blocks u)) ∧ exec (.alignmentRow t p idles blocks) s = .next (after t s (rowsIn p idles blocks u)) ∧
    (lanesLive x = false → periodIn p raws u = u) ∧
    (lanesLive x = true → lostLock x.rx.balls balls = true → periodIn p raws u = drainRows p 64 (tryAlign p (errorEvent p 6 got))) ∧
    (lanesLive x = true → lostLock x.rx.balls balls = false → x.rx.aligned = true → popRow x.laneOrder x.polarity balls = some (row, rest) →
      periodIn p raws u = drainRows p 63 (rowIn p row (modRx p (fun r => { r with balls := rest }) got))) ∧
    (x.trainer = none → x.rx.aligned = true → rowIn p row u = runRow p (rowKind row) u) ∧
    (x.rx.aligned = true → runRow p .idle u = put { x.rx with since := x.rx.since + 1, words := [] } ∧ runRow p .mixed u = errorEvent p 6 (put { x.rx with since := x.rx.since + 1 }) ∧
      runRow p (.words ws) u = packetRow p ws (put { x.rx with since := x.rx.since + 1 }) ∧
      ((∀ a ∈ nos, a = nos.headD 0) → x.rx.since = 1023 → runRow p (.align nos) u = put { x.rx with since := 0, last := nos.headD 0 }) ∧
      (((∃ a ∈ nos, a ≠ nos.headD 0) ∨ x.rx.since ≠ 1023) → runRow p (.align nos) u = errorEvent p 7 (put { x.rx with since := 0, last := nos.headD 0 }))) ∧
    (x.state ≠ .ready → packetRow p ws u = u) ∧
    (x.state = .ready → nextTpl u p = none → packetRow p ws u = errorEvent p 4 held) ∧
    (x.state = .ready → nextTpl u p = some (i, g, tp) → (x.rx.words ++ ws).length = 4 → headError x.cfg g tp k = 0 → 4 < packetWords k → packetRow p ws u = beginPacket i tp held) ∧
    (x.state = .ready → nextTpl u p = some (i, g, tp) → (x.rx.words ++ ws).length = 4 → (headError x.cfg g tp k = 2 ∨ headError x.cfg g tp k = 4) → packetRow p ws u = errorEvent p (headError x.cfg g tp k) held) ∧
    (x.state = .ready → nextTpl u p = some (i, g, tp) → (x.rx.words ++ ws).length = 4 → headError x.cfg g tp k = 3 → packetRow p ws u = errorEvent p 3 (beginPacket i tp held)) ∧
    (x.state = .ready → nextTpl u p = some (i, g, tp) → 4 < (x.rx.words ++ ws).length → (x.rx.words ++ ws).length < packetWords k → packetRow p ws u = held) ∧
    (x.state = .ready → nextTpl u p = some (i, g, tp) → 4 < (x.rx.words ++ ws).length → packetWords k ≤ (x.rx.words ++ ws).length →
      packetRow p ws u = if k.crcOk then takePacket i tp k done else errorEvent p 1 done) ∧
    (lanesLive x = false → exec (.blockLockLoss t p ⟨lane, heads⟩) s = .next (after t s u)) ∧
    (lanesLive x = true → exec (.blockLockLoss t p ⟨lane, heads⟩) s = .next (after t s (if lostLock x.rx.balls heard then errorEvent p 6 sensed else sensed))) ∧
    (c.locked = true → h ≠ 1 → h ≠ 2 → (headIn c h).locked = decide (ones 63 c.bad < 15)) ∧
    (c.locked = false → (h = 1 ∨ h = 2) → (headIn c h).locked = decide (63 ≤ c.good)) ∧
    (oldestOwed u p = some (i, g) → g.ts + g.e + 32000 ≤ u.now → exec (.lateError t p) s = .next (after t s (errorEvent p 5 u))) ∧
    (oldestOwed u p = some (i, g) → u.now < g.ts + g.e + 32000 → exec (.lateError t p) s = .next (after t s u)) ∧
    (∀ e, x.state ≠ .ready → x.state ≠ .retraining → errorEvent p e u = u)

/-- R136 to R139, R143 to R145, R149: a training ends as its row tells or, where it has not so ended, goes on; one whose steps are done makes its port ready, one that fails or is not over in its time retires it; a good retrain makes the port ready, the third failed one in a row retires it with cause 0x11, the next one starts 100 µs after a failed one, and a lane 10 ms out of lock retires it with cause 0x12; a control transaction starts in a free window, one to be repeated first; it ends with a good reply, and is repeated twice when its reply is lost; the cells of a frame give its bytes back. -/
def Obligations.TrainingAndControlLaneAct : Prop :=
  ∀ (t p lane : Nat) (write ok : Bool) (order pol : Nat) (skew : List Int) (addr data w st : Nat) (levels : List Bool) (body : List Byte) (r : Trainer) (x : Port) (c y : CtlTx) (s : State), let u := s.at t
    let put := fun (y : Port) => ({ u with ports := { u.ports with list := u.ports.list.set p y } } : State)
    let frame := fun (c : CtlTx) => if c.write then writeFrame c.addr c.data else readFrame c.addr
    let bad := if 6 ≤ r.answers.length && !configFits x.cfg r.answers then 0x13 else 0x14
    let ended := r.step ≠ .done ∧ (r.step = .failed ∨ trainLimit u r ≤ u.now)
    let going := r.step ≠ .done ∧ r.step ≠ .failed ∧ u.now < trainLimit u r
    x = portOf u p →
    (x.trainer = none ∨ (x.trainer = some r ∧ going) → exec (.trainingComplete t p ok) s = .next (after t s u) ∧ exec (.retrainComplete t p ok order pol skew) s = .next (after t s u)) ∧
    (x.trainer = some r → (if ok = true then r.step ≠ .done else r.step = .done ∨ going) → exec (.trainingComplete t p ok) s = .next (after t s u) ∧ exec (.retrainComplete t p ok order pol skew) s = .next (after t s u)) ∧
    ((x.laneOrder, x.polarity, x.skew) ≠ (order, pol, skew) → exec (.retrainComplete t p true order pol skew) s = .next (after t s u)) ∧
    (x.state = .training → x.readmit = 0 → x.trainer = some r → r.step = .done →
      exec (.trainingComplete t p true) s = .next (after t s (trainingDone p true 0 (clearFaults 0x0102 (put { x with state := .ready, event := false, fails := 0, trainer := none, tileId := r.answers.getD 0 0, declared := r.answers.getD 4 0 % 8192, tTile := if x.cfg.tTile = 0xFFFF then r.answers.getD 4 0 % 8192 else x.cfg.tTile, lock := [0, 0, 0, 0] }))))) ∧
    (x.state = .training → x.readmit = 0 → x.trainer = some r → ended →
      exec (.trainingComplete t p false) s = .next (after t s (trainingDone p false bad (retirePort p bad (put { x with readmit := 0, readmitAt := none }))))) ∧
    (x.state = .retraining → x.trainer = some r → r.step = .done →
      exec (.retrainComplete t p true x.laneOrder x.polarity x.skew) s = .next (after t s (portCount p 11 (put { x with state := .ready, event := false, fails := 0, trainer := none, lock := [0, 0, 0, 0] })))) ∧
    (x.state = .retraining → x.trainer = some r → ended → x.fails < 2 → exec (.retrainComplete t p false order pol skew) s = .next (after t s (portCount p 12 (put { x with fails := x.fails + 1, failAt := u.now, trainer := none })))) ∧
    (x.state = .retraining → x.trainer = some r → ended → 2 ≤ x.fails → exec (.retrainComplete t p false order pol skew) s = .next (after t s (retirePort p 0x11 (portCount p 12 (put { x with fails := x.fails + 1, failAt := u.now, trainer := none }))))) ∧
    (x.state = .retraining → x.trainer = none → 0 < x.fails → x.failAt + 100000 ≤ u.now → exec (.retrainRetry t p) s = .next (after t s (beginTrainer true p u))) ∧
    (u.now < x.failAt + 100000 → exec (.retrainRetry t p) s = .next (after t s u)) ∧
    ((x.state = .ready ∨ x.state = .retraining) → x.lock.getD lane 0 ≠ 0 → x.lock.getD lane 0 - 1 + 10000000 < u.now → exec (.lockLoss t p lane) s = .next (after t s (retirePort p 0x12 u))) ∧
    (u.now ≤ x.lock.getD lane 0 - 1 + 10000000 → exec (.lockLoss t p lane) s = .next (after t s u)) ∧
    (ctlFree u p = false → exec (.ctlTransaction t p write addr data) s = .next (after t s u)) ∧
    (ctlFree u p = true → x.again = none → x.state = .ready → addr < 0x1000 →
      exec (.ctlTransaction t p write addr data) s = .next (after t s { put { x with tx := some { write := write, addr := addr, data := data, tries := 0, start := Nat.max u.now x.expoEnd } } with out := .ctl p (if write then writeFrame addr data else readFrame addr) :: u.out })) ∧
    (ctlFree u p = true → x.again = some y → exec (.ctlTransaction t p write addr data) s = .next (after t s { put { x with again := none, tx := some { y with start := Nat.max u.now x.expoEnd } } with out := .ctl p (frame y) :: u.out })) ∧
    (x.tx = some c → x.trainer = none → (frameBytes levels).bind (replyOf c) = some (w, st) →
      exec (.ctlReply t p levels) s = .next (after t s (afterTx p (put { x with tx := none, tileId := if st = 0 && !c.write && c.addr == 0 then w else x.tileId })))) ∧
    (x.tx = some c → x.trainer = none → (frameBytes levels).bind (replyOf c) = none → c.tries < 2 →
      exec (.ctlReply t p levels) s = .next (after t s (afterTx p (put { x with tx := none, again := some (x.again.getD { c with tries := c.tries + 1 }) })))) ∧
    (x.tx = some c → u.now < replyLimit c → exec (.ctlReplyLost t p) s = .next (after t s u)) ∧
    (x.tx = some c → x.trainer = none → c.tries < 2 → replyLimit c ≤ u.now →
      exec (.ctlReplyLost t p) s = .next (after t s (afterTx p (put { x with tx := none, again := some (x.again.getD { c with tries := c.tries + 1 }) })))) ∧
    (x.tx = some c → x.trainer = none → 2 ≤ c.tries → replyLimit c ≤ u.now → exec (.ctlReplyLost t p) s = .next (after t s (errorEvent p 8 (afterTx p (put { x with tx := none }))))) ∧
    frameBytes (ctlFrame body) = some (body ++ [BitVec.ofNat 8 (crc8 body)])

/-! ### Running white, lines, bolts and codec jobs (chapters 5, 6 and 8) -/

/-- R180, R184, R251: in INLINE and PROOF the first complete block of a side and plane slot, or the one after a re-reference, sets the reference; a later one moves W towards W × RW_REF ÷ mean by at most the step, raising the generation where W changes and reporting; with no complete block, or in another mode, nothing changes. R194 to R196: stored lines return once their exposure is over; an output line is built for the next grid line when every candidate is present, and not before; a double error of a stagger word makes the tile-plane-line that the store holds absent and is counted, and excludes its row; a remapped row is taken once from the ring store. -/
def Obligations.RunningWhiteAndOutputLines : Prop :=
  (∀ (t side q : Nat) (n : Nat) (sum : Int) (more : List (Nat × Int)) (s : State), let u := s.at t
    let c := u.banks.live.sv
    let i := 4 * side + q
    let r := u.px.rw.getD i {}
    let m := rnd sum (n : Int)
    let wt := rnd ((r.w : Int) * r.ref) (if m < 1 then 1 else m)
    let step := clampI (wt - (r.w : Int)) (-(c.rwStep : Int)) (c.rwStep : Int)
    let counts := fun (l : List Nat) => l.foldl (fun a k => nmod 0 a k (satInc 32)) u.px.counters
    let on := u.sys.mode = .inline ∨ u.sys.mode = .proof
    side < 2 → q < 4 →
    ((r.ready = [] ∨ ¬ on) → exec (.runningWhiteBlock t side q) s = .next (after t s u)) ∧
    (on → r.ready = (n, sum) :: more → r.ref = 0 ∨ r.reref = true → exec (.runningWhiteBlock t side q) s = .next (after t s
      { u with px := { u.px with counters := counts [4, 7], rw := u.px.rw.set i { r with ready := more, ref := m, reref := false } }, cal := { u.cal with rwRejecting := false } })) ∧
    (on → r.ready = (n, sum) :: more → r.ref ≠ 0 → r.reref = false → (wt < (c.rwMin : Int) ∨ (c.rwMax : Int) < wt) → exec (.runningWhiteBlock t side q) s = .next (after t s
      (rwRejected side q { u with px := { u.px with counters := counts [4, 6], rw := u.px.rw.set i { r with ready := more } } }))) ∧
    (on → r.ready = (n, sum) :: more → r.ref ≠ 0 → r.reref = false → (c.rwMin : Int) ≤ wt → wt ≤ (c.rwMax : Int) → ∃ e : State,
      exec (.runningWhiteBlock t side q) s = .next (after t s (calDone 2 0 0 side q 255 0 (calResult 2 0 0 e))) ∧
      e.px.rw = u.px.rw.set i { r with ready := more, w := ((r.w : Int) + step).toNat } ∧
      e.px.rwGen = (if ((r.w : Int) + step).toNat = r.w then u.px.rwGen else nmod 0 u.px.rwGen q (wrapInc 8)) ∧
      e.px.counters = (if step = wt - (r.w : Int) then counts [4] else counts [4, 5]) ∧ e.banks = u.banks)) ∧
  (∀ (t p q k row : Nat) (l : GridLine) (rest : List GridLine) (d : Datum) (s : State), let u := s.at t
    let lines := u.aln.lines.filter (fun x => decide (u.dlv.nextOut ≤ x.line))
    let v := returnStored { u with aln := { u.aln with lines := lines } }
    (∀ w, (w ∈ v.aln.win ↔ w ∈ u.aln.win ∨ (w ∈ u.aln.store ∧ exposureOver u w.due = true)) ∧ (w ∈ v.aln.store ↔ w ∈ u.aln.store ∧ exposureOver u w.due = false)) ∧
    (lines = [] → exec (.outputLine t) s = .next (after t s v)) ∧
    (lines = l :: rest → lineReady v l.line = false → exec (.outputLine t) s = .next (after t s v)) ∧
    (lines = l :: rest → lineReady v l.line = true → datumById v l.rid = some d →
      exec (.outputLine t) s = .next (after t s (emitLine l d { v with aln := { v.aln with lines := rest } })) ∧
      (emitLine l d { v with aln := { v.aln with lines := rest } }).dlv.nextOut = l.line + 1) ∧
    (∃ e : State, exec (.staggerDbe t p q k row) s = .next (after t s (hbmDouble (0x30000000 + row % 327680 * 4096) e)) ∧
      ((∀ w ∈ u.aln.store, w.port = p → w.slot = q → w.line = k → w.absent = true) → e = u) ∧
      ((∃ w ∈ u.aln.store, w.port = p ∧ w.slot = q ∧ w.line = k ∧ w.absent = false) → e = { u with aln := { u.aln with store := u.aln.store.map (fun w => if w.port == p && w.slot == q && w.line == k then { w with absent := true, y := [] } else w), stDbe := satInc 32 u.aln.stDbe } })) ∧
    (row ∈ u.mem.excluded → row * 4096 < 0x80000000 → row ∉ u.mem.moved → exec (.hbmRowRemap t row) s = .next (after t s { u with mem := { u.mem with moved := u.mem.moved ++ [row], remapped := u.mem.remapped + 1 } })) ∧
    ((row ∉ u.mem.excluded ∨ 0x80000000 ≤ row * 4096 ∨ row ∈ u.mem.moved) → exec (.hbmRowRemap t row) s = .next (after t s u)))

/-- R20, R284 to R289: the next bolt of a stream goes to the coder of its column, in fallback where nine bolts wait there, once its destination holds its reservation: a live one that no buffer can take waits, and stalls its stream where no descriptor is left (log 55); a bolt that one of the four encoders codes joins its plane-row and what is ready leaves in order; a job starts when none of its direction runs, on its own bytes and the live bank's tables of that instant, and ends with its bytes or the guard that ended it. -/
def Obligations.BoltsAndJobsAreCoded : Prop :=
  ∀ (t n seq i : Nat) (fb dec : Bool) (r : PlaneRow) (j y : Job) (src tab : SourceData) (s : State), let u := s.at t
    let x := streamOf u n
    let put := fun (p : PlaneRow) => ({ x with work := x.work.map (fun w => match w with | .row o => if sameWork o r then .row p else w | w => w) } : Stream)
    let cod := r.sent % Nat.max 1 (boltColumns r.nc) % 2
    let sent := setStream n (put { r with sent := r.sent + 1, flight := r.flight ++ [(r.sent, r.coding == 3 && decide (8 < codWaits u cod))] }) (touchHbm u)
    let blocked := r.dest = .live ∧ (x.ringErr = true ∨ liveFits x (boltReserve r r.sent) = false)
    let freed : State := { u with dlv := { u.dlv with coders := u.dlv.coders.map (fun q => q.erase (n, seq)) } }
    let mine := fun (p : Pend) => p.src == j.src && p.seq == j.seq && p.opcode == 0x0702
    let upd := fun (y : Job) (e : State) => ({ e with dlv := { e.dlv with jobs := e.dlv.jobs.map (fun k => if k.id = j.id && decide (k.state < 2) then y else k) } } : State)
    let c := jobCfg j.params
    let k : Job := { j with source := src, tabs := tab, codes := u.banks.live.codes }
    let o := runJob u k c
    (n < 8 → rowToSend x = none → exec (.boltDispatch t n) s = .next (after t s u)) ∧
    (n < 8 → rowToSend x = some r → blocked → (liveFull x = true → exec (.boltDispatch t n) s = .next (after t s (closeDone n (stallStream n u)))) ∧ (liveFull x = false → exec (.boltDispatch t n) s = .next (after t s u))) ∧
    (n < 8 → rowToSend x = some r → ¬blocked → r.coding ≠ 0 → exec (.boltDispatch t n) s = .next (after t s
      { sent with dlv := { sent.dlv with coders := nmod [] u.dlv.coders cod (fun q => q ++ [(n, (r.seq0 + r.sent) % 2 ^ 32)]) } })) ∧
    (n < 8 → rowToSend x = some r → ¬blocked → r.coding = 0 → exec (.boltDispatch t n) s = .next (after t s (closeDone n (release n (setStream n (finishBolt n { r with sent := r.sent + 1 } r.sent false (put { r with sent := r.sent + 1 })) (touchHbm u)))))) ∧
    (n < 8 → inEncoder u n seq = true → x.work = [.row r] → r.flight.find? (fun e => (r.seq0 + e.1) % 2 ^ 32 == seq) = some (i, fb) →
      exec (.boltCoded t n seq) s = .next (after t s (closeDone n (release n (modStream n (finishBolt n r i fb) freed))))) ∧
    (n < 8 → inEncoder u n seq = true → x.work = [] → exec (.boltCoded t n seq) s = .next (after t s freed)) ∧
    (inEncoder u n seq = false → exec (.boltCoded t n seq) s = .next (after t s u)) ∧
    (8 ≤ n → exec (.boltDispatch t n) s = .next (after t s u) ∧ exec (.boltCoded t n seq) s = .next (after t s u)) ∧
    (jobAt u dec 1 = some j → exec (.codecJobStart t dec src tab) s = .next (after t s u)) ∧
    (jobAt u dec 1 = none → jobAt u dec 0 = some j → exec (.codecJobStart t dec src tab) s = .next (after t s
      (upd { k with state := 1, seen := u.hbm, result := o.guard, output := o.output, bolts := o.bolts, bytesIn := o.used, maxErr := o.maxErr, failBolt := o.fail }
        (if c.srcKind = 1 ∨ c.dstKind = 1 ∨ c.tables = 2 then drewLoad (c.srcBytes + 256) u else u)))) ∧
    (jobAt u dec 1 = none → exec (.codecJobComplete t dec) s = .next (after t s u)) ∧
    (jobAt u dec 1 = some j → j.seen = u.hbm → j.result = 0 → c.dstKind = 0 → hostUp u = true → j.output ≠ [] →
      exec (.codecJobComplete t dec) s = .next (after t s (complete mine 0 0 0 { upd { j with state := 2, bytesOut := j.output.length, output := [] } u with out := .hostWrite c.dst j.output :: u.out }))) ∧
    (jobAt u dec 1 = some j → j.seen = u.hbm → j.result = 0 → c.dstKind = 1 → j.output ≠ [] →
      exec (.codecJobComplete t dec) s = .next (after t s (complete mine 0 0 0 (upd { j with state := 2, bytesOut := j.output.length, output := [] } (hbmWrite c.dst j.output u))))) ∧
    (jobAt u dec 1 = some j → j.seen = u.hbm → j.result ≠ 0 → exec (.codecJobComplete t dec) s = .next (after t s (failJob j.result j u))) ∧
    (jobAt u dec 1 = some j → j.seen ≠ u.hbm → jobAt (workJob j u) dec 1 = some y → exec (.codecJobComplete t dec) s = .next (after t s (finishJob y (workJob j u))))

/-! ### Host buffers, the refuge and the spool (chapter 9) -/

/-- R299 to R307, R310, R311: the next descriptor is taken, or completed REJECTED and counted; an item is written to the open buffer of its class once the link is free for it, or the stream stalls where no descriptor is free or the link has not taken it for 20 µs (that bound is the model's reading, log 86); a buffer is completed by age, after a lone record and early for a live item; a PCIe error of descriptor HEAD puts the ring in error; a plane-row that asks is admitted where its reservation fits, and one that has begun to leave waits for its room undivided; PROOF resumes when every stream is low; spilling writes nothing at or below SPILL_MARK; catch-up starts beyond RESERVE. -/
def Obligations.StreamsDeliverAndTakeRefuge : Prop :=
  ∀ (t n desc : Nat) (b : List Byte) (o : OpenBuf) (i : Item) (rest : List Item) (r : PlaneRow) (w : List Work) (s : State), let u := s.at t
    let x := streamOf u n
    let a := field b 0 8
    let len := field b 8 4
    let fits := a % 4096 = 0 ∧ len % 4096 = 0 ∧ 65536 ≤ len ∧ len ≤ 67108864
    n < 8 →
    (x.ringed = true → x.ringErr = false → hostUp u = true → x.desc = none → x.buf = none → x.head ≠ x.tail →
      (fits → exec (.descriptorFetch t n b) s = .next (after t s (setStream n { x with desc := some (a, len, (field b 12 2).testBit 0) } u))) ∧
      (¬fits → x.live = [] → exec (.descriptorFetch t n b) s = .next (after t s (completeDesc n 0 0 (x.phase + 64) x.seq (bit (field b 12 2) 0) (setStream n { x with rejects := satInc 32 x.rejects } u))))) ∧
    ((x.ringed = false ∨ x.ringErr = true ∨ hostUp u = false ∨ x.head = x.tail) → exec (.descriptorFetch t n b) s = .next (after t s u)) ∧
    (x.live = i :: rest → x.ringErr = true → exec (.itemDelivery t n) s = .next (after t s (closeDone n (stallStream n u)))) ∧
    (x.live = i :: rest → x.ringErr = false → x.buf = none → x.desc = none → x.head = x.tail → exec (.itemDelivery t n) s = .next (after t s (closeDone n (stallStream n u)))) ∧
    (x.live = i :: rest → x.ringErr = false → x.buf = some o → o.kind ≠ 0 → exec (.itemDelivery t n) s = .next (after t s u)) ∧
    (x.live = i :: rest → x.ringErr = false → x.buf = some o → o.kind = 0 → o.used + i.size ≤ o.bytes →
      (itemLinkIdle u = true → exec (.itemDelivery t n) s = .next (after t s (closeDone n (archiveEnd n (flushAfter n i (archiveItem n i (carry i.size (writeItem n i (setStream n { x with live := rest } u))))))))) ∧
      (itemLinkIdle u = false → i.ready + 20000 ≤ u.now → exec (.itemDelivery t n) s = .next (after t s (closeDone n (stallStream n u)))) ∧
      (itemLinkIdle u = false → u.now < i.ready + 20000 → exec (.itemDelivery t n) s = .next (after t s u))) ∧
    (x.buf = some o → x.ring.flush = 2 →
      (o.opened + x.ring.maxAge * 1000 ≤ u.now → exec (.flushAge t n) s = .next (after t s (completeBuf n u))) ∧
      (u.now < o.opened + x.ring.maxAge * 1000 → exec (.flushAge t n) s = .next (after t s u))) ∧
    (∀ t0, x.buf = some o → x.ring.flush = 0 → o.recAt = some t0 →
      (t0 + 20000 ≤ u.now → exec (.flushRecordTimeout t n) s = .next (after t s (completeBuf n u))) ∧
      (u.now < t0 + 20000 → exec (.flushRecordTimeout t n) s = .next (after t s u))) ∧
    (x.buf = some o → x.live = i :: rest → o.kind = 1 →
      (i.ready + 10000 ≤ u.now → exec (.backlogBufferEarly t n) s = .next (after t s (completeBuf n u))) ∧
      (u.now < i.ready + 10000 → exec (.backlogBufferEarly t n) s = .next (after t s u))) ∧
    (x.ringed = true → x.ringErr = false → desc % 2 ^ 32 = x.head → exec (.pcieError t n desc) s = .next (after t s (ringError n x.head u)) ∧ exec (.pcieCompletionTimeout t n desc) s = .next (after t s (ringError n x.head u))) ∧
    ((x.ringed = false ∨ x.ringErr = true ∨ desc % 2 ^ 32 ≠ x.head) → exec (.pcieError t n desc) s = .next (after t s u) ∧ exec (.pcieCompletionTimeout t n desc) s = .next (after t s u)) ∧
    (x.work = .row r :: w → r.dest = .ask → rowNeeds r ≤ freeSpace u x → exec (.refugeAdmit t n) s = .next (after t s (closeDone n (proofStopAt n (lineNo (rowGap 0 r false).first) (release n (setStream n { x with work := .row { r with dest := .store } :: w } u)))))) ∧
    (x.work = [.row r] → r.dest = .ask → freeSpace u x < rowNeeds r → r.headOut = true →
      (u.sys.mode = .proof → exec (.refugeAdmit t n) s = .next (after t s (if faultActive u 0x0402 n then u else raise 0x0402 n u))) ∧
      (u.sys.mode ≠ .proof → x.flow = 3 → exec (.refugeAdmit t n) s = .next (after t s u)) ∧
      (u.sys.mode ≠ .proof → x.flow ≠ 3 → exec (.refugeAdmit t n) s = .next (after t s (closeDone n (release n (stallEvent n 3 (lineNo (rowGap 0 r false).first) (setStream n { x with flow := 3 } u))))))) ∧
    (x.work = [.row r] → r.dest = .ask → freeSpace u x < rowNeeds r → r.headOut = false →
      (u.sys.mode = .proof → exec (.refugeAdmit t n) s = .next (after t s (closeDone n (raise 0x0402 n (release n (setStream n { x with work := [.row { r with dest := .drop 6 }] } u)))))) ∧
      (u.sys.mode ≠ .proof → exec (.refugeAdmit t n) s = .next (after t s (closeDone n (release n (stallEvent n 3 (lineNo (rowGap 0 r false).first) (setStream n { x with work := [.row { r with dest := .drop 1 }], flow := 3 } u))))))) ∧
    ((∀ y ∈ u.dlv.streams, y.proofStopped = false) → exec (.proofResumeAllow t) s = .next (after t s u)) ∧
    (∀ y ∈ u.dlv.streams, y.flow ≠ 0 → freeDescs y < y.ring.reserve → exec (.proofResumeAllow t) s = .next (after t s u)) ∧
    ((∃ y ∈ u.dlv.streams, y.proofStopped = true) → (∀ y ∈ u.dlv.streams, storeUsed y ≤ y.ring.proofLow * 67108864 ∧ y.ring.reserve ≤ freeDescs y ∧ y.ringErr = false) → ∃ e : State, exec (.proofResumeAllow t) s = .next (after t s e) ∧
      e.dlv.proofStop = false ∧ (∀ m, m < 8 → (streamOf e m).proofStopped = false)) ∧
    ((u.sys.mode = .proof ∨ drivesIn u = []) → exec (.spill t) s = .next (after t s u)) ∧
    (u.sys.mode ≠ .proof → drivesIn u ≠ [] → u.spool.drainAll = false → storeTotal u ≤ u.spool.cfg.mark * 16777216 → exec (.spill t) s = .next (after t s { u with spool := { u.spool with spilling := false } })) ∧
    (u.sys.mode ≠ .proof → drivesIn u ≠ [] → u.spool.cfg.mark * 16777216 < storeTotal u → exec (.spill t) s = .next (after t s (spillOne u))) ∧
    (x.ringed = true → x.ringErr = false → x.catchup = false → backlog x = true → x.ring.reserve < freeDescs x → exec (.catchup t n) s = .next (after t s (readNext n (stallEvent n 4 0 (setStream n { x with catchup := true } u))))) ∧
    ((x.ringed = false ∨ x.ringErr = true ∨ x.catchup = true ∨ backlog x = false ∨ freeDescs x ≤ x.ring.reserve) → exec (.catchup t n) s = .next (after t s u))

/-- R314 to R317, R322, R323, R325: a command that ends well has its segment written or its items at hand, one that fails is made again or lost, and what waits to be read goes on; a command 2 s old is aborted as a timeout, and the third within 60 s retires its drive, as a fatal status and a lost link do; ATTACH and FORMAT complete the SPOOL_CFG that waits for them, and a replay whose items are all delivered completes its own. -/
def Obligations.SpoolDrivesAnswerTheirCommands : Prop :=
  ∀ (t d l : Nat) (ok : Bool) (c : Nvme) (f : Attach) (ds : List DriveInfo) (p : Pend) (r : Replay) (s : State), let u := s.at t
    let cfgPend := u.host.outstanding.find? (fun q => q.opcode == 0x0804)
    let gone : State := { u with spool := { u.spool with cmds := u.spool.cmds.erase c } }
    let v := u.spool.drives.getD d {}
    let recent := (u.now :: v.recent).filter (fun x => decide (u.now < x + 60000000000))
    let counted : State := { u with spool := { u.spool with drives := u.spool.drives.set d { v with timeouts := satInc 32 v.timeouts, recent := recent } }, out := .nvme d 0 8 0 0 [] :: u.out }
    let goOn := fun (e : State) => replayRead (readAll e)
    (u.spool.cmds.find? (fun c => c.drive == d && c.lseq == l) = none → exec (.nvmeCommandComplete t d l ok) s = .next (after t s u) ∧ exec (.nvmeTimeout t d l) s = .next (after t s u)) ∧
    (u.spool.cmds.find? (fun c => c.drive == d && c.lseq == l) = some c →
      (c.kind < 2 → exec (.nvmeCommandComplete t d l true) s = .next (after t s (goOn (writeDone c gone)))) ∧
      (2 ≤ c.kind → (∀ g ∈ u.spool.segs, g.lseq = l → g.sealed = false) → exec (.nvmeCommandComplete t d l true) s = .next (after t s (goOn (readDone c gone)))) ∧
      (exec (.nvmeCommandComplete t d l false) s = .next (after t s (goOn (nvmeFailed c gone)))) ∧
      (u.now < c.start + 2000000000 → exec (.nvmeTimeout t d l) s = .next (after t s u)) ∧
      (c.start + 2000000000 ≤ u.now → recent.length < 3 → exec (.nvmeTimeout t d l) s = .next (after t s (goOn (nvmeFailed c { counted with spool := { counted.spool with cmds := counted.spool.cmds.erase c } })))) ∧
      (c.start + 2000000000 ≤ u.now → 3 ≤ recent.length → exec (.nvmeTimeout t d l) s = .next (after t s (retireDrive d counted)))) ∧
    (v.state = 1 → exec (.controllerFatalStatus t d) s = .next (after t s (retireDrive d u)) ∧ exec (.spoolLinkLoss t d) s = .next (after t s (retireDrive d u))) ∧
    (v.state ≠ 1 → exec (.controllerFatalStatus t d) s = .next (after t s u) ∧ exec (.spoolLinkLoss t d) s = .next (after t s u)) ∧
    (∀ g, 2 ≤ c.kind → c.tries = 0 → u.spool.segs.find? (fun g => g.lseq == c.lseq) = some g → let parts := xferParts (u.spool.drives.getD g.drive {}) 1024
      queueRoom gone g.drive parts = true → (nvmeFailed c gone).spool.cmds = gone.spool.cmds ++ [{ drive := g.drive, lseq := g.lseq, kind := c.kind, stream := c.stream, tries := 1, start := u.now, parts := parts }]) ∧
    (cfgPend = none → exec (.spoolAttachComplete t f) s = .next (after t s u) ∧ exec (.spoolFormatComplete t ds) s = .next (after t s u)) ∧
    (cfgPend = some p → u.spool.cfg.action ≠ 1 → u.spool.opened = true → ∃ e : State, exec (.spoolAttachComplete t f) s = .next (after t s (complete (ofOpcode 0x0804) 0 0 0 e)) ∧
      (drivesIn (attachDrives f.drives u) = [] → drivesIn u = [] → e = attachDrives f.drives u)) ∧
    (cfgPend = some p → u.spool.cfg.action ≠ 1 → u.spool.opened = false → f.readable = false → drivesIn (attachDrives f.drives u) = [] → ∃ d : Nat, exec (.spoolAttachComplete t f) s = .next (after t s
      (complete (ofOpcode 0x0804) 0x30 d 0 { attachDrives f.drives u with free := u.free + 1 }))) ∧
    (cfgPend = some p → u.spool.cfg.action = 1 → ∃ e : State, exec (.spoolFormatComplete t ds) s = .next (after t s (complete (ofOpcode 0x0804) 0 0 0 (newEpoch e))) ∧
      e.spool.opened = true ∧ e.spool.lseq = 1 ∧ e.spool.epoch = 0 ∧ e.spool.epochs = [] ∧ e.spool.segs = [] ∧ e.spool.index = [] ∧ e.spool.cmds = [] ∧ e.spool.keys.isSome = true) ∧
    (u.spool.replay = some r → r.ready = true → r.items = [] → ∃ e : State, exec (.spoolReplayComplete t) s = .next (after t s (complete (ofOpcode 0x0805) 0 0 (Nat.min r.missing 0xFFFF) e)) ∧
      e = completeBuf r.dst { u with spool := { u.spool with replay := none, cmds := u.spool.cmds.filter (fun k => k.kind != 3) } }) ∧
    (u.spool.replay = none → exec (.spoolReplayComplete t) s = .next (after t s u))

/-! ### The Lamp Bus (chapter 12) -/

/-- R384 to R387, R391 to R397, R401, R403, R404, R407, R410, R411: a round that begins once the one before is over moves every mapped string by one step; a slot sends one transaction at its place in the round; a good reply ends its transaction, and a missing one, known 160 ns past the request's end, counts, is told at the second in a row and retires the slice at the fourth bad one; the pulse that is due goes out and moves the reference; a marker goes once in its window, at the first exposure with room; a string is undiagnosed past its limit and a fault after 10 s; a retry clears the latch. -/
def Obligations.LampBusRunsItsRounds : Prop :=
  ∀ (t n i : Nat) (f : List Bool) (x : LampTx) (pay : List Byte) (s : State), let u := s.at t
    let a := lampSlice u n
    let g := lampStr u i
    let d := dueAgain n u
    let bad : State := { d with lamp := { d.lamp with slices := tset {} n { lampSlice d n with tx := none, missRun := a.missRun + 1, crcRun := 0, badRun := a.badRun + 1 } d.lamp.slices } }
    let v := takeLate n (dueAgain n { u with lamp := { u.lamp with nextSlot := n + 1 } })
    let late := a.slotAt + 320 * (txFrame n x).length + 160 ≤ u.now
    (u.sys.mode ≠ .reset → roundOver u = true → exec (.lampRound t) s = .next (after t s (fadesDone ((knownStrings u).foldl (fun e k => if (lampStr e k).slot = 255 then e else stepFade k (stepDerate k e)) { u with lamp := { u.lamp with casts := 0, roundAt := some u.now, nextSlot := 0 } })))) ∧
    ((u.sys.mode = .reset ∨ roundOver u = false) → exec (.lampRound t) s = .next (after t s (fadesDone u))) ∧
    (∀ r, u.lamp.roundAt = some r → (roundOver u = true ↔ r + 800000 + 4000 * (u.lamp.casts - 8) ≤ u.now) ∧ (slotDue n u = true ↔ u.lamp.nextSlot ≤ n ∧ n < 64 ∧ r + 12000 * n + 4000 * u.lamp.casts ≤ u.now)) ∧
    ((u.sys.mode = .reset ∨ slotDue n u = false) → exec (.lampSlot t n) s = .next (after t s u)) ∧
    (u.sys.mode ≠ .reset → slotDue n u = true → u.lamp.casting = [] → (lampSlice v n).retired = false → chooseTx v n = some x →
      exec (.lampSlot t n) s = .next (after t s (beginTx n x { v with out := .lamp n (wireBits (txFrame n x)) :: v.out, lamp := { v.lamp with casting := [] } }))) ∧
    (u.sys.mode ≠ .reset → slotDue n u = true → u.lamp.casting = [] → chooseTx v n = none → exec (.lampSlot t n) s = .next (after t s { v with lamp := { v.lamp with casting := [], slices := tset {} n { lampSlice v n with tx := none } v.lamp.slices } })) ∧
    ((∀ k, k < 8 → (lampStr u (8 * n + k)).late = none) → (∀ b e, a.tx ≠ some (.write b e)) → v = { u with lamp := { u.lamp with nextSlot := n + 1, slices := tset {} n a u.lamp.slices } }) ∧
    (a.tx = some (.write 0x1C i) → d = { u with lamp := { u.lamp with slices := tset {} n { a with tx := none, clrLatch := a.clrLatch ||| i } u.lamp.slices } }) ∧
    (∀ e : State, (lampSlice (beginTx n x e) n).tx = some x ∧ (lampSlice (beginTx n x e) n).slotAt = e.now ∧ (beginTx n x e).out = e.out ∧
      (x = .poll → beginTx n x e = { e with lamp := { e.lamp with slices := tset {} n { lampSlice e n with tx := some x, slotAt := e.now } e.lamp.slices } })) ∧
    (a.cfgDue = true → chooseTx u n = some (.write 0x10 (configWord u n))) ∧
    (a.cfgDue = false → (a.enable = 0 ∨ a.retired = true) → chooseTx u n = none) ∧
    (a.cfgDue = false → a.enable = 1 → a.retired = false → a.clrLatch = 0 → a.clrFault = 0 →
      (∀ q, a.pend = some q → chooseTx u n = some (.pending q.1 q.2)) ∧
      (a.pend = none → sliceDuties u n ≠ (slStrings n).map (fun k => (lampStr u k).leveled) → chooseTx u n = some (.level (sliceDuties u n))) ∧
      (a.pend = none → sliceDuties u n = (slStrings n).map (fun k => (lampStr u k).leveled) → a.running = false → a.diagDue = false → a.mapDue = true → chooseTx u n = some (.write 0x14 (groupWord u n))) ∧
      (a.pend = none → sliceDuties u n = (slStrings n).map (fun k => (lampStr u k).leveled) → a.running = false → a.diagDue = false → a.mapDue = false → a.step = 0 → chooseTx u n = some .poll)) ∧
    (a.tx = none → exec (.lampReply t n f) s = .next (after t s u) ∧ exec (.lampReplyMissing t n) s = .next (after t s u)) ∧
    (a.tx = some x → ¬late → exec (.lampReplyMissing t n) s = .next (after t s u)) ∧
    (a.tx = some x → f.length % 8 = 0 → replyPayload n x (wireBytes f) = some pay → exec (.lampReply t n f) s = .next (after t s (takeStatus n u.lamp.casts pay (doneTx n x pay u.lamp.casts
      { u with lamp := { u.lamp with slices := tset {} n { a with tx := none, missRun := 0, crcRun := 0, badRun := 0 } u.lamp.slices } })))) ∧
    (a.tx = some x → late → (∀ r, x ≠ .read r) → a.missRun ≠ 1 → a.badRun < 3 → exec (.lampReplyMissing t n) s = .next (after t s bad)) ∧
    (a.tx = some x → late → (∀ r, x ≠ .read r) → a.missRun = 1 → a.badRun < 3 → exec (.lampReplyMissing t n) s = .next (after t s (evLamp 6 (8 * n) bad))) ∧
    (a.tx = some x → late → a.missRun ≠ 1 → (3 ≤ a.badRun ∨ ∃ r, x = .read r) → a.enable = 1 → exec (.lampReplyMissing t n) s = .next (after t s (retireSlice n u.lamp.casts bad))) ∧
    (∀ p k rest, u.sys.mode.cap = true → u.lamp.pulses = (p, k) :: rest → p ≤ u.now → k ≠ 1 →
      exec (.linePulse t) s = .next (after t s { u with out := .pulse k (pulseWidth k) :: u.out, lamp := { u.lamp with pulses := rest, refs := [u.now, u.lamp.refs.headD 0] } })) ∧
    (∀ e rest, u.sys.mode.cap = false → u.lamp.pulses = e :: rest → exec (.linePulse t) s = .next (after t s { u with lamp := { u.lamp with pulses := [] } })) ∧
    (∀ p k rest, u.sys.mode.cap = true → u.lamp.pulses = (p, k) :: rest → u.now < p → exec (.linePulse t) s = .next (after t s u)) ∧
    (∀ p rest, u.sys.mode.cap = true → u.lamp.pulses = (p, 1) :: rest → p ≤ u.now →
      exec (.linePulse t) s = .next (after t s (swapDuties { u with out := .pulse 1 (pulseWidth 1) :: u.out, lamp := { u.lamp with pulses := rest, refs := [u.now, u.lamp.refs.headD 0] } }))) ∧
    (markerExpo u = none → exec (.diagMarker t) s = .next (after t s u)) ∧
    (∀ e b te y, markerExpo u = some (e, b, te) → let k := e % 1024 / 128
      let need := ∃ l ∈ u.lamp.slices, l.2.diagMask.testBit k = true ∧ lit u (8 * l.1 + k) = true
      let room := ∀ z, nextStart u e = some z → (te : Int) + 1500 ≤ z
      (u.lamp.marked = e / 128 + 1 → exec (.diagMarker t) s = .next (after t s u)) ∧
      (nextStart u e = some y → y < te + 1500 → exec (.diagMarker t) s = .next (after t s u)) ∧
      (u.lamp.marked ≠ e / 128 + 1 → room → need →
        exec (.diagMarker t) s = .next (after t s { u with out := .pulse (2 + k) (pulseWidth (2 + k)) :: u.out, lamp := { u.lamp with marked := e / 128 + 1 }, tr := { u.tr with diagEnd := te + 1500 } })) ∧
      (u.lamp.marked ≠ e / 128 + 1 → room → ¬need → exec (.diagMarker t) s = .next (after t s { u with lamp := { u.lamp with marked := e / 128 + 1 } }))) ∧
    (undiagnosed u i = true ↔ lit u i = true ∧ (if g.lastGood = 0 then g.litAt else g.lastGood) + diagLimit u < u.now) ∧
    (i < 512 → undiagnosed u i = true → (g.undiag = false ∨ g.undiagAt < g.litAt) →
      exec (.stringUndiagnosed t i) s = .next (after t s (evLamp 5 i { u with lamp := { u.lamp with strs := tset {} i { g with undiag := true, undiagAt := u.now } u.lamp.strs } }))) ∧
    ((undiagnosed u i = false ∨ (g.undiag = true ∧ g.litAt ≤ g.undiagAt)) → exec (.stringUndiagnosed t i) s = .next (after t s u)) ∧
    (i < 512 → g.undiag = true → g.litAt ≤ g.undiagAt → undiagnosed u i = true → inSafety u i = true → g.undiagAt + 10000000000 ≤ u.now → faultActive u 0x0303 i = false →
      exec (.lampUndiagnosed t i) s = .next (after t s (raiseWith 0x0303 i (faultData 1 []) (2 ^ g.group) u))) ∧
    ((g.undiag = false ∨ undiagnosed u i = false ∨ g.undiagAt < g.litAt ∨ inSafety u i = false ∨ u.now < g.undiagAt + 10000000000) → exec (.lampUndiagnosed t i) s = .next (after t s u)) ∧
    (∀ w, g.retryAt = some w → w ≤ u.now → ∃ e : State, exec (.stringRetry t i) s = .next (after t s e) ∧ e.lamp.strs = tset {} i { g with latched := false, retryAt := none, retried := u.now + 1 } u.lamp.strs ∧
      e.lamp.slices = tset {} (i / 8) { lampSlice u (i / 8) with clrLatch := setBit (lampSlice u (i / 8)).clrLatch (i % 8) true, clrFault := setBit (lampSlice u (i / 8)).clrFault (i % 8) true } u.lamp.slices ∧ e.out = u.out) ∧
    (∀ w, g.retryAt = some w → u.now < w → exec (.stringRetry t i) s = .next (after t s u)) ∧
    (g.retryAt = none → exec (.stringRetry t i) s = .next (after t s u))

/-! ### Axes and the proof transport (chapter 13) -/

/-- R418 to R425, R429, R431 to R433, R443, R444: a tick works on every enabled axis in order, each 25 µs; a PWM period sets both duties for its centre, puts out a pulse for each duty above 0 and watches for saturation, or takes the levels of a stop; a switch is active at the level that SWITCH_POL names, and one that changes in RESET changes its level only; an end switch that becomes active in the way of the axis, a driver fault and an old supply reading each stop the axis with its fault; the hold current follows 100 ms of rest; the re-approach starts from its wait over the four lines before the restart line. -/
def Obligations.AxesTickStopAndRestart : Prop :=
  ∀ (t n sw : Nat) (m : Motion) (cy : Cycle) (s : State), let u := s.at t
    let a := axisOf u n
    let put := fun (b : Axis) => ({ u with mot := { u.mot with axes := u.mot.axes.set n b } } : State)
    let w := a.switches.getD sw {}
    let hold := if a.cfg.debounce = 0 then 4000 else a.cfg.debounce * 400000
    let amp := if a.motion.isSome || !a.holding then a.cfg.run else a.cfg.hold
    let per := 1000000 / a.cfg.pwm
    let mid := u.now + 500000 / a.cfg.pwm
    let due := a.pwmAt = 0 ∨ a.pwmAt + per ≤ u.now + 1
    let coil := fun (p : Int) (v : Frac) => ((dutyOf (coilVoltages a.cfg p v amp).1 a.vm), (dutyOf (coilVoltages a.cfg p v amp).2 a.vm))
    let pulses := fun (da db : Nat) => (coilPulse n 2 db (u.now + per) a.cfg.pwm (coilPulse n 0 da mid a.cfg.pwm u)).out
    let ticked : State := { u with mot := { u.mot with tickAt := u.now + 1 } }
    let act := bit a.cfg.pol sw
    let edged := put { a with switches := a.switches.set sw { high := act, since := u.now, waitA := true, waitI := w.waitI } }
    ((u.mot.tickAt = 0 ∨ u.mot.tickAt + 25000 ≤ u.now + 1) → exec (.profileTick t) s = .next (after t s ([0, 1, 2, 3].foldl (fun e k => if (axisOf e k).cfg.enable = 1 then axisTick k e else e) ticked))) ∧
    ((u.mot.tickAt = 0 ∨ u.mot.tickAt + 25000 ≤ u.now + 1) → (∀ k, k < 4 → (axisOf u k).cfg.enable ≠ 1) → exec (.profileTick t) s = .next (after t s ticked)) ∧
    (u.mot.tickAt ≠ 0 → u.now + 1 < u.mot.tickAt + 25000 → exec (.profileTick t) s = .next (after t s u)) ∧
    (a.cfg.enable = 1 → a.state ≠ 0 → u.sys.mode ≠ .reset → u.sys.mode ≠ .boot → u.sys.mode ≠ .recovery →
      wantDrive u a = (if a.state = 4 ∧ a.raised = false then (if a.cfg.stopMode = 1 then .low else .brake) else .pwm)) ∧
    ((a.cfg.enable ≠ 1 ∨ 4 ≤ n ∨ ¬due) → exec (.pwmPeriod t n) s = .next (after t s u)) ∧
    (n < 4 → a.cfg.enable = 1 → due → wantDrive u a ≠ .pwm → exec (.pwmPeriod t n) s = .next (after t s (if wantDrive u a = a.drive then u else setDrive n (wantDrive u a) u))) ∧
    (n < 4 → a.cfg.enable = 1 → due → wantDrive u a = .pwm → a.motion = none → let c := coil a.pos {}
      exec (.pwmPeriod t n) s = .next (after t s { put { a with dutyA := c.1.1, dutyB := c.2.1, satSince := 0, satPosted := false, pwmAt := u.now + 1 } with free := u.free + 1, out := pulses c.1.1 c.2.1 })) ∧
    (n < 4 → a.cfg.enable = 1 → due → wantDrive u a = .pwm → a.motion = some m →
      let x := (motionAt m mid).1
      let c := coil (toGrid x.1 (Config.profileRound u.free)) x.2.1
      let sat := c.1.2 || c.2.2
      exec (.pwmPeriod t n) s = .next (after t s { put { a with dutyA := c.1.1, dutyB := c.2.1, satSince := if sat then (if a.satSince = 0 then u.now + 1 else a.satSince) else 0, satPosted := a.satPosted && sat, pwmAt := u.now + 1 } with free := u.free + 1, out := pulses c.1.1 c.2.1 })) ∧
    (∀ level, (level = w.high ∨ 4 ≤ n ∨ 3 ≤ sw) → exec (.switchEdge t n sw level) s = .next (after t s u)) ∧
    (∀ level, level ≠ w.high → n < 4 → sw < 3 → u.sys.mode = .reset → exec (.switchEdge t n sw level) s = .next (after t s (put { a with switches := a.switches.set sw { w with high := level } }))) ∧
    (n < 4 → sw < 3 → u.sys.mode ≠ .reset → a.active sw = true → exec (.switchEdge t n sw (!act)) s = .next (after t s (put { a with switches := a.switches.set sw { high := !act, since := u.now, waitA := w.waitA, waitI := true } }))) ∧
    (n < 4 → sw < 3 → u.sys.mode ≠ .reset → a.active sw = false → ((u.now < w.since + hold ∧ w.waitA = true) ∨ (sw = 0 ∧ a.homing = none)) → exec (.switchEdge t n sw act) s = .next (after t s edged)) ∧
    (n < 4 → (sw = 1 ∨ sw = 2) → u.sys.mode ≠ .reset → a.active sw = false → (w.since + hold ≤ u.now ∨ w.waitA = false) → a.homing = none → let e := evAxis 2 sw n edged
      exec (.switchEdge t n sw act) s = .next (after t s (if (if sw = 1 then 0 < a.vel.num else a.vel.num < 0) then faultStop n e else e))) ∧
    (a.drive = .low → exec (.driverFault t n) s = .next (after t s u)) ∧
    (a.drive ≠ .low → exec (.driverFault t n) s = .next (after t s (faultStop n (raise 0x0604 n (evAxis 5 0 n (put { a with driverFlt := true })))))) ∧
    (n < 4 → exec (.driverFltClear t n) s = .next (after t s (clearFault 0x0604 n (put { a with driverFlt := false })))) ∧
    (a.motion = some m → a.satSince ≠ 0 → a.satPosted = false → a.satSince - 1 + 2000000 ≤ u.now → exec (.supplyLow t n) s = .next (after t s (evAxis 6 0 n (put { a with satPosted := true, faults := satInc 32 a.faults })))) ∧
    ((a.motion = none ∨ a.satSince = 0 ∨ a.satPosted = true ∨ u.now < a.satSince - 1 + 2000000) → exec (.supplyLow t n) s = .next (after t s u)) ∧
    (a.cfg.enable = 1 → a.vmTime + 10000000 ≤ u.now → exec (.vmTimeout t n) s = .next (after t s (faultStop n u))) ∧
    ((a.cfg.enable ≠ 1 ∨ u.now < a.vmTime + 10000000) → exec (.vmTimeout t n) s = .next (after t s u)) ∧
    ((a.state = 0 ∨ a.state = 4) → faultStop n u = u) ∧
    (axisMoving a = false → a.restAt + 100000000 ≤ u.now → exec (.holdCurrent t n) s = .next (after t s (put { a with holding := true }))) ∧
    ((axisMoving a = true ∨ u.now < a.restAt + 100000000) → exec (.holdCurrent t n) s = .next (after t s u)) ∧
    (u.mot.cycle = none → exec (.reApproach t) s = .next (after t s u) ∧ exec (.restartCheck t) s = .next (after t s u)) ∧
    (u.mot.cycle = some cy →
      ((cy.phase ≠ .wait ∨ cy.final = true ∨ u.dlv.proofStop = true ∨ u.sys.mode ≠ .proof ∨ u.now < (axisOf u u.proof.proofAxis).restAt + 25000) → exec (.reApproach t) s = .next (after t s u)) ∧
      (cy.phase = .wait → cy.final = false → u.dlv.proofStop = false → u.sys.mode = .proof → (axisOf u u.proof.proofAxis).restAt + 25000 ≤ u.now → 4 ≤ cy.resume → exec (.reApproach t) s = .next (after t s
        (setCycle (fun c => { c with phase := .approach, pulses := [cy.resume - 4, cy.resume - 3, cy.resume - 2, cy.resume - 1], steady := none }) (moveNow u.proof.proofAxis (some (2 ^ 31 - 1)) u)))) ∧
      ((cy.phase ≠ .approach ∨ cy.final = true ∨ restartDue u cy = false) → exec (.restartCheck t) s = .next (after t s u)) ∧
      (cy.phase = .approach → cy.final = false → restartDue u cy = true → (u.tr.regime ≠ .spec ∨ cy.steady = none) →
        (1 ≤ cy.failures → exec (.restartCheck t) s = .next (after t s (faultStop u.proof.proofAxis (raise 0x0603 u.proof.proofAxis u)))) ∧
        (cy.failures = 0 → exec (.restartCheck t) s = .next (after t s (setCycle (fun c => { c with phase := .decel, failures := c.failures + 1 }) (moveNow u.proof.proofAxis none u)))))  ∧
      (∀ x, cy.phase = .approach → cy.final = false → restartDue u cy = true → u.tr.regime = .spec → cy.steady = some x → 16 * (u.tr.cfg.pitch : Int) ≤ u.tr.x - x → ∃ e : State,
        exec (.restartCheck t) s = .next (after t s (freezeSpec (evAxisLine 8 u.proof.proofAxis cy.last e))) ∧ e.mot.cycle = none ∧ e.tr.stopAt = none ∧ e.tr.nextK = cy.resume ∧ e.tr.lineFrom = cy.last + 1 ∧ e.tr.resumes = false ∧ e.mot.axes = u.mot.axes))


/-! ### Auxiliary sensing and calibration results (chapters 7 and 14) -/

/-- R252 to R256, R453, R454, R459, R462, R466, R470, Table 16.4: a conversion ends only when its visit has settled, and then publishes and moves on; a slot of AD2 converts the one use that is due in it, and a retired AD2 gives nothing; an overload switches its source off with the fault; a stale or open channel tells so after its time; a self-calibration falls due and ends by its ranges; a calibration of a channel ends by its samples or its bound. -/
def Obligations.AuxConversionsAndChecksAct : Prop :=
  ∀ (t c x id settle : Nat) (raw sec : Int) (ranges : List CalRange) (q : AuxCal) (s : State), let u := s.at t
    let a := auxCh u c
    let k := auxConv u x
    let put := fun (b : AuxCh) => ({ u with aux := { u.aux with chs := u.aux.chs.set c b } } : State)
    (visitNow u x = none → exec (.deltaSigmaConversion t x raw sec) s = .next (after t s u)) ∧
    (visitNow u x = some (id, c, settle) →
      (u.now < readyAt u x c settle → exec (.deltaSigmaConversion t x raw sec) s = .next (after t s u)) ∧
      (k.converted = false → u.aux.joint ≠ some x → readyAt u x c settle = k.tMux + Nat.max settle (Nat.max (if k.lastOvr then 20000 else 0) (if k.mux.currents = k.muxWas.currents then 0 else 500000)) + filterLatency a.cfg) ∧
      (anaOn u.sys.mode = true → x < 2 → k.running = none → k.ending = none → u.aux.joint = none → sharedCh u ≠ some c → readyAt u x c settle ≤ u.now →
        let p := publish c raw (u.now - filterLatency a.cfg) u
        let v := modConv x (fun v => { v with lastConv := u.now, converted := true, lastOvr := decide (raw < -8388608) || decide (8388608 ≤ raw) || ((auxCh p c).ovr && (auxCh p c).tEnd == some p.now) }) p
        exec (.deltaSigmaConversion t x raw sec) s = .next (after t s (if oneChannel (visits u x) then beginJoint x (modConv x (fun v => { v with muxWas := v.mux }) v) else switchTo x (visitAfter (visits u x) id) v)))) ∧
    (∀ use, ad2Ends use u = false → exec (.ad2Conversion t use raw) s = .next (after t s u)) ∧
    (∀ use other, ad2Ends use u = true → (ad2Ends other u = true → use = other ∨ ∃ i j, use = .calibration i ∧ other = .calibration j) ∧ ad2Ends other (slotUsed use u) = false) ∧
    (∀ n, let e := slotUsed (.dieTemp n) u; ad2Ends (.dieTemp n) u = true → exec (.ad2Conversion t (.dieTemp n) raw) s = .next (after t s (if (auxConv u 2).retired then e else dieReading n raw e))) ∧
    (∀ n, let e := slotUsed (.rail n) u; ad2Ends (.rail n) u = true → exec (.ad2Conversion t (.rail n) raw) s = .next (after t s (if (auxConv u 2).retired then e else railReading n raw e))) ∧
    (∀ n, let e := slotUsed (.supply n) u; ad2Ends (.supply n) u = true → exec (.ad2Conversion t (.supply n) raw) s = .next (after t s (if (auxConv u 2).retired then e else supplyReading n raw e))) ∧
    (∀ n, ad2Ends (.calibration n) u = true → exec (.ad2Conversion t (.calibration n) raw) s = .next (after t s (slotUsed (.calibration n) u))) ∧
    (ad2Ends (.channel c) u = true → exec (.ad2Conversion t (.channel c) raw) s = .next (after t s (ad2Channel c raw (slotUsed (.channel c) u)))) ∧
    (ad2Ends .vibration u = true → exec (.ad2Conversion t .vibration raw) s = .next (after t s (vibSample raw (slotUsed .vibration u)))) ∧
    ((2 ≤ c ∨ vexLevel u c = 0) → exec (.excitationOverload t c) s = .next (after t s u)) ∧
    (anaOn u.sys.mode = true → c < 2 → vexLevel u c ≠ 0 → ∃ e : State, exec (.excitationOverload t c) s = .next (after t s (raise 0x0503 c e)) ∧ e.aux.overload = u.aux.overload.set c true ∧ e.flt = u.flt) ∧
    (a.cfg.enable = 1 → a.stale = true → a.raised.testBit 3 = false → (auxConv u a.cfg.conv).running = none → anaOn u.sys.mode = true →
      (a.staleSince + 1000000000 ≤ u.now → exec (.staleEvent t c) s = .next (after t s (evAux 4 c (put { a with raised := a.raised ||| 8 })))) ∧
      (u.now < a.staleSince + 1000000000 → exec (.staleEvent t c) s = .next (after t s u))) ∧
    (a.open' = true → faultActive u 0x0504 c = false →
      (a.openSince + 10000000000 ≤ u.now → exec (.auxOpen t c) s = .next (after t s (raise 0x0504 c u))) ∧
      (u.now < a.openSince + 10000000000 → exec (.auxOpen t c) s = .next (after t s u))) ∧
    (anaOn u.sys.mode = true → x < 3 → autoDue u x = true → k.running = none → x ≠ 1 → exec (.selfCalibrationDue t x) s = .next (after t s (askSelfCal x u))) ∧
    ((autoDue u x = false ∨ k.running.isSome = true ∨ 3 ≤ x) → exec (.selfCalibrationDue t x) s = .next (after t s u)) ∧
    (k.running = none → exec (.selfCalibrationComplete t x ranges) s = .next (after t s u)) ∧
    (∀ used, k.running = some used → (∃ i ∈ used, ∀ r ∈ ranges, r.range ≠ i) → exec (.selfCalibrationComplete t x ranges) s = .next (after t s u)) ∧
    (∀ r, k.running = some [r.range] → ranges = [r] → r.zero.length = 16 → r.ref.length = 16 → let z := rangeChecks k.limits x r
      ∃ e : State, exec (.selfCalibrationComplete t x ranges) s = .next (after t s (kickSelfCal (completeAll (ofOpRes 0x0601 (3 + x)) (if z.1 = 0 then 0 else 0x20) z.1
        (evCalDone (3 + x) (if z.1 = 0 then 0 else 0x20) z.1 0 0 0 0 0 0 0 e)))) ∧
      (z.1 = 0 → (auxConv e x).coefs = tset {} r.range z.2 k.coefs ∧ (auxConv e x).refusals = 0 ∧ (auxConv e x).running = none)) ∧
    (a.cal = none → exec (.auxCalComplete t c) s = .next (after t s u)) ∧
    (a.cal = some q → q.ys.length < q.samples → u.now < q.deadline → exec (.auxCalComplete t c) s = .next (after t s u)) ∧
    (a.cal = some q → q.ys.length < q.samples → q.deadline ≤ u.now → exec (.auxCalComplete t c) s = .next (after t s (complete (ofOpRes 0x0B05 c) 0x40 1 0 (put { a with cal := none })))) ∧
    (a.cal = some q → q.samples ≤ q.ys.length → let z := auxCalResult u.cal.limits a q
      (z.1 = 0 → exec (.auxCalComplete t c) s = .next (after t s (complete (ofOpRes 0x0B05 c) 0 0 0 (startTrim c z.2 (put { a with cal := none }))))) ∧
      (z.1 ≠ 0 → exec (.auxCalComplete t c) s = .next (after t s (complete (ofOpRes 0x0B05 c) 0x20 z.1 0 (put { a with cal := none }))))) ∧
    ((anaOn u.sys.mode = false ∨ k.retired = true) → exec (.auxAdcRetired t x) s = .next (after t s u)) ∧
    (anaOn u.sys.mode = true → k.retired = false → (x < 2 ∧ u.aux.suspect = true ∧ k.suspectSince + 60000000000 ≤ u.now ∨ x = 2 ∧ k.lastConv + 10000000 ≤ u.now) →
      exec (.auxAdcRetired t x) s = .next (after t s (retireConv x u)))

/-- R232 to R234, R243, R248, R249: once a run has its lines, its result is computed: with no failed check it becomes the pending result, is applied at once where the run asks so and the bank is free, and completes OK; a failed check refuses it with that check. A run that is not so far gives none. -/
def Obligations.CalibrationResultsComplete : Prop :=
  ∀ (t : Nat) (r : CalRun) (s : State), let u := s.at t
    let tiles := (calTiles u r).map (fun e => (e, tileResult u r e.1 e.2))
    let checks := tiles.foldl (fun m e => m ||| e.2.2) 0
    let listed := listShading r tiles { u with cal := { u.cal with run := none } }
    let ts := lampTrims u r
    let bad := (ts.filter (fun e => !e.2.2)).map Prod.fst
    let lamps : State := { u with cal := { u.cal with run := none, lampSkipped := r.skipped, failString := minN 0xFFFF bad } }
    (u.cal.run = none → exec (.shadingResult t) s = .next (after t s u) ∧ exec (.lampResult t) s = .next (after t s u)) ∧
    (u.cal.run = some r → (r.phase ≠ .compute ∨ u.gate ≠ []) → exec (.shadingResult t) s = .next (after t s u) ∧ exec (.lampResult t) s = .next (after t s u)) ∧
    (u.cal.run = some r → r.kind = 0 → exec (.lampResult t) s = .next (after t s u)) ∧
    (u.cal.run = some r → r.kind = 1 → exec (.shadingResult t) s = .next (after t s u)) ∧
    (u.cal.run = some r → r.kind = 0 → r.phase = .compute → u.gate = [] →
      (checks ≠ 0 → ∃ e : State, exec (.shadingResult t) s = .next (after t s (complete (ofOpRes 0x0601 0) 0x20 checks 0 (calDone 0 0x20 checks 0 e.cal.failSlot e.cal.failPort e.cal.failOut e))) ∧
        e = calResult 0 0x20 checks listed ∧ e.cal.run = none ∧ e.cal.pendShade = u.cal.pendShade) ∧
      (checks = 0 → r.shade.autoApply = 0 → ∃ e : State, ∃ res : ShadeResult, exec (.shadingResult t) s = .next (after t s (complete (ofOpRes 0x0601 0) 0 0 0 (calDone 0 0 0 0 e.cal.failSlot e.cal.failPort e.cal.failOut e))) ∧
        e.cal.run = none ∧ e.cal.pendShade = some res ∧ res.planes = r.shade.planes ∧ res.steps = r.shade.steps ∧ e.banks = u.banks)) ∧
    (u.cal.run = some r → r.kind = 1 → r.phase = .compute → u.gate = [] →
      (bad ≠ [] → exec (.lampResult t) s = .next (after t s (complete (ofOpRes 0x0601 1) 0x20 256 (minN 0xFFFF bad) (calDone 1 0x20 256 0 0 255 0 (calResult 1 0x20 256 lamps))))) ∧
      (bad = [] → r.lamp.autoApply = 0 → exec (.lampResult t) s = .next (after t s (complete (ofOpRes 0x0601 1) 0 0 0 (calDone 1 0 0 0 0 255 0 (calResult 1 0 0
        { lamps with cal := { lamps.cal with pendLamp := some (ts.map (fun e => (e.1, e.2.1))) } }))))) ∧
      (bad = [] → r.lamp.autoApply = 1 → bankFree u = true → exec (.lampResult t) s = .next (after t s (complete (ofOpRes 0x0601 1) 0 0 0 (calDone 1 0 0 0 0 255 0 (calResult 1 0 0
        (applyTrims (ts.map (fun e => (e.1, e.2.1))) lamps)))))))


/-! ### Station bus and time (chapter 15) -/

/-- R475, R476, R481 to R486, R490 to R492, R502, R504, R507, Table 16.4: a frame of another EtherType only counts; a frame is dropped at the first test of R481 that it fails, with that test's counter, and an accepted one has its type's effect, where a flash that fails a needed piece fails the update; a peer's second frame must follow its first; the buckets refill each 10 ms; synchronisation steps or slews by the size of the offset, asks for a peer-delay exchange at each Sync (its interval is the model's choice, log 97) and reaches SYNC at the eighth good one; holdover, the decay of the host's time, the loss of the bus, STATUS and UPD_NEED come at their times. -/
def Obligations.StationFramesAndTimeAct : Prop :=
  ∀ (t delay : Nat) (off : Int) (f : NspFrame) (flashOk : Bool) (s : State), let u := s.at t
    let on := u.stn.up = true ∧ u.stn.cfg.enable = 1
    let heard : State := { u with stn := { u.stn with lastRx := u.now } }
    let cnt := fun (c : StnCounters) => ({ u with stn := { u.stn with lastRx := u.now, cnt := c } } : State)
    let rows := [Instr.nspStatus t f, .nspCommand t f, .nspUpdAnnounce t f, .nspUpdPiece t f flashOk, .nspUpdSchedule t f]
    let base := u.time.offset + slewed u.time u.now
    let asked := emit (.peerDelayReq (Config.stationMac).toNat u.time.domain) (validFrame u)
    (¬on → (∀ c ∈ rows, exec c s = .next (after t s u)) ∧ exec (.otherFrame t) s = .next (after t s u) ∧ exec (.syncMessage t off) s = .next (after t s u) ∧ exec (.peerDelayFrame t delay) s = .next (after t s u)) ∧
    (on → exec (.otherFrame t) s = .next (after t s (cnt { u.stn.cnt with other := satInc 32 u.stn.cnt.other }))) ∧
    (on → f.dstNode ≠ u.stn.cfg.nodeId → f.dstNode ≠ 255 → ∀ c ∈ rows, exec c s = .next (after t s heard)) ∧
    (on → f.dstNode = u.stn.cfg.nodeId → f.version ≠ 1 → ∀ c ∈ rows, exec c s = .next (after t s (cnt { u.stn.cnt with other := satInc 32 u.stn.cnt.other }))) ∧
    (on → f.dstNode = u.stn.cfg.nodeId → f.version = 1 → nspType f.kind = true → f.srcMac = u.stn.cfg.mac →
      (u.stn.cfg.rate ≤ tget 0 f.srcMac u.stn.spent → ∀ c ∈ rows, exec c s = .next (after t s (cnt { u.stn.cnt with rateDrop := satInc 32 u.stn.cnt.rateDrop }))) ∧
      (tget 0 f.srcMac u.stn.spent < u.stn.cfg.rate → let spent := tset 0 f.srcMac (tget 0 f.srcMac u.stn.spent + 1) u.stn.spent
        let drop := fun (c : StnCounters) => ({ u with stn := { u.stn with lastRx := u.now, spent := spent, cnt := c } } : State)
        let took : State := validFrame { u with stn := { u.stn with lastRx := u.now, spent := spent, cnt := { u.stn.cnt with rx := satInc 32 u.stn.cnt.rx }, peers := tset none f.srcMac (some (f.srcBoot, f.seq)) u.stn.peers } }
        (u.sec.stationKey = none → ∀ c ∈ rows, exec c s = .next (after t s (drop { u.stn.cnt with noKey := satInc 32 u.stn.cnt.noKey }))) ∧
        (u.sec.stationKey.isSome = true → tagOk f u = false → ∀ c ∈ rows, exec c s = .next (after t s (stranger f.srcMac (drop { u.stn.cnt with strTag := satInc 32 u.stn.cnt.strTag })))) ∧
        (u.sec.stationKey.isSome = true → tagOk f u = true → freshFrame f u = false → ∀ c ∈ rows, exec c s = .next (after t s (stranger f.srcMac (drop { u.stn.cnt with strRep := satInc 32 u.stn.cnt.strRep })))) ∧
        (u.sec.stationKey.isSome = true → tagOk f u = true → freshFrame f u = true →
          (f.kind = 1 → exec (.nspStatus t f) s = .next (after t s took)) ∧
          (f.kind = 2 → u.stn.cfg.master ≠ 255 → exec (.nspCommand t f) s = .next (after t s (stationCommand f took))) ∧
          (f.kind = 0x10 → exec (.nspUpdAnnounce t f) s = .next (after t s (announce f took))) ∧
          (f.kind = 0x11 → exec (.nspUpdPiece t f flashOk) s = .next (after t s (nspPiece f flashOk took))) ∧
          (let d := took.upd.dl; let i := field f.payload 4 4
            f.kind = 0x11 → updOn took.sys.mode = true → took.upd.state = 1 → field f.payload 0 4 = d.id → i < pieceCount d.bytes → field f.payload 8 2 = pieceBytes d i → f.payload.length = 12 + pieceBytes d i →
            bit d.held i = false → (i < 64 ∨ (d.comps.isSome = true ∧ needed d i = true)) → exec (.nspUpdPiece t f false) s = .next (after t s (updFail 6 { took with upd := { took.upd with lastPiece := u.now } }))) ∧
          (f.kind = 0x13 → exec (.nspUpdSchedule t f) s = .next (after t s (nspSchedule f took))) ∧
          ((f.kind = 3 ∨ f.kind = 4 ∨ f.kind = 0x12) → exec (.nspUnacceptedType t f) s = .next (after t s (stranger f.srcMac (drop { u.stn.cnt with strSrc := satInc 32 u.stn.cnt.strSrc }))))))) ∧
    (∀ b q, tget none f.srcMac u.stn.peers = some (b, q) → b = f.srcBoot → freshFrame f u = follows 32 q f.seq) ∧
    ((u.stn.refillAt = 0 ∨ u.stn.refillAt + 10000000 ≤ u.now + 1) → exec (.bucketRefill t) s = .next (after t s { u with stn := { u.stn with spent := [], refillAt := u.now + 1 } })) ∧
    (u.stn.refillAt ≠ 0 → u.now + 1 < u.stn.refillAt + 10000000 → exec (.bucketRefill t) s = .next (after t s u)) ∧
    (on → u.time.source = 0 → off.natAbs ≤ 1000 → let good := u.time.good + 1
      exec (.syncMessage t off) s = .next (after t s { asked with time := { u.time with offset := base, slew := -off, slewAt := u.now, everSet := true, measured := off, good := Nat.min good 8, lastSync := u.now, state := if 8 ≤ good then 2 else u.time.state } })) ∧
    (on → u.time.source = 0 → 100000000 ≤ off.natAbs → let e := asked
      exec (.syncMessage t off) s = .next (after t s { e with stn := { e.stn with cnt := { e.stn.cnt with steps := satInc 32 e.stn.cnt.steps } }, time := { u.time with offset := base - off, slew := 0, slewAt := u.now, everSet := true, measured := clampI off (-2147483648) 2147483647, good := 0, lastSync := u.now } })) ∧
    (on → u.time.source ≠ 0 → exec (.syncMessage t off) s = .next (after t s (validFrame u)) ∧ exec (.peerDelayFrame t delay) s = .next (after t s (validFrame u))) ∧
    (on → u.time.source = 0 → exec (.peerDelayFrame t delay) s = .next (after t s { validFrame u with time := { u.time with delay := Nat.min delay 4294967295 } })) ∧
    (u.time.state = 2 → u.time.lastSync + 1000000000 ≤ u.now → exec (.holdover t) s = .next (after t s { u with time := { u.time with state := 3, good := 0 } })) ∧
    ((u.time.state ≠ 2 ∨ u.now < u.time.lastSync + 1000000000) → exec (.holdover t) s = .next (after t s u)) ∧
    (u.time.state = 1 → u.time.lastHost + 600000000000 ≤ u.now → exec (.hostTimeDecay t) s = .next (after t s { u with time := { u.time with state := 0 } })) ∧
    ((u.time.state ≠ 1 ∨ u.now < u.time.lastHost + 600000000000) → exec (.hostTimeDecay t) s = .next (after t s u)) ∧
    (on → u.stn.lastRx + 5000000000 ≤ u.now → faultActive u 0x0901 0xFFFF = false → u.time.state ≠ 2 → exec (.stnLost t) s = .next (after t s (raise 0x0901 0xFFFF u))) ∧
    ((¬on ∨ u.now < u.stn.lastRx + 5000000000 ∨ faultActive u 0x0901 0xFFFF = true) → exec (.stnLost t) s = .next (after t s u)) ∧
    (nspReady u = true → (u.stn.statusDue = true ∨ u.stn.lastStatus + 1000000000 ≤ u.now) → exec (.statusFrameSend t) s = .next (after t s (nspSend (2 ^ 48 - 1) 1 255 (statusPayload u) { u with stn := { u.stn with statusDue := false, lastStatus := u.now } }))) ∧
    ((nspReady u = false ∨ (u.stn.statusDue = false ∧ u.now < u.stn.lastStatus + 1000000000)) → exec (.statusFrameSend t) s = .next (after t s u)) ∧
    (u.upd.state = 1 → updOn u.sys.mode = true → u.upd.lastPiece + 30000000000 ≤ u.now → ∃ e : State, exec (.updNeedSend t) s = .next (after t s e) ∧ e.upd = { u.upd with lastPiece := u.now } ∧ e.out = (sendNeed u).out) ∧
    ((u.upd.state ≠ 1 ∨ u.now < u.upd.lastPiece + 30000000000) → exec (.updNeedSend t) s = .next (after t s u))


/-! ### Field update (chapter 15) -/

/-- R502, R503, R505, R508 to R511, R513, R516: a programmed piece joins the download and completes its command, after the events that it causes (R351), one of an image in VERIFYING waits for its outcome, and one of a verified image is held already; a verified image becomes VERIFIED or fails; the scheduled time activates, gives up or waits as the policy says; each switch-over step commits the next boot record, a failed one begins the rollback, and rolling back the station controller resets; an unconfirmed trial ends at its window. -/
def Obligations.UpdateEventsAct : Prop :=
  ∀ (t errors : Nat) (ok : Bool) (cfg : Option Bank) (p : PieceTx) (rest : List PieceTx) (c : Sched) (s : State), let u := s.at t
    let done := fun (q : Pend) => q.opcode == 0x0C11 && q.src == p.src && q.seq == p.seq
    let l := u.upd.dl.comps.getD []
    let b := u.upd.boot
    let taken := programMeg p { u with upd := { u.upd with pieces := rest } }
    let good := fun (k : Nat) => digestOk u.upd.dl errors k = true
    (u.upd.pieces = [] → exec (.updPieceComplete t ok) s = .next (after t s u)) ∧
    (u.upd.pieces = p :: rest → u.upd.state = 1 → u.upd.dl.id = p.image →
      (taken.upd.state = 1 → exec (.updPieceComplete t true) s = .next (after t s (complete done 0 0 0 (tryVerify (saveDownload taken))))) ∧
      (taken.upd.state ≠ 1 → exec (.updPieceComplete t true) s = .next (after t s (complete done jobFailed ((Config.freeValue taken.free).toNat % 65536) 0 { taken with free := taken.free + 1 })))) ∧
    (u.upd.pieces = p :: rest → u.upd.dl.id = p.image → u.upd.state = 2 → exec (.updPieceComplete t ok) s = .next (after t s u)) ∧
    (u.upd.pieces = p :: rest → u.upd.dl.id = p.image → 3 ≤ u.upd.state → u.upd.state ≤ 6 → exec (.updPieceComplete t ok) s = .next (after t s (complete done 0 0 0 { u with upd := { u.upd with pieces := rest } }))) ∧
    (u.upd.pieces = p :: rest → (u.upd.dl.id ≠ p.image ∨ u.upd.state = 0 ∨ 7 ≤ u.upd.state) →
      exec (.updPieceComplete t ok) s = .next (after t s (complete done jobFailed ((Config.freeValue u.free).toNat % 65536) 0 { u with upd := { u.upd with pieces := rest }, free := u.free + 1 }))) ∧
    (u.upd.pieces = p :: rest → u.upd.state = 1 → u.upd.dl.id = p.image → ∃ e : State, ∃ d : Nat, exec (.updPieceComplete t false) s = .next (after t s (complete done jobFailed d 0 e)) ∧ e.upd.state = 7 ∧ e.upd.result = 6 ∧ d < 65536) ∧
    (u.upd.state ≠ 2 → exec (.verificationComplete t errors ok) s = .next (after t s u)) ∧
    (u.upd.state = 2 → exec (.verificationComplete t errors false) s = .next (after t s (updFail 6 { u with upd := { u.upd with late := [] } }))) ∧
    (u.upd.state = 2 → (∀ k, k < 4 → good k) →
      ((genOk u l && compatible l && (u.sys.mode == .recovery || stepsOk u l)) = true → ∃ e : State, exec (.verificationComplete t errors true) s = .next (after t s (evUpdate 2 0xFF 0 e)) ∧
        e.upd.state = 3 ∧ e.upd.slots = u.upd.slots.set (inactiveSlot u) (some l) ∧ e.upd.newSlot = inactiveSlot u ∧ e.upd.late = [] ∧ e.stn.statusDue = true) ∧
      ((genOk u l && compatible l && (u.sys.mode == .recovery || stepsOk u l)) = false → exec (.verificationComplete t errors true) s = .next (after t s (updFail 2 { u with upd := { u.upd with late := [] } })))) ∧
    (u.upd.state = 2 → (∃ k, k < 4 ∧ ¬ good k) → ∃ v e : State, exec (.verificationComplete t errors true) s = .next (after t s e) ∧ v.upd.state = 1 ∧ v.upd.result = 5 ∧ v.upd.late = [] ∧
      (u.upd.late = [] → e = v) ∧ (u.upd.late ≠ [] → e = tryVerify (u.upd.late.foldl (fun e p => if e.upd.state = 1 then saveEvery (takePiece1 p.1 p.2 e) else e) v))) ∧
    (u.upd.sched = none → exec (.activationTime t) s = .next (after t s u) ∧ exec (.activationWindowEnd t) s = .next (after t s u)) ∧
    (u.upd.sched = some c →
      ((u.upd.state ≠ 4 ∨ stationTime u < c.time ∨ u.upd.waiting = true) → exec (.activationTime t) s = .next (after t s u)) ∧
      (u.upd.state = 4 → c.time ≤ stationTime u → u.upd.waiting = false → quietNow u = true → storeTotal u = 0 → exec (.activationTime t) s = .next (after t s (activate u))) ∧
      (u.upd.state = 4 → c.time ≤ stationTime u → u.upd.waiting = false → (quietNow u = false ∨ storeTotal u ≠ 0) → c.policy = 0 → exec (.activationTime t) s = .next (after t s (unschedule 5 3 u))) ∧
      (u.upd.state = 4 → c.time ≤ stationTime u → u.upd.waiting = false → (quietNow u = false ∨ storeTotal u ≠ 0) → c.policy ≠ 0 →
        exec (.activationTime t) s = .next (after t s (if c.time + c.window * 1000000000 ≤ stationTime u then unschedule 5 4 u else { u with upd := { u.upd with waiting := true } }))) ∧
      (u.upd.state = 4 → u.upd.waiting = true → c.time + c.window * 1000000000 ≤ stationTime u → exec (.activationWindowEnd t) s = .next (after t s (unschedule 5 4 u))) ∧
      ((u.upd.state ≠ 4 ∨ u.upd.waiting = false ∨ stationTime u < c.time + c.window * 1000000000) → exec (.activationWindowEnd t) s = .next (after t s u))) ∧
    (u.sys.mode = .activate → exec (.switchOverStep t ok cfg) s = .next (after t s (bootFromActivate (evUpdate 7 0 0 (commitStep 1 u))))) ∧
    (u.sys.mode = .boot → b.act = 1 → u.upd.confirmed = false →
      (exec (.switchOverStep t false cfg) s = .next (after t s (beginRollback 2 (b.step - 1) u))) ∧
      (b.step = 1 → exec (.switchOverStep t true cfg) s = .next (after t s (commitStep 2 u))) ∧
      (2 ≤ b.step → b.step < 4 → exec (.switchOverStep t true cfg) s = .next (after t s (commitStep (b.step + 1) (evUpdate 7 (b.step - 1) 0 u)))) ∧
      (4 ≤ b.step → ∃ e : State, exec (.switchOverStep t true none) s = .next (after t s e) ∧ e.upd = { u.upd with result := 0, confirmed := true } ∧ e.banks = u.banks)) ∧
    ((u.sys.mode ≠ .activate ∧ u.sys.mode ≠ .boot ∨ u.sys.mode = .boot ∧ (b.act ≠ 1 ∨ u.upd.confirmed = true)) → exec (.switchOverStep t ok cfg) s = .next (after t s u)) ∧
    ((u.sys.mode ≠ .boot ∨ b.act ≠ 3) → exec (.rollbackStep t) s = .next (after t s u)) ∧
    (u.sys.mode = .boot → b.act = 3 → b.sel.testBit 0 ≠ b.prevSel.testBit 0 → (∀ k, k ∈ [1, 2, 3] → b.sel.testBit k = b.prevSel.testBit k) →
      exec (.rollbackStep t) s = .next (after t s (resetTo .internal (commitRecord { b with sel := setBit b.sel 0 (b.prevSel.testBit 0), step := b.step + 1 } u)))) ∧
    (u.sys.mode = .boot → b.act = 3 → b.sel.testBit 3 ≠ b.prevSel.testBit 3 → exec (.rollbackStep t) s = .next (after t s (commitRecord { b with sel := setBit b.sel 3 (b.prevSel.testBit 3), step := b.step + 1 } u))) ∧
    (∀ t0, u.upd.trialAt = some t0 → u.upd.state = 6 → t0 + b.window * 1000000000 ≤ u.now →
      ((u.sys.mode = .ready ∨ u.sys.mode = .standby) → exec (.confirmWindowExpiry t) s = .next (after t s (resetTo .internal u))) ∧
      (u.sys.mode ≠ .ready → u.sys.mode ≠ .standby → exec (.confirmWindowExpiry t) s = .next (after t s { u with upd := { u.upd with expired := true } }))) ∧
    ((u.upd.trialAt = none ∨ u.upd.state ≠ 6) → exec (.confirmWindowExpiry t) s = .next (after t s u))


/-! ### Memory errors, the debug port, energy and clocks (chapters 1, 10 and 16) -/

/-- R22, R24, R25, R35, R524 to R527, R530, R532 to R534: each of these rows completes in every state, with these effects. A corrected error enters the log once a second per resource, the second at an address within 24 h retires its row, and a double error does at once after its store's loss; a scrub that is due retires the row of each double error in an SRAM store at once and has its outcome wait for the next use of the data; an unlock answers the one challenge presented; erased secrets open the port; the refusal period ends; a tick of 1 µs adds to every meter channel and latches them; a clock step moves within F0 to F3 under the conditions of R22, and an island at F0 that is idle and may stop does; the stack refreshes itself only after 100 µs without a request. -/
def Obligations.MemoriesSecurityAndClocksAct : Prop :=
  ∀ (t store unit addr i ir level depth idle w n : Nat) (d fresh : Bool) (sig : List Byte) (l : List ScrubFinding) (s : State), let u := s.at t
    let m := u.meter
    let key := sramUnit store unit addr
    let place := (store * 256 + unit % 256) * 4294967296 + addr
    let last := tget 0 place u.mem.sramLast
    let told := corrected 0x0801 key { u with mem := { u.mem with sramLast := tset 0 place (u.now + 1) u.mem.sramLast } }
    let hit := raise 0x0802 key u
    let wrong := hbmDouble addr u
    let a := u.mem.scrubAt = 0 ∨ u.mem.scrubAt - 1 + 10000000000 ≤ u.now
    let b := u.mem.scrubHbmAt = 0 ∨ u.mem.scrubHbmAt - 1 + 60000000000 ≤ u.now
    let seen : State := { u with mem := { u.mem with scrubAt := if a then u.now + 1 else u.mem.scrubAt, scrubHbmAt := if b then u.now + 1 else u.mem.scrubHbmAt } }
    let stores := if a then (l.filter (fun f => f.store == 1 || f.store == 2 || f.store == 4)).foldl (fun e f => scrubSram f e) seen else seen
    let used : State := { u with sec := { u.sec with nonce := none } }
    let step := u.clk.steps.getD i 0
    exec (.sramError t store unit addr d) s = .next (after t s (sramError store unit addr d u)) ∧
    (6 ≤ store → sramError store unit addr d u = u) ∧
    (store ≤ 5 → sramError store unit addr false u = if last = 0 ∨ last - 1 + 86400000000000 ≤ u.now then told else retireRow store unit addr told) ∧
    (store = 0 → sramError store unit addr true u = retireRow store unit addr (releaseAll (rawLost unit addr hit))) ∧
    (store = 1 → sramError store unit addr true u = retireRow store unit addr (shadeLost unit addr hit)) ∧
    (store = 2 → sramError store unit addr true u = retireRow store unit addr (releaseAll (polyLost addr Slot.collapsed hit))) ∧
    (store = 3 → sramError store unit addr true u = retireRow store unit addr { hit with aln := { hit.aln with outPlanes := (unit * 4 + addr % 4) :: hit.aln.outPlanes } }) ∧
    (store = 4 → sramError store unit addr true u = retireRow store unit addr hit) ∧
    (store = 5 → sramError store unit addr true u = retireRow store unit addr (raise 0x0807 unit u)) ∧
    exec (.hbmError t addr d) s = .next (after t s (hbmError addr d u)) ∧
    (17179869184 ≤ addr → hbmError addr d u = u) ∧
    (addr < 17179869184 → hbmError addr false u = corrected 0x0804 (addr / 1073741824 % 16) (if 805306368 ≤ addr ∧ addr < 2147483648 then { u with aln := { u.aln with stCorr := satInc 32 u.aln.stCorr } } else u)) ∧
    (addr < 134217728 → hbmError addr true u = wrong) ∧
    (134217728 ≤ addr → addr < 805306368 → hbmError addr true u = stagingLost (addr - 134217728) wrong) ∧
    (∀ k, 805306368 ≤ addr → addr < 2147483648 → wrong.aln.store[(addr - 805306368) / 20480]? = some k → hbmError addr true u = staggerLost k.port k.slot k.line wrong) ∧
    (∀ k, 2147483648 ≤ addr → addr < 17179869184 → itemAt wrong (addr - 2147483648) = some k → hbmError addr true u = loseItems 3 k.1 [] [k.2] wrong) ∧
    (∀ f : ScrubFinding, let found := raise 0x0802 (sramUnit f.store f.unit f.addr) u
      (f.double = false → scrubSram f u = sramError f.store f.unit f.addr false u) ∧
      (f.double = true → f.store = 1 → scrubSram f u = retireRow 1 f.unit f.addr (shadeBad f.unit f.addr { found with mem := { found.mem with latentShade := found.mem.latentShade ++ [(b2n (f.unit == 1), f.addr)] } })) ∧
      (f.double = true → f.store = 2 → scrubSram f u = retireRow 2 f.unit f.addr { found with mem := { found.mem with latentPoly := found.mem.latentPoly ++ [f.addr % 256] } }) ∧
      (f.double = true → f.store = 4 → scrubSram f u = retireRow 4 f.unit f.addr found)) ∧
    exec (.scrub t l) s = .next (after t s (if b then (l.filter (fun f => f.store == 6 && hbmArea f.addr == some 1)).foldl (fun e f => hbmError f.addr f.double e) stores else stores)) ∧
    (u.sec.nonce = none → exec (.jtagUnlock t sig) s = .next (after t s u)) ∧
    (u.sec.nonce = some n → exec (.jtagUnlock t sig) s = .next (after t s
      (if locked u = true ∨ unlockOk n sig = false then refuseAuth used
       else if 32 ≤ u.sec.opens ∨ u.sec.erasePending = true then used
       else evSecurity 1 0 { u with sec := { u.sec with nonce := none, opens := u.sec.opens + 1, erasePending := true, opener := 5, openerSeq := 0 } }))) ∧
    ((5 ≤ ir ∨ (ir = 3 ∧ u.sys.mode ≠ .reset)) → exec (.jtagInstruction t ir) s = .next (after t s u)) ∧
    ((ir = 0 ∨ ir = 2 ∨ (ir = 3 ∧ u.sys.mode = .reset)) → exec (.jtagInstruction t ir) s = .next (after t s { u with sec := { u.sec with jtagIr := ir } })) ∧
    (exec (.jtagInstruction t 1) s = .next (after t s { u with sec := { u.sec with jtagIr := 1 }, out := .jtag (leBytes 4 (Config.idcode).toNat) :: u.out })) ∧
    (exec (.jtagInstruction t 4) s = .next (after t s { u with sec := { u.sec with jtagIr := 4, nonce := some (Config.random u.free).toNat }, out := .jtag (challenge (Config.random u.free).toNat) :: u.out, free := u.free + 1 })) ∧
    ((u.sec.erasePending = false ∨ u.sec.opener = 6) → exec (.secretsErased t) s = .next (after t s u)) ∧
    (u.sec.erasePending = true → u.sec.opener ≠ 6 → ∃ e : State, exec (.secretsErased t) s = .next (after t s (complete (fun p => p.opcode == 0x0D10 && p.src == u.sec.opener && p.seq == u.sec.openerSeq) 0 0 0 e)) ∧
      e.sec = { u.sec with stationKey := none, ownerToken := none, spoolWrap := none, identity := none, erased := true, noOwner := false, erasePending := false, opener := 6, debugOpen := true } ∧
      e.spool = { u.spool with segs := u.spool.segs.map (fun g => { g with sealed := true }), keys := none, wrapped := [], cmds := u.spool.cmds.map (fun c => { c with sealed := true }) }) ∧
    (u.sec.lockUntil = none → exec (.authLockoutEnd t) s = .next (after t s u)) ∧
    (u.sec.lockUntil = some w → exec (.authLockoutEnd t) s = .next (after t s (if w ≤ u.now then { u with sec := { u.sec with lockUntil := none, refusals := [] } } else u))) ∧
    exec (.energyTick t) s = .next (after t s (if u.now < m.lastTick + 1000 then u else
      { u with meter := { m with ch := (List.range 25).map (fun c => (m.ch.getD c 0 + (Config.energy c m.ticks).toNat) % 18446744073709551616), lastTick := u.now, ticks := m.ticks + 1, tSnap := stationTime u, snapIn := m.samplesIn, snapOut := m.samplesOut, snapLines := m.linesOut, snapAvg := lineAvg m } })) ∧
    exec (.clockStepRaise t ⟨i, level, depth, fresh⟩) s = .next (after t s
      (if clockRuns u i = true ∧ 0 < depth ∧ depth ≤ 2 * level ∧ (fresh = true ∨ heldFor u i 256 = true) then setStep i (Nat.min (step + 1) 3) u else u)) ∧
    exec (.clockStepLower t ⟨i, idle⟩) s = .next (after t s (if clockRuns u i = true ∧ 4096 ≤ idle ∧ heldFor u i 4096 = true then setStep i (step - 1) u else u)) ∧
    exec (.clockStop t ⟨i, idle⟩) s = .next (after t s
      (if clockRuns u i = true ∧ step = 0 ∧ mayStop u i = true ∧ holdsWork u i = false ∧ 256 ≤ idle ∧ heldFor u i 256 = true then { u with clk := { u.clk with stopped := u.clk.stopped.set i true } } else u)) ∧
    exec (.clockRestart t i) s = .next (after t s (if clockRuns u i = true then u else { u with clk := { u.clk with stopped := u.clk.stopped.set i false, since := u.clk.since.set i u.now } })) ∧
    exec (.hbmSelfRefresh t) s = .next (after t s
      (if hbmBusy u = false ∧ (u.sys.mode = .standby ∨ u.sys.mode = .ready ∨ u.sys.mode = .activate) ∧ u.clk.lastHbm + 100000 ≤ u.now then { u with clk := { u.clk with refresh := true } } else u))
end

