-- ==== Sys2Proof/Laws/Bytes.lean ====
section
/-! SUPPORT. Byte strings, clamps and counters: lengths, bounds and reading back. -/

namespace Sys2Proof.Machine

open Sys2Proof

@[simp] theorem leBytes_length (n w : Nat) : (leBytes n w).length = n := by
  induction n generalizing w with
  | zero => rfl
  | succ n ih => simp [leBytes, ih]

/-- Little-endian bytes read back as the number modulo their width. -/
theorem ofLe_leBytes (n w : Nat) : ofLe (leBytes n w) = w % 256 ^ n := by
  induction n generalizing w with
  | zero => simp [leBytes, ofLe, Nat.mod_one]
  | succ n ih =>
    simp only [leBytes, ofLe, ih, BitVec.toNat_ofNat]
    have e : w % 256 ^ (n + 1) = w % 256 + 256 * (w / 256 % 256 ^ n) := by rw [Nat.pow_succ', Nat.mod_mul]
    omega

@[simp] theorem slice_length (l : List Byte) (o n : Nat) : (slice l o n).length = n := by
  simp only [slice, List.length_append, List.length_replicate, List.length_take, List.length_drop]
  omega

@[simp] theorem patch_length (l : List Byte) (o : Nat) (b : List Byte) : (patch l o b).length = l.length := by
  simp only [patch, List.length_append, List.length_take, List.length_drop]
  omega

@[simp] theorem zeros_length (n : Nat) : (zeros n).length = n := List.length_replicate

/-- A layout keeps its size whatever its fields. -/
@[simp] theorem layout_length (n : Nat) (fs : List (Nat × Nat × Nat)) : (layout n fs).length = n := by
  have h : ∀ (fs : List (Nat × Nat × Nat)) (l : List Byte), (fs.foldl (fun l (o, w, v) => patch l o (leBytes w v)) l).length = l.length := by
    intro fs
    induction fs with
    | nil => intro l; rfl
    | cons f r ih => intro l; simp [ih]
  simp [layout, h]

theorem clampN_bounds {x lo hi : Nat} (h : lo ≤ hi) : lo ≤ clampN x lo hi ∧ clampN x lo hi ≤ hi := by
  unfold clampN; (repeat' split) <;> omega

theorem clampN_id {x lo hi : Nat} (h : lo ≤ x) (h' : x ≤ hi) : clampN x lo hi = x := by
  unfold clampN; (repeat' split) <;> omega

theorem clampI_bounds {x lo hi : Int} (h : lo ≤ hi) : lo ≤ clampI x lo hi ∧ clampI x lo hi ≤ hi := by
  unfold clampI; (repeat' split) <;> omega

theorem satInc_le (n x b : Nat) : satInc n x b ≤ 2 ^ n - 1 := Nat.min_le_right _ _

theorem wrapInc_lt (n x b : Nat) : wrapInc n x b < 2 ^ n := Nat.mod_lt _ (Nat.two_pow_pos n)

end Sys2Proof.Machine
end

