-- ==== Sys2Proof/Laws/Exec.lean ====
section
/-! SUPPORT. What exec answers, row by row: the state after the row's effect. Made for the proofs to cite instead of unfolding the dispatch. -/

namespace Sys2Proof.Machine

/-- A row of the one master goes on where no second master has commanded (R355). -/
theorem hostAct_next {t : Nat} {f : State → State} {s : State} (h : secondMaster s = false) : hostAct t f s = .next (after t s (f (s.at t))) := by
  simp [hostAct, h, run]

theorem execRegisterWrite_shape (t addr : Nat) (data : ByteWrite) (s : State) :
    (∃ f, execRegisterWrite t addr data s = run t f s) ∨ (∃ f, execRegisterWrite t addr data s = hostAct t f s) := by
  unfold execRegisterWrite
  split
  · exact .inl ⟨_, rfl⟩
  · exact .inr ⟨_, rfl⟩

theorem execRcRegisterRead_shape (t : Nat) (read : Access) (s : State) :
    (∃ f, execRcRegisterRead t read s = run t f s) ∨ (∃ f, execRcRegisterRead t read s = hostAct t f s) := by
  unfold execRcRegisterRead
  split
  · exact .inr ⟨_, rfl⟩
  · exact .inl ⟨_, rfl⟩

theorem exec_porNFall (t : Nat) (s : State) :
    exec (.porNFall t) s = .next (after t s (porFall (s.at t))) := rfl

theorem exec_porNRise (t badChannels badLogTags : Nat) (s : State) :
    exec (.porNRise t badChannels badLogTags) s = .next (after t s ((porRise badChannels badLogTags) (s.at t))) := rfl

theorem exec_sysRstNFall (t : Nat) (s : State) :
    exec (.sysRstNFall t) s = .next (after t s (sysRstFall (s.at t))) := rfl

theorem exec_brownOut (t : Nat) (s : State) :
    exec (.brownOut t) s = .next (after t s (brownOutStart (s.at t))) := rfl

theorem exec_brownOutRecovery (t : Nat) (s : State) :
    exec (.brownOutRecovery t) s = .next (after t s (brownOutEnd (s.at t))) := rfl

theorem exec_xtal25Stop (t : Nat) (s : State) :
    exec (.xtal25Stop t) s = .next (after t s (xtalLost (s.at t))) := rfl

theorem exec_xtal25Restart (t : Nat) (s : State) :
    exec (.xtal25Restart t) s = .next (after t s (xtalBack (s.at t))) := rfl

theorem exec_thermalTrip (t sensor : Nat) (s : State) :
    exec (.thermalTrip t sensor) s = .next (after t s ((thermalTrip sensor) (s.at t))) := rfl

theorem exec_thermalTripRelease (t : Nat) (s : State) :
    exec (.thermalTripRelease t) s = .next (after t s (thermalRelease (s.at t))) := rfl

theorem exec_mailboxServiceStart (t : Nat) (cfg : Option CfgPart) (s : State) :
    exec (.mailboxServiceStart t cfg) s = .next (after t s ((serviceStart cfg) (s.at t))) := rfl

theorem exec_bootComplete (t : Nat) (slotOk : Bool) (s : State) :
    exec (.bootComplete t slotOk) s = .next (after t s ((bootComplete slotOk) (s.at t))) := rfl

theorem exec_pcieLinkUp (t rate width : Nat) (s : State) :
    exec (.pcieLinkUp t rate width) s = .next (after t s ((onBar (linkUp rate width)) (s.at t))) := rfl

theorem exec_configSpaceReady (t : Nat) (s : State) :
    exec (.configSpaceReady t) s = .next (after t s ((fun s => if s.sys.perstN && s.sys.mode != .reset && decide (s.sys.tPerst + 100000000 ≤ s.now) then { s with sys.cfgReady := true } else s) (s.at t))) := rfl

theorem exec_hostInterfaceReset (t kind : Nat) (s : State) :
    exec (.hostInterfaceReset t kind) s = .next (after t s ((onBar (hostReset kind)) (s.at t))) := rfl

theorem exec_linkRateChange (t rate width : Nat) (s : State) :
    exec (.linkRateChange t rate width) s = .next (after t s ((onBar (fun s => if s.host.rate = 0 then s else { s with host.rate := rate % 8, host.width := width % 32 })) (s.at t))) := rfl

theorem exec_mbDoorbell (t mb token : Nat) (s : State) (h : secondMaster s = false) :
    exec (.mbDoorbell t mb token) s = .next (after t s ((onBar (fun s => if mb < 4 then doorbell mb token s else accessErr s)) (s.at t))) := hostAct_next h

theorem exec_ringTailWrite (t stream tail : Nat) (s : State) :
    exec (.ringTailWrite t stream tail) s = .next (after t s ((onBar (fun s => if stream < 8 then tailWrite stream tail (busMaster s) else accessErr s)) (s.at t))) := rfl

theorem exec_evqHeadWrite (t head : Nat) (s : State) :
    exec (.evqHeadWrite t head) s = .next (after t s ((onBar (writeHead head)) (s.at t))) := rfl

theorem exec_evqEnable (t : Nat) (s : State) (h : secondMaster s = false) :
    exec (.evqEnable t) s = .next (after t s ((onBar enableEvq) (s.at t))) := hostAct_next h

theorem exec_evqArmed (t : Nat) (s : State) (h : secondMaster s = false) :
    exec (.evqArmed t) s = .next (after t s ((onBar armEvq) (s.at t))) := hostAct_next h

theorem exec_evqVector (t vector : Nat) (s : State) (h : secondMaster s = false) :
    exec (.evqVector t vector) s = .next (after t s ((onBar (setVector vector)) (s.at t))) := hostAct_next h

theorem exec_reservedAccess (t addr bytes : Nat) (write : Bool) (s : State) :
    exec (.reservedAccess t addr bytes write) s = .next (after t s ((onBar (reservedAccess addr bytes write)) (s.at t))) := rfl

theorem exec_snapshotLoRead (t pair : Nat) (s : State) (h : secondMaster s = false) :
    exec (.snapshotLoRead t pair) s = .next (after t s ((onBar (readPair pair 4)) (s.at t))) := hostAct_next h

theorem exec_snapshotPairRead (t pair : Nat) (s : State) (h : secondMaster s = false) :
    exec (.snapshotPairRead t pair) s = .next (after t s ((onBar (readPair pair 8)) (s.at t))) := hostAct_next h

theorem exec_auxStatusRead (t channel : Nat) (s : State) :
    exec (.auxStatusRead t channel) s = .next (after t s ((onBar (auxStatusRead channel)) (s.at t))) := rfl

theorem exec_bar2Write (t offset : Nat) (bytes : List Byte) (s : State) (h : secondMaster s = false) :
    exec (.bar2Write t offset bytes) s = .next (after t s ((onBar (bar2Write offset bytes)) (s.at t))) := hostAct_next h

theorem exec_bar2Read (t offset count : Nat) (s : State) :
    exec (.bar2Read t offset count) s = .next (after t s ((onBar (bar2Read offset count)) (s.at t))) := rfl

theorem exec_msixUnmask (t vector : Nat) (s : State) :
    exec (.msixUnmask t vector) s = .next (after t s ((onBar (fun s => if vector < 64 then setMask vector false s else s)) (s.at t))) := rfl

theorem exec_eventWrite (t : Nat) (s : State) :
    exec (.eventWrite t) s = .next (after t s (drainOne (s.at t))) := rfl

theorem exec_coalesceTimer (t : Nat) (s : State) :
    exec (.coalesceTimer t) s = .next (after t s (coalesceOver (s.at t))) := rfl

theorem exec_devInfo (t src : Nat) (s : State) :
    exec (.devInfo t src) s = .next (after t s ((serve cmdDevInfo src) (s.at t))) := rfl

theorem exec_devReset (t src : Nat) (s : State) :
    exec (.devReset t src) s = .next (after t s ((serve cmdDevReset src) (s.at t))) := rfl

theorem exec_modeSet (t src : Nat) (s : State) :
    exec (.modeSet t src) s = .next (after t s ((serve cmdModeSet src) (s.at t))) := rfl

theorem exec_modeGet (t src : Nat) (s : State) :
    exec (.modeGet t src) s = .next (after t s ((serve cmdModeGet src) (s.at t))) := rfl

theorem exec_datumCfg (t src : Nat) (s : State) :
    exec (.datumCfg t src) s = .next (after t s ((serve cmdDatumCfg src) (s.at t))) := rfl

theorem exec_datumForce (t src : Nat) (s : State) :
    exec (.datumForce t src) s = .next (after t s ((serve cmdDatumForce src) (s.at t))) := rfl

theorem exec_stageCommit (t src : Nat) (s : State) :
    exec (.stageCommit t src) s = .next (after t s ((serve cmdStageCommit src) (s.at t))) := rfl

theorem exec_portCfg (t src : Nat) (s : State) :
    exec (.portCfg t src) s = .next (after t s ((serve cmdPortCfg src) (s.at t))) := rfl

theorem exec_portTrain (t src : Nat) (s : State) :
    exec (.portTrain t src) s = .next (after t s ((serve cmdPortTrain src) (s.at t))) := rfl

theorem exec_portReadmit (t src : Nat) (s : State) :
    exec (.portReadmit t src) s = .next (after t s ((serve cmdPortReadmit src) (s.at t))) := rfl

theorem exec_portStat (t src : Nat) (s : State) :
    exec (.portStat t src) s = .next (after t s ((serve cmdPortStat src) (s.at t))) := rfl

theorem exec_encCfg (t src : Nat) (s : State) :
    exec (.encCfg t src) s = .next (after t s ((serve cmdEncCfg src) (s.at t))) := rfl

theorem exec_transitCfg (t src : Nat) (s : State) :
    exec (.transitCfg t src) s = .next (after t s ((serve cmdTransitCfg src) (s.at t))) := rfl

theorem exec_expoSet (t src : Nat) (s : State) :
    exec (.expoSet t src) s = .next (after t s ((serve cmdExpoSet src) (s.at t))) := rfl

theorem exec_posRead (t src : Nat) (s : State) :
    exec (.posRead t src) s = .next (after t s ((serve cmdPosRead src) (s.at t))) := rfl

theorem exec_shadeLoad (t src : Nat) (s : State) :
    exec (.shadeLoad t src) s = .next (after t s ((serve cmdShadeLoad src) (s.at t))) := rfl

theorem exec_shadeRead (t src : Nat) (s : State) :
    exec (.shadeRead t src) s = .next (after t s ((serve cmdShadeRead src) (s.at t))) := rfl

theorem exec_polyLoad (t src : Nat) (s : State) :
    exec (.polyLoad t src) s = .next (after t s ((serve cmdPolyLoad src) (s.at t))) := rfl

theorem exec_defectMap (t src : Nat) (s : State) :
    exec (.defectMap t src) s = .next (after t s ((serve cmdDefectMap src) (s.at t))) := rfl

theorem exec_baselineCfg (t src : Nat) (s : State) :
    exec (.baselineCfg t src) s = .next (after t s ((serve cmdBaselineCfg src) (s.at t))) := rfl

theorem exec_seamCfg (t src : Nat) (s : State) :
    exec (.seamCfg t src) s = .next (after t s ((serve cmdSeamCfg src) (s.at t))) := rfl

theorem exec_regionSet (t src : Nat) (s : State) :
    exec (.regionSet t src) s = .next (after t s ((serve cmdRegionSet src) (s.at t))) := rfl

theorem exec_selvedgeCfg (t src : Nat) (s : State) :
    exec (.selvedgeCfg t src) s = .next (after t s ((serve cmdSelvedgeCfg src) (s.at t))) := rfl

theorem exec_calRun (t src : Nat) (s : State) :
    exec (.calRun t src) s = .next (after t s ((serve cmdCalRun src) (s.at t))) := rfl

theorem exec_calStatus (t src : Nat) (s : State) :
    exec (.calStatus t src) s = .next (after t s ((serve cmdCalStatus src) (s.at t))) := rfl

theorem exec_calLimits (t src : Nat) (s : State) :
    exec (.calLimits t src) s = .next (after t s ((serve cmdCalLimits src) (s.at t))) := rfl

theorem exec_calApply (t src : Nat) (s : State) :
    exec (.calApply t src) s = .next (after t s ((serve cmdCalApply src) (s.at t))) := rfl

theorem exec_codeTableLoad (t src : Nat) (s : State) :
    exec (.codeTableLoad t src) s = .next (after t s ((serve cmdCodeTableLoad src) (s.at t))) := rfl

theorem exec_codecJob (t src : Nat) (s : State) :
    exec (.codecJob t src) s = .next (after t s ((serve cmdCodecJob src) (s.at t))) := rfl

theorem exec_codecJobStat (t src : Nat) (s : State) :
    exec (.codecJobStat t src) s = .next (after t s ((serve cmdCodecJobStat src) (s.at t))) := rfl

theorem exec_streamOpen (t src : Nat) (s : State) :
    exec (.streamOpen t src) s = .next (after t s ((serve cmdStreamOpen src) (s.at t))) := rfl

theorem exec_streamClose (t src : Nat) (s : State) :
    exec (.streamClose t src) s = .next (after t s ((serve cmdStreamClose src) (s.at t))) := rfl

theorem exec_ringCfg (t src : Nat) (s : State) :
    exec (.ringCfg t src) s = .next (after t s ((serve cmdRingCfg src) (s.at t))) := rfl

theorem exec_spoolCfg (t src : Nat) (s : State) :
    exec (.spoolCfg t src) s = .next (after t s ((serve cmdSpoolCfg src) (s.at t))) := rfl

theorem exec_spoolReplay (t src : Nat) (s : State) :
    exec (.spoolReplay t src) s = .next (after t s ((serve cmdSpoolReplay src) (s.at t))) := rfl

theorem exec_spoolStat (t src : Nat) (s : State) :
    exec (.spoolStat t src) s = .next (after t s ((serve cmdSpoolStat src) (s.at t))) := rfl

theorem exec_lampMap (t src : Nat) (s : State) :
    exec (.lampMap t src) s = .next (after t s ((serve cmdLampMap src) (s.at t))) := rfl

theorem exec_lampSet (t src : Nat) (s : State) :
    exec (.lampSet t src) s = .next (after t s ((serve cmdLampSet src) (s.at t))) := rfl

theorem exec_lampCurve (t src : Nat) (s : State) :
    exec (.lampCurve t src) s = .next (after t s ((serve cmdLampCurve src) (s.at t))) := rfl

theorem exec_lampDerate (t src : Nat) (s : State) :
    exec (.lampDerate t src) s = .next (after t s ((serve cmdLampDerate src) (s.at t))) := rfl

theorem exec_lampGroup (t src : Nat) (s : State) :
    exec (.lampGroup t src) s = .next (after t s ((serve cmdLampGroup src) (s.at t))) := rfl

theorem exec_lampStat (t src : Nat) (s : State) :
    exec (.lampStat t src) s = .next (after t s ((serve cmdLampStat src) (s.at t))) := rfl

theorem exec_lampRearm (t src : Nat) (s : State) :
    exec (.lampRearm t src) s = .next (after t s ((serve cmdLampRearm src) (s.at t))) := rfl

theorem exec_axisCfg (t src : Nat) (s : State) :
    exec (.axisCfg t src) s = .next (after t s ((serve cmdAxisCfg src) (s.at t))) := rfl

theorem exec_axisMove (t src : Nat) (s : State) :
    exec (.axisMove t src) s = .next (after t s ((serve cmdAxisMove src) (s.at t))) := rfl

theorem exec_axisHome (t src : Nat) (s : State) :
    exec (.axisHome t src) s = .next (after t s ((serve cmdAxisHome src) (s.at t))) := rfl

theorem exec_axisStop (t src : Nat) (s : State) :
    exec (.axisStop t src) s = .next (after t s ((serve cmdAxisStop src) (s.at t))) := rfl

theorem exec_axisStat (t src : Nat) (s : State) :
    exec (.axisStat t src) s = .next (after t s ((serve cmdAxisStat src) (s.at t))) := rfl

theorem exec_proofCfg (t src : Nat) (s : State) :
    exec (.proofCfg t src) s = .next (after t s ((serve cmdProofCfg src) (s.at t))) := rfl

theorem exec_auxCfg (t src : Nat) (s : State) :
    exec (.auxCfg t src) s = .next (after t s ((serve cmdAuxCfg src) (s.at t))) := rfl

theorem exec_auxSeq (t src : Nat) (s : State) :
    exec (.auxSeq t src) s = .next (after t s ((serve cmdAuxSeq src) (s.at t))) := rfl

theorem exec_auxRead (t src : Nat) (s : State) :
    exec (.auxRead t src) s = .next (after t s ((serve cmdAuxRead src) (s.at t))) := rfl

theorem exec_auxPoly (t src : Nat) (s : State) :
    exec (.auxPoly t src) s = .next (after t s ((serve cmdAuxPoly src) (s.at t))) := rfl

theorem exec_auxCal (t src : Nat) (s : State) :
    exec (.auxCal t src) s = .next (after t s ((serve cmdAuxCal src) (s.at t))) := rfl

theorem exec_stnCfg (t src : Nat) (s : State) :
    exec (.stnCfg t src) s = .next (after t s ((serve cmdStnCfg src) (s.at t))) := rfl

theorem exec_timeCfg (t src : Nat) (s : State) :
    exec (.timeCfg t src) s = .next (after t s ((serve cmdTimeCfg src) (s.at t))) := rfl

theorem exec_updBegin (t src : Nat) (s : State) :
    exec (.updBegin t src) s = .next (after t s ((serve cmdUpdBegin src) (s.at t))) := rfl

theorem exec_updPiece (t src : Nat) (nothing : Unit) (s : State) :
    exec (.updPiece t src nothing) s = .next (after t s ((serve cmdUpdPiece src) (s.at t))) := rfl

theorem exec_updStatus (t src : Nat) (s : State) :
    exec (.updStatus t src) s = .next (after t s ((serve cmdUpdStatus src) (s.at t))) := rfl

theorem exec_updSchedule (t src : Nat) (s : State) :
    exec (.updSchedule t src) s = .next (after t s ((serve cmdUpdSchedule src) (s.at t))) := rfl

theorem exec_updConfirm (t src : Nat) (s : State) :
    exec (.updConfirm t src) s = .next (after t s ((serve cmdUpdConfirm src) (s.at t))) := rfl

theorem exec_updAbort (t src : Nat) (s : State) :
    exec (.updAbort t src) s = .next (after t s ((serve cmdUpdAbort src) (s.at t))) := rfl

theorem exec_faultLog (t src : Nat) (s : State) :
    exec (.faultLog t src) s = .next (after t s ((serve cmdFaultLog src) (s.at t))) := rfl

theorem exec_faultPolicy (t src : Nat) (s : State) :
    exec (.faultPolicy t src) s = .next (after t s ((serve cmdFaultPolicy src) (s.at t))) := rfl

theorem exec_debugOpen (t src : Nat) (s : State) :
    exec (.debugOpen t src) s = .next (after t s ((serve cmdDebugOpen src) (s.at t))) := rfl

theorem exec_keyProvision (t src : Nat) (nothing : Unit) (s : State) :
    exec (.keyProvision t src nothing) s = .next (after t s ((serve cmdKeyProvision src) (s.at t))) := rfl

theorem exec_diagLoopback (t src : Nat) (s : State) :
    exec (.diagLoopback t src) s = .next (after t s ((serve cmdDiagLoopback src) (s.at t))) := rfl

theorem exec_energyRead (t src : Nat) (s : State) :
    exec (.energyRead t src) s = .next (after t s ((serve cmdEnergyRead src) (s.at t))) := rfl

theorem exec_loopbackComplete (t errors : Nat) (s : State) :
    exec (.loopbackComplete t errors) s = .next (after t s ((loopbackComplete errors) (s.at t))) := rfl

theorem exec_pipelineArmed (t : Nat) (s : State) :
    exec (.pipelineArmed t) s = .next (after t s (pipelineArmed (s.at t))) := rfl

theorem exec_orderlyStopComplete (t : Nat) (s : State) :
    exec (.orderlyStopComplete t) s = .next (after t s (orderlyStopComplete (s.at t))) := rfl

theorem exec_stopTimeout (t : Nat) (s : State) :
    exec (.stopTimeout t) s = .next (after t s (stopTimeout (s.at t))) := rfl

theorem exec_encoderEdge (t : Nat) (edge : InputEdge) (a b : Bool) (s : State) :
    exec (.encoderEdge t edge a b) s = .next (after t s ((heldEdge edge.input edge.held a b) (s.at t))) := rfl

theorem exec_stillTimeout (t : Nat) (s : State) :
    exec (.stillTimeout t) s = .next (after t s (stillTimeout (s.at t))) := rfl

theorem exec_cueEdge (t : Nat) (edge : InputEdge) (rising : Bool) (s : State) :
    exec (.cueEdge t edge rising) s = .next (after t s ((heldCue edge.input edge.held rising) (s.at t))) := rfl

theorem exec_windowClose (t : Nat) (s : State) :
    exec (.windowClose t) s = .next (after t s (windowClose (s.at t))) := rfl

theorem exec_freeze (t : Nat) (s : State) :
    exec (.freeze t) s = .next (after t s (freezeSpec (s.at t))) := rfl

theorem exec_syncRise (t port : Nat) (s : State) :
    exec (.syncRise t port) s = .next (after t s ((syncRise port) (s.at t))) := rfl

theorem exec_syncFall (t port : Nat) (s : State) :
    exec (.syncFall t port) s = .next (after t s ((syncFall port) (s.at t))) := rfl

theorem exec_verdictDeadline (t : Nat) (s : State) :
    exec (.verdictDeadline t) s = .next (after t s ((fun s => pruneTiming (judgeDeadline s)) (s.at t))) := rfl

theorem exec_bankRelease (t : Nat) (s : State) :
    exec (.bankRelease t) s = .next (after t s (bankRelease (s.at t))) := rfl

theorem exec_tilePacket (t port idles : Nat) (blocks : List (List Nat)) (s : State) :
    exec (.tilePacket t port idles blocks) s = .next (after t s ((rowsIn port idles blocks) (s.at t))) := rfl

theorem exec_alignmentRow (t port idles : Nat) (blocks : List (List Nat)) (s : State) :
    exec (.alignmentRow t port idles blocks) s = .next (after t s ((rowsIn port idles blocks) (s.at t))) := rfl

theorem exec_blockLockLoss (t port : Nat) (heard : BallHeaders) (s : State) :
    exec (.blockLockLoss t port heard) s = .next (after t s ((headersIn port heard.ball heard.headers) (s.at t))) := rfl

theorem exec_lateError (t port : Nat) (s : State) :
    exec (.lateError t port) s = .next (after t s ((lateError port) (s.at t))) := rfl

theorem exec_trainingComplete (t port : Nat) (ok : Bool) (s : State) :
    exec (.trainingComplete t port ok) s = .next (after t s ((trainingOver port ok) (s.at t))) := rfl

theorem exec_retrainComplete (t port : Nat) (ok : Bool) (laneOrder polarity : Nat) (skew : List Int) (s : State) :
    exec (.retrainComplete t port ok laneOrder polarity skew) s = .next (after t s ((retrainOver port ok laneOrder polarity skew) (s.at t))) := rfl

theorem exec_retrainRetry (t port : Nat) (s : State) :
    exec (.retrainRetry t port) s = .next (after t s ((retrainRetry port) (s.at t))) := rfl

theorem exec_lockLoss (t port lane : Nat) (s : State) :
    exec (.lockLoss t port lane) s = .next (after t s ((lockLoss port lane) (s.at t))) := rfl

theorem exec_ctlTransaction (t port : Nat) (write : Bool) (addr data : Nat) (s : State) :
    exec (.ctlTransaction t port write addr data) s = .next (after t s ((ctlTransaction port write addr data) (s.at t))) := rfl

theorem exec_ctlReply (t port : Nat) (levels : List Bool) (s : State) :
    exec (.ctlReply t port levels) s = .next (after t s ((ctlReply port levels) (s.at t))) := rfl

theorem exec_ctlReplyLost (t port : Nat) (s : State) :
    exec (.ctlReplyLost t port) s = .next (after t s ((ctlTimeout port) (s.at t))) := rfl

theorem exec_collapseComplete (t : Nat) (s : State) :
    exec (.collapseComplete t) s = .next (after t s (collapseComplete (s.at t))) := rfl

theorem exec_runningWhiteBlock (t side slot : Nat) (s : State) :
    exec (.runningWhiteBlock t side slot) s = .next (after t s ((rwBlock side slot) (s.at t))) := rfl

theorem exec_outputLine (t : Nat) (s : State) :
    exec (.outputLine t) s = .next (after t s (outputLine (s.at t))) := rfl

theorem exec_staggerDbe (t port slot line row : Nat) (s : State) :
    exec (.staggerDbe t port slot line row) s = .next (after t s ((staggerDbe port slot line row) (s.at t))) := rfl

theorem exec_hbmRowRemap (t row : Nat) (s : State) :
    exec (.hbmRowRemap t row) s = .next (after t s ((rowRemap row) (s.at t))) := rfl

theorem exec_boltDispatch (t stream : Nat) (s : State) :
    exec (.boltDispatch t stream) s = .next (after t s ((fun s => if stream < 8 then dispatchBolt stream s else s) (s.at t))) := rfl

theorem exec_boltCoded (t stream seq : Nat) (s : State) :
    exec (.boltCoded t stream seq) s = .next (after t s ((fun s => if stream < 8 then boltCoded stream seq s else s) (s.at t))) := rfl

theorem exec_codecJobStart (t : Nat) (decompress : Bool) (source tables : SourceData) (s : State) :
    exec (.codecJobStart t decompress source tables) s = .next (after t s ((startJob decompress source tables) (s.at t))) := rfl

theorem exec_codecJobComplete (t : Nat) (decompress : Bool) (s : State) :
    exec (.codecJobComplete t decompress) s = .next (after t s ((completeJob decompress) (s.at t))) := rfl

theorem exec_descriptorFetch (t stream : Nat) (bytes : List Byte) (s : State) :
    exec (.descriptorFetch t stream bytes) s = .next (after t s ((fun s => if stream < 8 then descriptorFetch stream bytes s else s) (s.at t))) := rfl

theorem exec_itemDelivery (t stream : Nat) (s : State) :
    exec (.itemDelivery t stream) s = .next (after t s ((fun s => if stream < 8 then itemDelivery stream s else s) (s.at t))) := rfl

theorem exec_flushAge (t stream : Nat) (s : State) :
    exec (.flushAge t stream) s = .next (after t s ((fun s => if stream < 8 then flushAge stream s else s) (s.at t))) := rfl

theorem exec_flushRecordTimeout (t stream : Nat) (s : State) :
    exec (.flushRecordTimeout t stream) s = .next (after t s ((fun s => if stream < 8 then flushRecord stream s else s) (s.at t))) := rfl

theorem exec_backlogBufferEarly (t stream : Nat) (s : State) :
    exec (.backlogBufferEarly t stream) s = .next (after t s ((fun s => if stream < 8 then backlogEarly stream s else s) (s.at t))) := rfl

theorem exec_refugeAdmit (t stream : Nat) (s : State) :
    exec (.refugeAdmit t stream) s = .next (after t s ((fun s => if stream < 8 then refugeAdmit stream s else s) (s.at t))) := rfl

theorem exec_proofResumeAllow (t : Nat) (s : State) :
    exec (.proofResumeAllow t) s = .next (after t s (proofResume (s.at t))) := rfl

theorem exec_spill (t : Nat) (s : State) :
    exec (.spill t) s = .next (after t s (spill (s.at t))) := rfl

theorem exec_catchup (t stream : Nat) (s : State) :
    exec (.catchup t stream) s = .next (after t s ((fun s => if stream < 8 then startCatchup stream s else s) (s.at t))) := rfl

theorem exec_pcieError (t stream desc : Nat) (s : State) :
    exec (.pcieError t stream desc) s = .next (after t s ((fun s => if stream < 8 then pcieFail stream desc s else s) (s.at t))) := rfl

theorem exec_pcieCompletionTimeout (t stream desc : Nat) (s : State) :
    exec (.pcieCompletionTimeout t stream desc) s = .next (after t s ((fun s => if stream < 8 then pcieFail stream desc s else s) (s.at t))) := rfl

theorem exec_nvmeCommandComplete (t drive lseq : Nat) (ok : Bool) (s : State) :
    exec (.nvmeCommandComplete t drive lseq ok) s = .next (after t s ((nvmeComplete drive lseq ok) (s.at t))) := rfl

theorem exec_nvmeTimeout (t drive lseq : Nat) (s : State) :
    exec (.nvmeTimeout t drive lseq) s = .next (after t s ((nvmeTimeout drive lseq) (s.at t))) := rfl

theorem exec_controllerFatalStatus (t drive : Nat) (s : State) :
    exec (.controllerFatalStatus t drive) s = .next (after t s ((retireDrive drive) (s.at t))) := rfl

theorem exec_spoolLinkLoss (t drive : Nat) (s : State) :
    exec (.spoolLinkLoss t drive) s = .next (after t s ((retireDrive drive) (s.at t))) := rfl

theorem exec_spoolAttachComplete (t : Nat) (found : Attach) (s : State) :
    exec (.spoolAttachComplete t found) s = .next (after t s ((attachComplete found) (s.at t))) := rfl

theorem exec_spoolFormatComplete (t : Nat) (drives : List DriveInfo) (s : State) :
    exec (.spoolFormatComplete t drives) s = .next (after t s ((formatComplete drives) (s.at t))) := rfl

theorem exec_spoolReplayComplete (t : Nat) (s : State) :
    exec (.spoolReplayComplete t) s = .next (after t s (replayComplete (s.at t))) := rfl

theorem exec_lampRound (t : Nat) (s : State) :
    exec (.lampRound t) s = .next (after t s ((fun s => fadesDone (lampRound s)) (s.at t))) := rfl

theorem exec_lampSlot (t slice : Nat) (s : State) :
    exec (.lampSlot t slice) s = .next (after t s ((lampSlot slice) (s.at t))) := rfl

theorem exec_lampReply (t slice : Nat) (levels : List Bool) (s : State) :
    exec (.lampReply t slice levels) s = .next (after t s ((lampReply slice levels) (s.at t))) := rfl

theorem exec_lampReplyMissing (t slice : Nat) (s : State) :
    exec (.lampReplyMissing t slice) s = .next (after t s ((replyMissing slice) (s.at t))) := rfl

theorem exec_linePulse (t : Nat) (s : State) :
    exec (.linePulse t) s = .next (after t s (pulseNow (s.at t))) := rfl

theorem exec_diagMarker (t : Nat) (s : State) :
    exec (.diagMarker t) s = .next (after t s (diagMarker (s.at t))) := rfl

theorem exec_stringRetry (t string : Nat) (s : State) :
    exec (.stringRetry t string) s = .next (after t s ((stringRetry string) (s.at t))) := rfl

theorem exec_stringUndiagnosed (t string : Nat) (s : State) :
    exec (.stringUndiagnosed t string) s = .next (after t s ((stringUndiagnosed string) (s.at t))) := rfl

theorem exec_lampUndiagnosed (t string : Nat) (s : State) :
    exec (.lampUndiagnosed t string) s = .next (after t s ((lampUndiagnosed string) (s.at t))) := rfl

theorem exec_profileTick (t : Nat) (s : State) :
    exec (.profileTick t) s = .next (after t s (profileTick (s.at t))) := rfl

theorem exec_pwmPeriod (t axis : Nat) (s : State) :
    exec (.pwmPeriod t axis) s = .next (after t s ((pwmPeriod axis) (s.at t))) := rfl

theorem exec_switchEdge (t axis switch : Nat) (level : Bool) (s : State) :
    exec (.switchEdge t axis switch level) s = .next (after t s ((switchEdge axis switch level) (s.at t))) := rfl

theorem exec_driverFault (t axis : Nat) (s : State) :
    exec (.driverFault t axis) s = .next (after t s ((driverFault axis) (s.at t))) := rfl

theorem exec_driverFltClear (t axis : Nat) (s : State) :
    exec (.driverFltClear t axis) s = .next (after t s ((fun s => if axis < 4 then clearFault 0x0604 axis (modAxis axis (fun a => { a with driverFlt := false }) s) else s) (s.at t))) := rfl

theorem exec_supplyLow (t axis : Nat) (s : State) :
    exec (.supplyLow t axis) s = .next (after t s ((supplyLow axis) (s.at t))) := rfl

theorem exec_vmTimeout (t axis : Nat) (s : State) :
    exec (.vmTimeout t axis) s = .next (after t s ((fun s => let a := axisOf s axis; if a.cfg.enable == 1 && decide (a.vmTime + 10000000 ≤ s.now) then faultStop axis s else s) (s.at t))) := rfl

theorem exec_holdCurrent (t axis : Nat) (s : State) :
    exec (.holdCurrent t axis) s = .next (after t s ((fun s => let a := axisOf s axis; if !(axisMoving a) && decide (a.restAt + 100000000 ≤ s.now) then modAxis axis (fun a => { a with holding := true }) s else s) (s.at t))) := rfl

theorem exec_reApproach (t : Nat) (s : State) :
    exec (.reApproach t) s = .next (after t s (reApproach (s.at t))) := rfl

theorem exec_restartCheck (t : Nat) (s : State) :
    exec (.restartCheck t) s = .next (after t s (restartCheck (s.at t))) := rfl

theorem exec_deltaSigmaConversion (t conv : Nat) (raw secondary : Int) (s : State) :
    exec (.deltaSigmaConversion t conv raw secondary) s = .next (after t s ((deltaSigma conv raw secondary) (s.at t))) := rfl

theorem exec_ad2Conversion (t : Nat) (use : Ad2Use) (raw : Int) (s : State) :
    exec (.ad2Conversion t use raw) s = .next (after t s ((ad2Conversion use raw) (s.at t))) := rfl

theorem exec_excitationOverload (t vex : Nat) (s : State) :
    exec (.excitationOverload t vex) s = .next (after t s ((overload vex) (s.at t))) := rfl

theorem exec_staleEvent (t channel : Nat) (s : State) :
    exec (.staleEvent t channel) s = .next (after t s ((staleEvent channel) (s.at t))) := rfl

theorem exec_auxOpen (t channel : Nat) (s : State) :
    exec (.auxOpen t channel) s = .next (after t s ((auxOpenFault channel) (s.at t))) := rfl

theorem exec_selfCalibrationDue (t conv : Nat) (s : State) :
    exec (.selfCalibrationDue t conv) s = .next (after t s ((selfCalDue conv) (s.at t))) := rfl

theorem exec_selfCalibrationComplete (t conv : Nat) (ranges : List CalRange) (s : State) :
    exec (.selfCalibrationComplete t conv ranges) s = .next (after t s ((endSelfCal conv ranges) (s.at t))) := rfl

theorem exec_auxCalComplete (t channel : Nat) (s : State) :
    exec (.auxCalComplete t channel) s = .next (after t s ((endAuxCal channel) (s.at t))) := rfl

theorem exec_shadingResult (t : Nat) (s : State) :
    exec (.shadingResult t) s = .next (after t s (shadingResult (s.at t))) := rfl

theorem exec_lampResult (t : Nat) (s : State) :
    exec (.lampResult t) s = .next (after t s (lampResult (s.at t))) := rfl

theorem exec_nspStatus (t : Nat) (frame : NspFrame) (s : State) :
    exec (.nspStatus t frame) s = .next (after t s ((onAccepted 1 frame id) (s.at t))) := rfl

theorem exec_nspCommand (t : Nat) (frame : NspFrame) (s : State) :
    exec (.nspCommand t frame) s = .next (after t s ((onAccepted 2 frame (stationCommand frame)) (s.at t))) := rfl

theorem exec_nspUpdAnnounce (t : Nat) (frame : NspFrame) (s : State) :
    exec (.nspUpdAnnounce t frame) s = .next (after t s ((onAccepted 0x10 frame (announce frame)) (s.at t))) := rfl

theorem exec_nspUpdPiece (t : Nat) (frame : NspFrame) (flashOk : Bool) (s : State) :
    exec (.nspUpdPiece t frame flashOk) s = .next (after t s ((onAccepted 0x11 frame (nspPiece frame flashOk)) (s.at t))) := rfl

theorem exec_nspUpdSchedule (t : Nat) (frame : NspFrame) (s : State) :
    exec (.nspUpdSchedule t frame) s = .next (after t s ((onAccepted 0x13 frame (nspSchedule frame)) (s.at t))) := rfl

theorem exec_otherFrame (t : Nat) (s : State) :
    exec (.otherFrame t) s = .next (after t s (otherFrame (s.at t))) := rfl

theorem exec_statusFrameSend (t : Nat) (s : State) :
    exec (.statusFrameSend t) s = .next (after t s (sendStatus (s.at t))) := rfl

theorem exec_updNeedSend (t : Nat) (s : State) :
    exec (.updNeedSend t) s = .next (after t s (needDue (s.at t))) := rfl

theorem exec_bucketRefill (t : Nat) (s : State) :
    exec (.bucketRefill t) s = .next (after t s (refill (s.at t))) := rfl

theorem exec_syncMessage (t : Nat) (offset : Int) (s : State) :
    exec (.syncMessage t offset) s = .next (after t s ((syncMessage offset) (s.at t))) := rfl

theorem exec_holdover (t : Nat) (s : State) :
    exec (.holdover t) s = .next (after t s (holdover (s.at t))) := rfl

theorem exec_hostTimeDecay (t : Nat) (s : State) :
    exec (.hostTimeDecay t) s = .next (after t s (hostDecay (s.at t))) := rfl

theorem exec_stnLost (t : Nat) (s : State) :
    exec (.stnLost t) s = .next (after t s (stnLost (s.at t))) := rfl

theorem exec_verificationComplete (t readErrors : Nat) (flashOk : Bool) (s : State) :
    exec (.verificationComplete t readErrors flashOk) s = .next (after t s ((verified readErrors flashOk) (s.at t))) := rfl

theorem exec_activationTime (t : Nat) (s : State) :
    exec (.activationTime t) s = .next (after t s (activationTime (s.at t))) := rfl

theorem exec_activationWindowEnd (t : Nat) (s : State) :
    exec (.activationWindowEnd t) s = .next (after t s (activationWindowEnd (s.at t))) := rfl

theorem exec_switchOverStep (t : Nat) (ok : Bool) (cfg : Option Bank) (s : State) :
    exec (.switchOverStep t ok cfg) s = .next (after t s ((switchStep ok cfg) (s.at t))) := rfl

theorem exec_rollbackStep (t : Nat) (s : State) :
    exec (.rollbackStep t) s = .next (after t s (rollbackStep (s.at t))) := rfl

theorem exec_confirmWindowExpiry (t : Nat) (s : State) :
    exec (.confirmWindowExpiry t) s = .next (after t s (windowExpiry (s.at t))) := rfl

theorem exec_sramError (t store unit addr : Nat) (double : Bool) (s : State) :
    exec (.sramError t store unit addr double) s = .next (after t s ((sramError store unit addr double) (s.at t))) := rfl

theorem exec_hbmError (t addr : Nat) (double : Bool) (s : State) :
    exec (.hbmError t addr double) s = .next (after t s ((hbmError addr double) (s.at t))) := rfl

theorem exec_scrub (t : Nat) (findings : List ScrubFinding) (s : State) :
    exec (.scrub t findings) s = .next (after t s ((scrub findings) (s.at t))) := rfl

theorem exec_jtagUnlock (t : Nat) (signature : List Byte) (s : State) :
    exec (.jtagUnlock t signature) s = .next (after t s ((jtagUnlock signature) (s.at t))) := rfl

theorem exec_secretsErased (t : Nat) (s : State) :
    exec (.secretsErased t) s = .next (after t s (secretsErased (s.at t))) := rfl

theorem exec_authLockoutEnd (t : Nat) (s : State) :
    exec (.authLockoutEnd t) s = .next (after t s (authLockoutEnd (s.at t))) := rfl

theorem exec_energyTick (t : Nat) (s : State) :
    exec (.energyTick t) s = .next (after t s (energyTick (s.at t))) := rfl

theorem exec_clockStepRaise (t : Nat) (queue : FullQueue) (s : State) :
    exec (.clockStepRaise t queue) s = .next (after t s ((clockRaise queue.island queue.level queue.depth queue.fresh) (s.at t))) := rfl

theorem exec_clockStepLower (t : Nat) (quiet : QuietQueues) (s : State) :
    exec (.clockStepLower t quiet) s = .next (after t s ((clockLower quiet.island quiet.cycles) (s.at t))) := rfl

theorem exec_clockStop (t : Nat) (idle : QuietQueues) (s : State) :
    exec (.clockStop t idle) s = .next (after t s ((clockStop idle.island idle.cycles) (s.at t))) := rfl

theorem exec_clockRestart (t island : Nat) (s : State) :
    exec (.clockRestart t island) s = .next (after t s ((clockRestart island) (s.at t))) := rfl

theorem exec_hbmSelfRefresh (t : Nat) (s : State) :
    exec (.hbmSelfRefresh t) s = .next (after t s (selfRefresh (s.at t))) := rfl

theorem exec_sysRstNRise (t : Nat) (s : State) :
    exec (.sysRstNRise t) s = .next (after t s (sysRstRise (s.at t))) := rfl

theorem exec_perstNRise (t : Nat) (s : State) :
    exec (.perstNRise t) s = .next (after t s ((fun s => if s.sys.perstN then s else { s with sys.perstN := true, sys.tPerst := s.now }) (s.at t))) := rfl

theorem exec_modeChangeComplete (t : Nat) (s : State) :
    exec (.modeChangeComplete t) s = .next (after t s (modeChangeComplete (s.at t))) := rfl

theorem exec_peerDelayFrame (t delay : Nat) (s : State) :
    exec (.peerDelayFrame t delay) s = .next (after t s ((peerDelay delay) (s.at t))) := rfl

theorem exec_nspUnacceptedType (t : Nat) (frame : NspFrame) (s : State) :
    exec (.nspUnacceptedType t frame) s = .next (after t s ((fun s => if [3, 4, 0x12].contains frame.kind then (nspTest frame s).2 else s) (s.at t))) := rfl

theorem exec_encFaultClear (t enc : Nat) (s : State) :
    exec (.encFaultClear t enc) s = .next (after t s ((encFaultClear enc) (s.at t))) := rfl

theorem exec_auxAdcRetired (t conv : Nat) (s : State) :
    exec (.auxAdcRetired t conv) s = .next (after t s ((adcRetired conv) (s.at t))) := rfl

theorem exec_shadeLoadComplete (t src : Nat) (s : State) :
    exec (.shadeLoadComplete t src) s = .next (after t s ((shadeLoadComplete src) (s.at t))) := rfl

theorem exec_updPieceComplete (t : Nat) (flashOk : Bool) (s : State) :
    exec (.updPieceComplete t flashOk) s = .next (after t s ((updPieceComplete flashOk) (s.at t))) := rfl

theorem exec_jtagInstruction (t ir : Nat) (s : State) :
    exec (.jtagInstruction t ir) s = .next (after t s ((jtagInstruction ir) (s.at t))) := rfl

theorem exec_registerWrite (t addr : Nat) (data : ByteWrite) (s : State) (h : secondMaster s = false) :
    exec (.registerWrite t addr data) s = .next (after t s (onBar (writeBar0 addr data.enables data.bytes) (s.at t))) := by
  show execRegisterWrite t addr data s = _
  unfold execRegisterWrite
  split
  · rfl
  · exact hostAct_next h

theorem exec_rcRegisterRead (t : Nat) (read : Access) (s : State) (h : secondMaster s = false) :
    exec (.rcRegisterRead t read) s = .next (after t s (onBar (readBar0 read.addr read.count) (s.at t))) := by
  show execRcRegisterRead t read s = _
  unfold execRcRegisterRead
  split
  · exact hostAct_next h
  · rfl

/-- Every row is the effect of its command at its instant, for the one master alone or for anyone. -/
theorem exec_shape (c : Instr) (s : State) : (∃ f, exec c s = run c.time f s) ∨ (∃ f, exec c s = hostAct c.time f s) := by
  cases c with
  | porNFall t => exact .inl ⟨porFall, rfl⟩
  | porNRise t badChannels badLogTags => exact .inl ⟨(porRise badChannels badLogTags), rfl⟩
  | sysRstNFall t => exact .inl ⟨sysRstFall, rfl⟩
  | brownOut t => exact .inl ⟨brownOutStart, rfl⟩
  | brownOutRecovery t => exact .inl ⟨brownOutEnd, rfl⟩
  | xtal25Stop t => exact .inl ⟨xtalLost, rfl⟩
  | xtal25Restart t => exact .inl ⟨xtalBack, rfl⟩
  | thermalTrip t sensor => exact .inl ⟨(thermalTrip sensor), rfl⟩
  | thermalTripRelease t => exact .inl ⟨thermalRelease, rfl⟩
  | mailboxServiceStart t cfg => exact .inl ⟨(serviceStart cfg), rfl⟩
  | bootComplete t slotOk => exact .inl ⟨(bootComplete slotOk), rfl⟩
  | pcieLinkUp t rate width => exact .inl ⟨(onBar (linkUp rate width)), rfl⟩
  | configSpaceReady t => exact .inl ⟨(fun s => if s.sys.perstN && s.sys.mode != .reset && decide (s.sys.tPerst + 100000000 ≤ s.now) then { s with sys.cfgReady := true } else s), rfl⟩
  | hostInterfaceReset t kind => exact .inl ⟨(onBar (hostReset kind)), rfl⟩
  | linkRateChange t rate width => exact .inl ⟨(onBar (fun s => if s.host.rate = 0 then s else { s with host.rate := rate % 8, host.width := width % 32 })), rfl⟩
  | mbDoorbell t mb token => exact .inr ⟨(onBar (fun s => if mb < 4 then doorbell mb token s else accessErr s)), rfl⟩
  | ringTailWrite t stream tail => exact .inl ⟨(onBar (fun s => if stream < 8 then tailWrite stream tail (busMaster s) else accessErr s)), rfl⟩
  | evqHeadWrite t head => exact .inl ⟨(onBar (writeHead head)), rfl⟩
  | evqEnable t => exact .inr ⟨(onBar enableEvq), rfl⟩
  | evqArmed t => exact .inr ⟨(onBar armEvq), rfl⟩
  | evqVector t vector => exact .inr ⟨(onBar (setVector vector)), rfl⟩
  | registerWrite t addr data => exact execRegisterWrite_shape t addr data s
  | reservedAccess t addr bytes write => exact .inl ⟨(onBar (reservedAccess addr bytes write)), rfl⟩
  | rcRegisterRead t read => exact execRcRegisterRead_shape t read s
  | snapshotLoRead t pair => exact .inr ⟨(onBar (readPair pair 4)), rfl⟩
  | snapshotPairRead t pair => exact .inr ⟨(onBar (readPair pair 8)), rfl⟩
  | auxStatusRead t channel => exact .inl ⟨(onBar (auxStatusRead channel)), rfl⟩
  | bar2Write t offset bytes => exact .inr ⟨(onBar (bar2Write offset bytes)), rfl⟩
  | bar2Read t offset count => exact .inl ⟨(onBar (bar2Read offset count)), rfl⟩
  | msixUnmask t vector => exact .inl ⟨(onBar (fun s => if vector < 64 then setMask vector false s else s)), rfl⟩
  | eventWrite t => exact .inl ⟨drainOne, rfl⟩
  | coalesceTimer t => exact .inl ⟨coalesceOver, rfl⟩
  | devInfo t src => exact .inl ⟨(serve cmdDevInfo src), rfl⟩
  | devReset t src => exact .inl ⟨(serve cmdDevReset src), rfl⟩
  | modeSet t src => exact .inl ⟨(serve cmdModeSet src), rfl⟩
  | modeGet t src => exact .inl ⟨(serve cmdModeGet src), rfl⟩
  | datumCfg t src => exact .inl ⟨(serve cmdDatumCfg src), rfl⟩
  | datumForce t src => exact .inl ⟨(serve cmdDatumForce src), rfl⟩
  | stageCommit t src => exact .inl ⟨(serve cmdStageCommit src), rfl⟩
  | portCfg t src => exact .inl ⟨(serve cmdPortCfg src), rfl⟩
  | portTrain t src => exact .inl ⟨(serve cmdPortTrain src), rfl⟩
  | portReadmit t src => exact .inl ⟨(serve cmdPortReadmit src), rfl⟩
  | portStat t src => exact .inl ⟨(serve cmdPortStat src), rfl⟩
  | encCfg t src => exact .inl ⟨(serve cmdEncCfg src), rfl⟩
  | transitCfg t src => exact .inl ⟨(serve cmdTransitCfg src), rfl⟩
  | expoSet t src => exact .inl ⟨(serve cmdExpoSet src), rfl⟩
  | posRead t src => exact .inl ⟨(serve cmdPosRead src), rfl⟩
  | shadeLoad t src => exact .inl ⟨(serve cmdShadeLoad src), rfl⟩
  | shadeRead t src => exact .inl ⟨(serve cmdShadeRead src), rfl⟩
  | polyLoad t src => exact .inl ⟨(serve cmdPolyLoad src), rfl⟩
  | defectMap t src => exact .inl ⟨(serve cmdDefectMap src), rfl⟩
  | baselineCfg t src => exact .inl ⟨(serve cmdBaselineCfg src), rfl⟩
  | seamCfg t src => exact .inl ⟨(serve cmdSeamCfg src), rfl⟩
  | regionSet t src => exact .inl ⟨(serve cmdRegionSet src), rfl⟩
  | selvedgeCfg t src => exact .inl ⟨(serve cmdSelvedgeCfg src), rfl⟩
  | calRun t src => exact .inl ⟨(serve cmdCalRun src), rfl⟩
  | calStatus t src => exact .inl ⟨(serve cmdCalStatus src), rfl⟩
  | calLimits t src => exact .inl ⟨(serve cmdCalLimits src), rfl⟩
  | calApply t src => exact .inl ⟨(serve cmdCalApply src), rfl⟩
  | codeTableLoad t src => exact .inl ⟨(serve cmdCodeTableLoad src), rfl⟩
  | codecJob t src => exact .inl ⟨(serve cmdCodecJob src), rfl⟩
  | codecJobStat t src => exact .inl ⟨(serve cmdCodecJobStat src), rfl⟩
  | streamOpen t src => exact .inl ⟨(serve cmdStreamOpen src), rfl⟩
  | streamClose t src => exact .inl ⟨(serve cmdStreamClose src), rfl⟩
  | ringCfg t src => exact .inl ⟨(serve cmdRingCfg src), rfl⟩
  | spoolCfg t src => exact .inl ⟨(serve cmdSpoolCfg src), rfl⟩
  | spoolReplay t src => exact .inl ⟨(serve cmdSpoolReplay src), rfl⟩
  | spoolStat t src => exact .inl ⟨(serve cmdSpoolStat src), rfl⟩
  | lampMap t src => exact .inl ⟨(serve cmdLampMap src), rfl⟩
  | lampSet t src => exact .inl ⟨(serve cmdLampSet src), rfl⟩
  | lampCurve t src => exact .inl ⟨(serve cmdLampCurve src), rfl⟩
  | lampDerate t src => exact .inl ⟨(serve cmdLampDerate src), rfl⟩
  | lampGroup t src => exact .inl ⟨(serve cmdLampGroup src), rfl⟩
  | lampStat t src => exact .inl ⟨(serve cmdLampStat src), rfl⟩
  | lampRearm t src => exact .inl ⟨(serve cmdLampRearm src), rfl⟩
  | axisCfg t src => exact .inl ⟨(serve cmdAxisCfg src), rfl⟩
  | axisMove t src => exact .inl ⟨(serve cmdAxisMove src), rfl⟩
  | axisHome t src => exact .inl ⟨(serve cmdAxisHome src), rfl⟩
  | axisStop t src => exact .inl ⟨(serve cmdAxisStop src), rfl⟩
  | axisStat t src => exact .inl ⟨(serve cmdAxisStat src), rfl⟩
  | proofCfg t src => exact .inl ⟨(serve cmdProofCfg src), rfl⟩
  | auxCfg t src => exact .inl ⟨(serve cmdAuxCfg src), rfl⟩
  | auxSeq t src => exact .inl ⟨(serve cmdAuxSeq src), rfl⟩
  | auxRead t src => exact .inl ⟨(serve cmdAuxRead src), rfl⟩
  | auxPoly t src => exact .inl ⟨(serve cmdAuxPoly src), rfl⟩
  | auxCal t src => exact .inl ⟨(serve cmdAuxCal src), rfl⟩
  | stnCfg t src => exact .inl ⟨(serve cmdStnCfg src), rfl⟩
  | timeCfg t src => exact .inl ⟨(serve cmdTimeCfg src), rfl⟩
  | updBegin t src => exact .inl ⟨(serve cmdUpdBegin src), rfl⟩
  | updPiece t src nothing => exact .inl ⟨(serve cmdUpdPiece src), rfl⟩
  | updStatus t src => exact .inl ⟨(serve cmdUpdStatus src), rfl⟩
  | updSchedule t src => exact .inl ⟨(serve cmdUpdSchedule src), rfl⟩
  | updConfirm t src => exact .inl ⟨(serve cmdUpdConfirm src), rfl⟩
  | updAbort t src => exact .inl ⟨(serve cmdUpdAbort src), rfl⟩
  | faultLog t src => exact .inl ⟨(serve cmdFaultLog src), rfl⟩
  | faultPolicy t src => exact .inl ⟨(serve cmdFaultPolicy src), rfl⟩
  | debugOpen t src => exact .inl ⟨(serve cmdDebugOpen src), rfl⟩
  | keyProvision t src nothing => exact .inl ⟨(serve cmdKeyProvision src), rfl⟩
  | diagLoopback t src => exact .inl ⟨(serve cmdDiagLoopback src), rfl⟩
  | energyRead t src => exact .inl ⟨(serve cmdEnergyRead src), rfl⟩
  | loopbackComplete t errors => exact .inl ⟨(loopbackComplete errors), rfl⟩
  | pipelineArmed t => exact .inl ⟨pipelineArmed, rfl⟩
  | orderlyStopComplete t => exact .inl ⟨orderlyStopComplete, rfl⟩
  | stopTimeout t => exact .inl ⟨stopTimeout, rfl⟩
  | encoderEdge t edge a b => exact .inl ⟨(heldEdge edge.input edge.held a b), rfl⟩
  | stillTimeout t => exact .inl ⟨stillTimeout, rfl⟩
  | cueEdge t edge rising => exact .inl ⟨(heldCue edge.input edge.held rising), rfl⟩
  | windowClose t => exact .inl ⟨windowClose, rfl⟩
  | freeze t => exact .inl ⟨freezeSpec, rfl⟩
  | syncRise t port => exact .inl ⟨(syncRise port), rfl⟩
  | syncFall t port => exact .inl ⟨(syncFall port), rfl⟩
  | verdictDeadline t => exact .inl ⟨(fun s => pruneTiming (judgeDeadline s)), rfl⟩
  | bankRelease t => exact .inl ⟨bankRelease, rfl⟩
  | tilePacket t port idles blocks => exact .inl ⟨(rowsIn port idles blocks), rfl⟩
  | alignmentRow t port idles blocks => exact .inl ⟨(rowsIn port idles blocks), rfl⟩
  | blockLockLoss t port heard => exact .inl ⟨(headersIn port heard.ball heard.headers), rfl⟩
  | lateError t port => exact .inl ⟨(lateError port), rfl⟩
  | trainingComplete t port ok => exact .inl ⟨(trainingOver port ok), rfl⟩
  | retrainComplete t port ok laneOrder polarity skew => exact .inl ⟨(retrainOver port ok laneOrder polarity skew), rfl⟩
  | retrainRetry t port => exact .inl ⟨(retrainRetry port), rfl⟩
  | lockLoss t port lane => exact .inl ⟨(lockLoss port lane), rfl⟩
  | ctlTransaction t port write addr data => exact .inl ⟨(ctlTransaction port write addr data), rfl⟩
  | ctlReply t port levels => exact .inl ⟨(ctlReply port levels), rfl⟩
  | ctlReplyLost t port => exact .inl ⟨(ctlTimeout port), rfl⟩
  | collapseComplete t => exact .inl ⟨collapseComplete, rfl⟩
  | runningWhiteBlock t side slot => exact .inl ⟨(rwBlock side slot), rfl⟩
  | outputLine t => exact .inl ⟨outputLine, rfl⟩
  | staggerDbe t port slot line row => exact .inl ⟨(staggerDbe port slot line row), rfl⟩
  | hbmRowRemap t row => exact .inl ⟨(rowRemap row), rfl⟩
  | boltDispatch t stream => exact .inl ⟨(fun s => if stream < 8 then dispatchBolt stream s else s), rfl⟩
  | boltCoded t stream seq => exact .inl ⟨(fun s => if stream < 8 then boltCoded stream seq s else s), rfl⟩
  | codecJobStart t decompress source tables => exact .inl ⟨(startJob decompress source tables), rfl⟩
  | codecJobComplete t decompress => exact .inl ⟨(completeJob decompress), rfl⟩
  | descriptorFetch t stream bytes => exact .inl ⟨(fun s => if stream < 8 then descriptorFetch stream bytes s else s), rfl⟩
  | itemDelivery t stream => exact .inl ⟨(fun s => if stream < 8 then itemDelivery stream s else s), rfl⟩
  | flushAge t stream => exact .inl ⟨(fun s => if stream < 8 then flushAge stream s else s), rfl⟩
  | flushRecordTimeout t stream => exact .inl ⟨(fun s => if stream < 8 then flushRecord stream s else s), rfl⟩
  | backlogBufferEarly t stream => exact .inl ⟨(fun s => if stream < 8 then backlogEarly stream s else s), rfl⟩
  | refugeAdmit t stream => exact .inl ⟨(fun s => if stream < 8 then refugeAdmit stream s else s), rfl⟩
  | proofResumeAllow t => exact .inl ⟨proofResume, rfl⟩
  | spill t => exact .inl ⟨spill, rfl⟩
  | catchup t stream => exact .inl ⟨(fun s => if stream < 8 then startCatchup stream s else s), rfl⟩
  | pcieError t stream desc => exact .inl ⟨(fun s => if stream < 8 then pcieFail stream desc s else s), rfl⟩
  | pcieCompletionTimeout t stream desc => exact .inl ⟨(fun s => if stream < 8 then pcieFail stream desc s else s), rfl⟩
  | nvmeCommandComplete t drive lseq ok => exact .inl ⟨(nvmeComplete drive lseq ok), rfl⟩
  | nvmeTimeout t drive lseq => exact .inl ⟨(nvmeTimeout drive lseq), rfl⟩
  | controllerFatalStatus t drive => exact .inl ⟨(retireDrive drive), rfl⟩
  | spoolLinkLoss t drive => exact .inl ⟨(retireDrive drive), rfl⟩
  | spoolAttachComplete t found => exact .inl ⟨(attachComplete found), rfl⟩
  | spoolFormatComplete t drives => exact .inl ⟨(formatComplete drives), rfl⟩
  | spoolReplayComplete t => exact .inl ⟨replayComplete, rfl⟩
  | lampRound t => exact .inl ⟨(fun s => fadesDone (lampRound s)), rfl⟩
  | lampSlot t slice => exact .inl ⟨(lampSlot slice), rfl⟩
  | lampReply t slice levels => exact .inl ⟨(lampReply slice levels), rfl⟩
  | lampReplyMissing t slice => exact .inl ⟨(replyMissing slice), rfl⟩
  | linePulse t => exact .inl ⟨pulseNow, rfl⟩
  | diagMarker t => exact .inl ⟨diagMarker, rfl⟩
  | stringRetry t string => exact .inl ⟨(stringRetry string), rfl⟩
  | stringUndiagnosed t string => exact .inl ⟨(stringUndiagnosed string), rfl⟩
  | lampUndiagnosed t string => exact .inl ⟨(lampUndiagnosed string), rfl⟩
  | profileTick t => exact .inl ⟨profileTick, rfl⟩
  | pwmPeriod t axis => exact .inl ⟨(pwmPeriod axis), rfl⟩
  | switchEdge t axis switch level => exact .inl ⟨(switchEdge axis switch level), rfl⟩
  | driverFault t axis => exact .inl ⟨(driverFault axis), rfl⟩
  | driverFltClear t axis => exact .inl ⟨(fun s => if axis < 4 then clearFault 0x0604 axis (modAxis axis (fun a => { a with driverFlt := false }) s) else s), rfl⟩
  | supplyLow t axis => exact .inl ⟨(supplyLow axis), rfl⟩
  | vmTimeout t axis => exact .inl ⟨(fun s => let a := axisOf s axis; if a.cfg.enable == 1 && decide (a.vmTime + 10000000 ≤ s.now) then faultStop axis s else s), rfl⟩
  | holdCurrent t axis => exact .inl ⟨(fun s => let a := axisOf s axis; if !(axisMoving a) && decide (a.restAt + 100000000 ≤ s.now) then modAxis axis (fun a => { a with holding := true }) s else s), rfl⟩
  | reApproach t => exact .inl ⟨reApproach, rfl⟩
  | restartCheck t => exact .inl ⟨restartCheck, rfl⟩
  | deltaSigmaConversion t conv raw secondary => exact .inl ⟨(deltaSigma conv raw secondary), rfl⟩
  | ad2Conversion t use raw => exact .inl ⟨(ad2Conversion use raw), rfl⟩
  | excitationOverload t vex => exact .inl ⟨(overload vex), rfl⟩
  | staleEvent t channel => exact .inl ⟨(staleEvent channel), rfl⟩
  | auxOpen t channel => exact .inl ⟨(auxOpenFault channel), rfl⟩
  | selfCalibrationDue t conv => exact .inl ⟨(selfCalDue conv), rfl⟩
  | selfCalibrationComplete t conv ranges => exact .inl ⟨(endSelfCal conv ranges), rfl⟩
  | auxCalComplete t channel => exact .inl ⟨(endAuxCal channel), rfl⟩
  | shadingResult t => exact .inl ⟨shadingResult, rfl⟩
  | lampResult t => exact .inl ⟨lampResult, rfl⟩
  | nspStatus t frame => exact .inl ⟨(onAccepted 1 frame id), rfl⟩
  | nspCommand t frame => exact .inl ⟨(onAccepted 2 frame (stationCommand frame)), rfl⟩
  | nspUpdAnnounce t frame => exact .inl ⟨(onAccepted 0x10 frame (announce frame)), rfl⟩
  | nspUpdPiece t frame flashOk => exact .inl ⟨(onAccepted 0x11 frame (nspPiece frame flashOk)), rfl⟩
  | nspUpdSchedule t frame => exact .inl ⟨(onAccepted 0x13 frame (nspSchedule frame)), rfl⟩
  | otherFrame t => exact .inl ⟨otherFrame, rfl⟩
  | statusFrameSend t => exact .inl ⟨sendStatus, rfl⟩
  | updNeedSend t => exact .inl ⟨needDue, rfl⟩
  | bucketRefill t => exact .inl ⟨refill, rfl⟩
  | syncMessage t offset => exact .inl ⟨(syncMessage offset), rfl⟩
  | holdover t => exact .inl ⟨holdover, rfl⟩
  | hostTimeDecay t => exact .inl ⟨hostDecay, rfl⟩
  | stnLost t => exact .inl ⟨stnLost, rfl⟩
  | verificationComplete t readErrors flashOk => exact .inl ⟨(verified readErrors flashOk), rfl⟩
  | activationTime t => exact .inl ⟨activationTime, rfl⟩
  | activationWindowEnd t => exact .inl ⟨activationWindowEnd, rfl⟩
  | switchOverStep t ok cfg => exact .inl ⟨(switchStep ok cfg), rfl⟩
  | rollbackStep t => exact .inl ⟨rollbackStep, rfl⟩
  | confirmWindowExpiry t => exact .inl ⟨windowExpiry, rfl⟩
  | sramError t store unit addr double => exact .inl ⟨(sramError store unit addr double), rfl⟩
  | hbmError t addr double => exact .inl ⟨(hbmError addr double), rfl⟩
  | scrub t findings => exact .inl ⟨(scrub findings), rfl⟩
  | jtagUnlock t signature => exact .inl ⟨(jtagUnlock signature), rfl⟩
  | secretsErased t => exact .inl ⟨secretsErased, rfl⟩
  | authLockoutEnd t => exact .inl ⟨authLockoutEnd, rfl⟩
  | energyTick t => exact .inl ⟨energyTick, rfl⟩
  | clockStepRaise t queue => exact .inl ⟨(clockRaise queue.island queue.level queue.depth queue.fresh), rfl⟩
  | clockStepLower t quiet => exact .inl ⟨(clockLower quiet.island quiet.cycles), rfl⟩
  | clockStop t idle => exact .inl ⟨(clockStop idle.island idle.cycles), rfl⟩
  | clockRestart t island => exact .inl ⟨(clockRestart island), rfl⟩
  | hbmSelfRefresh t => exact .inl ⟨selfRefresh, rfl⟩
  | sysRstNRise t => exact .inl ⟨sysRstRise, rfl⟩
  | perstNRise t => exact .inl ⟨(fun s => if s.sys.perstN then s else { s with sys.perstN := true, sys.tPerst := s.now }), rfl⟩
  | modeChangeComplete t => exact .inl ⟨modeChangeComplete, rfl⟩
  | peerDelayFrame t delay => exact .inl ⟨(peerDelay delay), rfl⟩
  | nspUnacceptedType t frame => exact .inl ⟨(fun s => if [3, 4, 0x12].contains frame.kind then (nspTest frame s).2 else s), rfl⟩
  | encFaultClear t enc => exact .inl ⟨(encFaultClear enc), rfl⟩
  | auxAdcRetired t conv => exact .inl ⟨(adcRetired conv), rfl⟩
  | shadeLoadComplete t src => exact .inl ⟨(shadeLoadComplete src), rfl⟩
  | updPieceComplete t flashOk => exact .inl ⟨(updPieceComplete flashOk), rfl⟩
  | jtagInstruction t ir => exact .inl ⟨(jtagInstruction ir), rfl⟩

end Sys2Proof.Machine
end

