-- ==== Sys2Proof/Laws/Ops.lean ====
section
/-! SUPPORT. What each shared operation of Ops.lean can do: which parts of the state it may change. -/

namespace Sys2Proof.Machine

open Sys2Proof

/-- A signal sets a pending bit or sends a message. -/
theorem signal_frame (v : Nat) (s : State) : ∃ (h : HostSt) (o : List Out), signal v s = { s with host := h, out := o } := by
  unfold signal fire emit
  repeat' split
  all_goals exact ⟨_, _, rfl⟩

/-- Writing an entry changes the event queue and the interrupts. -/
theorem writeEntry_frame (e : Event) (s : State) : ∃ (h : HostSt) (o : List Out), writeEntry e s = { s with host := h, out := o } := by
  unfold writeEntry signalEvq signal fire emit
  dsimp only
  repeat' split
  all_goals exact ⟨_, _, rfl⟩

/-- Sending a frame changes the station's own counters. -/
theorem nspSend_frame (mac kind dst : Nat) (p : List Byte) (s : State) : ∃ (n : StnSt) (o : List Out), nspSend mac kind dst p s = { s with stn := n, out := o } := by
  unfold nspSend emit
  dsimp only
  split <;> exact ⟨_, _, rfl⟩

/-- Posting an event changes the event queue, the interrupts and the station's counters, nothing else. -/
theorem post_frame (type source : Nat) (p : List Byte) (s : State) :
    ∃ (h : HostSt) (n : StnSt) (o : List Out), post type source p s = { s with host := h, stn := n, out := o } := by
  unfold post nspMaster
  dsimp only
  generalize ({ type := type, source := source, eseq := s.host.evq.eseq, time := stationTime s, unsync := unsync s, payload := p } : Event) = e
  have w : ∃ (h : HostSt) (n : StnSt) (o : List Out), (if (forwarded type source && s.stn.cfg.master != 255) = true
      then nspSend s.stn.cfg.mac 4 s.stn.cfg.master (entryBytes s.host.evq e) { s with host.evq.eseq := wrapInc 32 s.host.evq.eseq }
      else { s with host.evq.eseq := wrapInc 32 s.host.evq.eseq }) = { s with host := h, stn := n, out := o } := by
    split
    · obtain ⟨n, o, w⟩ := nspSend_frame s.stn.cfg.mac 4 s.stn.cfg.master (entryBytes s.host.evq e) { s with host.evq.eseq := wrapInc 32 s.host.evq.eseq }
      exact ⟨_, n, o, w⟩
    · exact ⟨_, s.stn, s.out, rfl⟩
  obtain ⟨h, n, o, w⟩ := w
  rw [w]
  obtain ⟨h', o', w'⟩ := writeEntry_frame e { s with host := h, stn := n, out := o }
  rw [w']
  repeat' split
  all_goals exact ⟨_, _, _, rfl⟩

/-- At most one event per interval: no more than a post can do. -/
theorem postLimited_frame (i type source kind : Nat) (p : List Byte) (s : State) :
    ∃ (h : HostSt) (n : StnSt) (o : List Out), postLimited i type source kind p s = { s with host := h, stn := n, out := o } := by
  unfold postLimited
  dsimp only
  split
  · exact ⟨_, _, _, rfl⟩
  · obtain ⟨h, n, o, w⟩ := post_frame type source p { s with host.evq.limited := tset 0 (type * 2 ^ 24 + source * 2 ^ 8 + kind) (s.now + 1) s.host.evq.limited }
    rw [w]
    exact ⟨_, _, _, rfl⟩

theorem logFault_frame (code res action : Nat) (d : List Byte) (s : State) : ∃ f : FltSt, logFault code res action d s = { s with flt := f } := ⟨_, rfl⟩

/-- Raising a fault changes the fault state; its action follows when the step settles. -/
theorem raiseWith_frame (code res : Nat) (d : List Byte) (g : Nat) (s : State) : ∃ f : FltSt, raiseWith code res d g s = { s with flt := f } := by
  unfold raiseWith logFault
  dsimp only
  repeat' split
  all_goals exact ⟨_, rfl⟩

theorem raise_frame (code res : Nat) (s : State) : ∃ f : FltSt, raise code res s = { s with flt := f } := raiseWith_frame _ _ _ _ _

/-- Completing an accepted command removes it and posts its event. -/
theorem complete_frame (f : Pend → Bool) (status detail result : Nat) (s : State) :
    ∃ (h : HostSt) (n : StnSt) (o : List Out), complete f status detail result s = { s with host := h, stn := n, out := o } := by
  unfold complete postDone
  split
  · exact ⟨_, _, _, rfl⟩
  · rename_i p _
    obtain ⟨h, n, o, w⟩ := post_frame evCmdDone (if p.src = 4 then 0x10 else p.src)
      (layout 16 [(0, 2, p.opcode), (2, 2, status), (4, 4, p.seq), (8, 4, p.token), (12, 2, detail), (14, 2, result)]) { s with host.outstanding := s.host.outstanding.erase p }
    rw [w]
    exact ⟨_, _, _, rfl⟩

end Sys2Proof.Machine
end

