-- ==== Sys2Proof/Laws/PerInstr.lean ====
section
/-! SUPPORT. The laws that hold of every command as syntax, one lemma per constructor. -/

namespace Sys2Proof.Laws.Timed

open Sys2Proof

/-- A command's instant is a coordinate of its own: setting it is read back, does not touch the ranges of the operands, and setting it to what it was changes nothing (log 1). -/
def Statement (i : Instr) : Prop :=
  (∀ u, (i.retime u).time = u) ∧ (∀ u, (i.retime u).wf = i.wf) ∧ i.retime i.time = i

theorem porNFall {t} : Statement (.porNFall t) := ⟨fun _ => rfl, fun _ => rfl, rfl⟩
theorem porNRise {t a b} : Statement (.porNRise t a b) := ⟨fun _ => rfl, fun _ => rfl, rfl⟩
theorem sysRstNFall {t} : Statement (.sysRstNFall t) := ⟨fun _ => rfl, fun _ => rfl, rfl⟩
theorem brownOut {t} : Statement (.brownOut t) := ⟨fun _ => rfl, fun _ => rfl, rfl⟩
theorem brownOutRecovery {t} : Statement (.brownOutRecovery t) := ⟨fun _ => rfl, fun _ => rfl, rfl⟩
theorem xtal25Stop {t} : Statement (.xtal25Stop t) := ⟨fun _ => rfl, fun _ => rfl, rfl⟩
theorem xtal25Restart {t} : Statement (.xtal25Restart t) := ⟨fun _ => rfl, fun _ => rfl, rfl⟩
theorem thermalTrip {t a} : Statement (.thermalTrip t a) := ⟨fun _ => rfl, fun _ => rfl, rfl⟩
theorem thermalTripRelease {t} : Statement (.thermalTripRelease t) := ⟨fun _ => rfl, fun _ => rfl, rfl⟩
theorem mailboxServiceStart {t a} : Statement (.mailboxServiceStart t a) := ⟨fun _ => rfl, fun _ => rfl, rfl⟩
theorem bootComplete {t a} : Statement (.bootComplete t a) := ⟨fun _ => rfl, fun _ => rfl, rfl⟩
theorem pcieLinkUp {t a b} : Statement (.pcieLinkUp t a b) := ⟨fun _ => rfl, fun _ => rfl, rfl⟩
theorem configSpaceReady {t} : Statement (.configSpaceReady t) := ⟨fun _ => rfl, fun _ => rfl, rfl⟩
theorem hostInterfaceReset {t a} : Statement (.hostInterfaceReset t a) := ⟨fun _ => rfl, fun _ => rfl, rfl⟩
theorem linkRateChange {t a b} : Statement (.linkRateChange t a b) := ⟨fun _ => rfl, fun _ => rfl, rfl⟩
theorem mbDoorbell {t a b} : Statement (.mbDoorbell t a b) := ⟨fun _ => rfl, fun _ => rfl, rfl⟩
theorem ringTailWrite {t a b} : Statement (.ringTailWrite t a b) := ⟨fun _ => rfl, fun _ => rfl, rfl⟩
theorem evqHeadWrite {t a} : Statement (.evqHeadWrite t a) := ⟨fun _ => rfl, fun _ => rfl, rfl⟩
theorem evqEnable {t} : Statement (.evqEnable t) := ⟨fun _ => rfl, fun _ => rfl, rfl⟩
theorem evqArmed {t} : Statement (.evqArmed t) := ⟨fun _ => rfl, fun _ => rfl, rfl⟩
theorem evqVector {t a} : Statement (.evqVector t a) := ⟨fun _ => rfl, fun _ => rfl, rfl⟩
theorem registerWrite {t a b} : Statement (.registerWrite t a b) := ⟨fun _ => rfl, fun _ => rfl, rfl⟩
theorem reservedAccess {t a b c} : Statement (.reservedAccess t a b c) := ⟨fun _ => rfl, fun _ => rfl, rfl⟩
theorem rcRegisterRead {t a} : Statement (.rcRegisterRead t a) := ⟨fun _ => rfl, fun _ => rfl, rfl⟩
theorem snapshotLoRead {t a} : Statement (.snapshotLoRead t a) := ⟨fun _ => rfl, fun _ => rfl, rfl⟩
theorem snapshotPairRead {t a} : Statement (.snapshotPairRead t a) := ⟨fun _ => rfl, fun _ => rfl, rfl⟩
theorem auxStatusRead {t a} : Statement (.auxStatusRead t a) := ⟨fun _ => rfl, fun _ => rfl, rfl⟩
theorem bar2Write {t a b} : Statement (.bar2Write t a b) := ⟨fun _ => rfl, fun _ => rfl, rfl⟩
theorem bar2Read {t a b} : Statement (.bar2Read t a b) := ⟨fun _ => rfl, fun _ => rfl, rfl⟩
theorem msixUnmask {t a} : Statement (.msixUnmask t a) := ⟨fun _ => rfl, fun _ => rfl, rfl⟩
theorem eventWrite {t} : Statement (.eventWrite t) := ⟨fun _ => rfl, fun _ => rfl, rfl⟩
theorem coalesceTimer {t} : Statement (.coalesceTimer t) := ⟨fun _ => rfl, fun _ => rfl, rfl⟩
theorem devInfo {t a} : Statement (.devInfo t a) := ⟨fun _ => rfl, fun _ => rfl, rfl⟩
theorem devReset {t a} : Statement (.devReset t a) := ⟨fun _ => rfl, fun _ => rfl, rfl⟩
theorem modeSet {t a} : Statement (.modeSet t a) := ⟨fun _ => rfl, fun _ => rfl, rfl⟩
theorem modeGet {t a} : Statement (.modeGet t a) := ⟨fun _ => rfl, fun _ => rfl, rfl⟩
theorem datumCfg {t a} : Statement (.datumCfg t a) := ⟨fun _ => rfl, fun _ => rfl, rfl⟩
theorem datumForce {t a} : Statement (.datumForce t a) := ⟨fun _ => rfl, fun _ => rfl, rfl⟩
theorem stageCommit {t a} : Statement (.stageCommit t a) := ⟨fun _ => rfl, fun _ => rfl, rfl⟩
theorem portCfg {t a} : Statement (.portCfg t a) := ⟨fun _ => rfl, fun _ => rfl, rfl⟩
theorem portTrain {t a} : Statement (.portTrain t a) := ⟨fun _ => rfl, fun _ => rfl, rfl⟩
theorem portReadmit {t a} : Statement (.portReadmit t a) := ⟨fun _ => rfl, fun _ => rfl, rfl⟩
theorem portStat {t a} : Statement (.portStat t a) := ⟨fun _ => rfl, fun _ => rfl, rfl⟩
theorem encCfg {t a} : Statement (.encCfg t a) := ⟨fun _ => rfl, fun _ => rfl, rfl⟩
theorem transitCfg {t a} : Statement (.transitCfg t a) := ⟨fun _ => rfl, fun _ => rfl, rfl⟩
theorem expoSet {t a} : Statement (.expoSet t a) := ⟨fun _ => rfl, fun _ => rfl, rfl⟩
theorem posRead {t a} : Statement (.posRead t a) := ⟨fun _ => rfl, fun _ => rfl, rfl⟩
theorem shadeLoad {t a} : Statement (.shadeLoad t a) := ⟨fun _ => rfl, fun _ => rfl, rfl⟩
theorem shadeRead {t a} : Statement (.shadeRead t a) := ⟨fun _ => rfl, fun _ => rfl, rfl⟩
theorem polyLoad {t a} : Statement (.polyLoad t a) := ⟨fun _ => rfl, fun _ => rfl, rfl⟩
theorem defectMap {t a} : Statement (.defectMap t a) := ⟨fun _ => rfl, fun _ => rfl, rfl⟩
theorem baselineCfg {t a} : Statement (.baselineCfg t a) := ⟨fun _ => rfl, fun _ => rfl, rfl⟩
theorem seamCfg {t a} : Statement (.seamCfg t a) := ⟨fun _ => rfl, fun _ => rfl, rfl⟩
theorem regionSet {t a} : Statement (.regionSet t a) := ⟨fun _ => rfl, fun _ => rfl, rfl⟩
theorem selvedgeCfg {t a} : Statement (.selvedgeCfg t a) := ⟨fun _ => rfl, fun _ => rfl, rfl⟩
theorem calRun {t a} : Statement (.calRun t a) := ⟨fun _ => rfl, fun _ => rfl, rfl⟩
theorem calStatus {t a} : Statement (.calStatus t a) := ⟨fun _ => rfl, fun _ => rfl, rfl⟩
theorem calLimits {t a} : Statement (.calLimits t a) := ⟨fun _ => rfl, fun _ => rfl, rfl⟩
theorem calApply {t a} : Statement (.calApply t a) := ⟨fun _ => rfl, fun _ => rfl, rfl⟩
theorem codeTableLoad {t a} : Statement (.codeTableLoad t a) := ⟨fun _ => rfl, fun _ => rfl, rfl⟩
theorem codecJob {t a} : Statement (.codecJob t a) := ⟨fun _ => rfl, fun _ => rfl, rfl⟩
theorem codecJobStat {t a} : Statement (.codecJobStat t a) := ⟨fun _ => rfl, fun _ => rfl, rfl⟩
theorem streamOpen {t a} : Statement (.streamOpen t a) := ⟨fun _ => rfl, fun _ => rfl, rfl⟩
theorem streamClose {t a} : Statement (.streamClose t a) := ⟨fun _ => rfl, fun _ => rfl, rfl⟩
theorem ringCfg {t a} : Statement (.ringCfg t a) := ⟨fun _ => rfl, fun _ => rfl, rfl⟩
theorem spoolCfg {t a} : Statement (.spoolCfg t a) := ⟨fun _ => rfl, fun _ => rfl, rfl⟩
theorem spoolReplay {t a} : Statement (.spoolReplay t a) := ⟨fun _ => rfl, fun _ => rfl, rfl⟩
theorem spoolStat {t a} : Statement (.spoolStat t a) := ⟨fun _ => rfl, fun _ => rfl, rfl⟩
theorem lampMap {t a} : Statement (.lampMap t a) := ⟨fun _ => rfl, fun _ => rfl, rfl⟩
theorem lampSet {t a} : Statement (.lampSet t a) := ⟨fun _ => rfl, fun _ => rfl, rfl⟩
theorem lampCurve {t a} : Statement (.lampCurve t a) := ⟨fun _ => rfl, fun _ => rfl, rfl⟩
theorem lampDerate {t a} : Statement (.lampDerate t a) := ⟨fun _ => rfl, fun _ => rfl, rfl⟩
theorem lampGroup {t a} : Statement (.lampGroup t a) := ⟨fun _ => rfl, fun _ => rfl, rfl⟩
theorem lampStat {t a} : Statement (.lampStat t a) := ⟨fun _ => rfl, fun _ => rfl, rfl⟩
theorem lampRearm {t a} : Statement (.lampRearm t a) := ⟨fun _ => rfl, fun _ => rfl, rfl⟩
theorem axisCfg {t a} : Statement (.axisCfg t a) := ⟨fun _ => rfl, fun _ => rfl, rfl⟩
theorem axisMove {t a} : Statement (.axisMove t a) := ⟨fun _ => rfl, fun _ => rfl, rfl⟩
theorem axisHome {t a} : Statement (.axisHome t a) := ⟨fun _ => rfl, fun _ => rfl, rfl⟩
theorem axisStop {t a} : Statement (.axisStop t a) := ⟨fun _ => rfl, fun _ => rfl, rfl⟩
theorem axisStat {t a} : Statement (.axisStat t a) := ⟨fun _ => rfl, fun _ => rfl, rfl⟩
theorem proofCfg {t a} : Statement (.proofCfg t a) := ⟨fun _ => rfl, fun _ => rfl, rfl⟩
theorem auxCfg {t a} : Statement (.auxCfg t a) := ⟨fun _ => rfl, fun _ => rfl, rfl⟩
theorem auxSeq {t a} : Statement (.auxSeq t a) := ⟨fun _ => rfl, fun _ => rfl, rfl⟩
theorem auxRead {t a} : Statement (.auxRead t a) := ⟨fun _ => rfl, fun _ => rfl, rfl⟩
theorem auxPoly {t a} : Statement (.auxPoly t a) := ⟨fun _ => rfl, fun _ => rfl, rfl⟩
theorem auxCal {t a} : Statement (.auxCal t a) := ⟨fun _ => rfl, fun _ => rfl, rfl⟩
theorem stnCfg {t a} : Statement (.stnCfg t a) := ⟨fun _ => rfl, fun _ => rfl, rfl⟩
theorem timeCfg {t a} : Statement (.timeCfg t a) := ⟨fun _ => rfl, fun _ => rfl, rfl⟩
theorem updBegin {t a} : Statement (.updBegin t a) := ⟨fun _ => rfl, fun _ => rfl, rfl⟩
theorem updPiece {t a b} : Statement (.updPiece t a b) := ⟨fun _ => rfl, fun _ => rfl, rfl⟩
theorem updStatus {t a} : Statement (.updStatus t a) := ⟨fun _ => rfl, fun _ => rfl, rfl⟩
theorem updSchedule {t a} : Statement (.updSchedule t a) := ⟨fun _ => rfl, fun _ => rfl, rfl⟩
theorem updConfirm {t a} : Statement (.updConfirm t a) := ⟨fun _ => rfl, fun _ => rfl, rfl⟩
theorem updAbort {t a} : Statement (.updAbort t a) := ⟨fun _ => rfl, fun _ => rfl, rfl⟩
theorem faultLog {t a} : Statement (.faultLog t a) := ⟨fun _ => rfl, fun _ => rfl, rfl⟩
theorem faultPolicy {t a} : Statement (.faultPolicy t a) := ⟨fun _ => rfl, fun _ => rfl, rfl⟩
theorem debugOpen {t a} : Statement (.debugOpen t a) := ⟨fun _ => rfl, fun _ => rfl, rfl⟩
theorem keyProvision {t a b} : Statement (.keyProvision t a b) := ⟨fun _ => rfl, fun _ => rfl, rfl⟩
theorem diagLoopback {t a} : Statement (.diagLoopback t a) := ⟨fun _ => rfl, fun _ => rfl, rfl⟩
theorem energyRead {t a} : Statement (.energyRead t a) := ⟨fun _ => rfl, fun _ => rfl, rfl⟩
theorem loopbackComplete {t a} : Statement (.loopbackComplete t a) := ⟨fun _ => rfl, fun _ => rfl, rfl⟩
theorem pipelineArmed {t} : Statement (.pipelineArmed t) := ⟨fun _ => rfl, fun _ => rfl, rfl⟩
theorem orderlyStopComplete {t} : Statement (.orderlyStopComplete t) := ⟨fun _ => rfl, fun _ => rfl, rfl⟩
theorem stopTimeout {t} : Statement (.stopTimeout t) := ⟨fun _ => rfl, fun _ => rfl, rfl⟩
theorem encoderEdge {t a b c} : Statement (.encoderEdge t a b c) := ⟨fun _ => rfl, fun _ => rfl, rfl⟩
theorem stillTimeout {t} : Statement (.stillTimeout t) := ⟨fun _ => rfl, fun _ => rfl, rfl⟩
theorem cueEdge {t a b} : Statement (.cueEdge t a b) := ⟨fun _ => rfl, fun _ => rfl, rfl⟩
theorem windowClose {t} : Statement (.windowClose t) := ⟨fun _ => rfl, fun _ => rfl, rfl⟩
theorem freeze {t} : Statement (.freeze t) := ⟨fun _ => rfl, fun _ => rfl, rfl⟩
theorem syncRise {t a} : Statement (.syncRise t a) := ⟨fun _ => rfl, fun _ => rfl, rfl⟩
theorem syncFall {t a} : Statement (.syncFall t a) := ⟨fun _ => rfl, fun _ => rfl, rfl⟩
theorem verdictDeadline {t} : Statement (.verdictDeadline t) := ⟨fun _ => rfl, fun _ => rfl, rfl⟩
theorem bankRelease {t} : Statement (.bankRelease t) := ⟨fun _ => rfl, fun _ => rfl, rfl⟩
theorem tilePacket {t a b c} : Statement (.tilePacket t a b c) := ⟨fun _ => rfl, fun _ => rfl, rfl⟩
theorem alignmentRow {t a b c} : Statement (.alignmentRow t a b c) := ⟨fun _ => rfl, fun _ => rfl, rfl⟩
theorem blockLockLoss {t a b} : Statement (.blockLockLoss t a b) := ⟨fun _ => rfl, fun _ => rfl, rfl⟩
theorem lateError {t a} : Statement (.lateError t a) := ⟨fun _ => rfl, fun _ => rfl, rfl⟩
theorem trainingComplete {t a b} : Statement (.trainingComplete t a b) := ⟨fun _ => rfl, fun _ => rfl, rfl⟩
theorem retrainComplete {t a b c d e} : Statement (.retrainComplete t a b c d e) := ⟨fun _ => rfl, fun _ => rfl, rfl⟩
theorem retrainRetry {t a} : Statement (.retrainRetry t a) := ⟨fun _ => rfl, fun _ => rfl, rfl⟩
theorem lockLoss {t a b} : Statement (.lockLoss t a b) := ⟨fun _ => rfl, fun _ => rfl, rfl⟩
theorem ctlTransaction {t a b c d} : Statement (.ctlTransaction t a b c d) := ⟨fun _ => rfl, fun _ => rfl, rfl⟩
theorem ctlReply {t a b} : Statement (.ctlReply t a b) := ⟨fun _ => rfl, fun _ => rfl, rfl⟩
theorem ctlReplyLost {t a} : Statement (.ctlReplyLost t a) := ⟨fun _ => rfl, fun _ => rfl, rfl⟩
theorem collapseComplete {t} : Statement (.collapseComplete t) := ⟨fun _ => rfl, fun _ => rfl, rfl⟩
theorem runningWhiteBlock {t a b} : Statement (.runningWhiteBlock t a b) := ⟨fun _ => rfl, fun _ => rfl, rfl⟩
theorem outputLine {t} : Statement (.outputLine t) := ⟨fun _ => rfl, fun _ => rfl, rfl⟩
theorem staggerDbe {t a b c d} : Statement (.staggerDbe t a b c d) := ⟨fun _ => rfl, fun _ => rfl, rfl⟩
theorem hbmRowRemap {t a} : Statement (.hbmRowRemap t a) := ⟨fun _ => rfl, fun _ => rfl, rfl⟩
theorem boltDispatch {t a} : Statement (.boltDispatch t a) := ⟨fun _ => rfl, fun _ => rfl, rfl⟩
theorem boltCoded {t a b} : Statement (.boltCoded t a b) := ⟨fun _ => rfl, fun _ => rfl, rfl⟩
theorem codecJobStart {t a b c} : Statement (.codecJobStart t a b c) := ⟨fun _ => rfl, fun _ => rfl, rfl⟩
theorem codecJobComplete {t a} : Statement (.codecJobComplete t a) := ⟨fun _ => rfl, fun _ => rfl, rfl⟩
theorem descriptorFetch {t a b} : Statement (.descriptorFetch t a b) := ⟨fun _ => rfl, fun _ => rfl, rfl⟩
theorem itemDelivery {t a} : Statement (.itemDelivery t a) := ⟨fun _ => rfl, fun _ => rfl, rfl⟩
theorem flushAge {t a} : Statement (.flushAge t a) := ⟨fun _ => rfl, fun _ => rfl, rfl⟩
theorem flushRecordTimeout {t a} : Statement (.flushRecordTimeout t a) := ⟨fun _ => rfl, fun _ => rfl, rfl⟩
theorem backlogBufferEarly {t a} : Statement (.backlogBufferEarly t a) := ⟨fun _ => rfl, fun _ => rfl, rfl⟩
theorem refugeAdmit {t a} : Statement (.refugeAdmit t a) := ⟨fun _ => rfl, fun _ => rfl, rfl⟩
theorem proofResumeAllow {t} : Statement (.proofResumeAllow t) := ⟨fun _ => rfl, fun _ => rfl, rfl⟩
theorem spill {t} : Statement (.spill t) := ⟨fun _ => rfl, fun _ => rfl, rfl⟩
theorem catchup {t a} : Statement (.catchup t a) := ⟨fun _ => rfl, fun _ => rfl, rfl⟩
theorem pcieError {t a b} : Statement (.pcieError t a b) := ⟨fun _ => rfl, fun _ => rfl, rfl⟩
theorem pcieCompletionTimeout {t a b} : Statement (.pcieCompletionTimeout t a b) := ⟨fun _ => rfl, fun _ => rfl, rfl⟩
theorem nvmeCommandComplete {t a b c} : Statement (.nvmeCommandComplete t a b c) := ⟨fun _ => rfl, fun _ => rfl, rfl⟩
theorem nvmeTimeout {t a b} : Statement (.nvmeTimeout t a b) := ⟨fun _ => rfl, fun _ => rfl, rfl⟩
theorem controllerFatalStatus {t a} : Statement (.controllerFatalStatus t a) := ⟨fun _ => rfl, fun _ => rfl, rfl⟩
theorem spoolLinkLoss {t a} : Statement (.spoolLinkLoss t a) := ⟨fun _ => rfl, fun _ => rfl, rfl⟩
theorem spoolAttachComplete {t a} : Statement (.spoolAttachComplete t a) := ⟨fun _ => rfl, fun _ => rfl, rfl⟩
theorem spoolFormatComplete {t a} : Statement (.spoolFormatComplete t a) := ⟨fun _ => rfl, fun _ => rfl, rfl⟩
theorem spoolReplayComplete {t} : Statement (.spoolReplayComplete t) := ⟨fun _ => rfl, fun _ => rfl, rfl⟩
theorem lampRound {t} : Statement (.lampRound t) := ⟨fun _ => rfl, fun _ => rfl, rfl⟩
theorem lampSlot {t a} : Statement (.lampSlot t a) := ⟨fun _ => rfl, fun _ => rfl, rfl⟩
theorem lampReply {t a b} : Statement (.lampReply t a b) := ⟨fun _ => rfl, fun _ => rfl, rfl⟩
theorem lampReplyMissing {t a} : Statement (.lampReplyMissing t a) := ⟨fun _ => rfl, fun _ => rfl, rfl⟩
theorem linePulse {t} : Statement (.linePulse t) := ⟨fun _ => rfl, fun _ => rfl, rfl⟩
theorem diagMarker {t} : Statement (.diagMarker t) := ⟨fun _ => rfl, fun _ => rfl, rfl⟩
theorem stringRetry {t a} : Statement (.stringRetry t a) := ⟨fun _ => rfl, fun _ => rfl, rfl⟩
theorem stringUndiagnosed {t a} : Statement (.stringUndiagnosed t a) := ⟨fun _ => rfl, fun _ => rfl, rfl⟩
theorem lampUndiagnosed {t a} : Statement (.lampUndiagnosed t a) := ⟨fun _ => rfl, fun _ => rfl, rfl⟩
theorem profileTick {t} : Statement (.profileTick t) := ⟨fun _ => rfl, fun _ => rfl, rfl⟩
theorem pwmPeriod {t a} : Statement (.pwmPeriod t a) := ⟨fun _ => rfl, fun _ => rfl, rfl⟩
theorem switchEdge {t a b c} : Statement (.switchEdge t a b c) := ⟨fun _ => rfl, fun _ => rfl, rfl⟩
theorem driverFault {t a} : Statement (.driverFault t a) := ⟨fun _ => rfl, fun _ => rfl, rfl⟩
theorem driverFltClear {t a} : Statement (.driverFltClear t a) := ⟨fun _ => rfl, fun _ => rfl, rfl⟩
theorem supplyLow {t a} : Statement (.supplyLow t a) := ⟨fun _ => rfl, fun _ => rfl, rfl⟩
theorem vmTimeout {t a} : Statement (.vmTimeout t a) := ⟨fun _ => rfl, fun _ => rfl, rfl⟩
theorem holdCurrent {t a} : Statement (.holdCurrent t a) := ⟨fun _ => rfl, fun _ => rfl, rfl⟩
theorem reApproach {t} : Statement (.reApproach t) := ⟨fun _ => rfl, fun _ => rfl, rfl⟩
theorem restartCheck {t} : Statement (.restartCheck t) := ⟨fun _ => rfl, fun _ => rfl, rfl⟩
theorem deltaSigmaConversion {t a b c} : Statement (.deltaSigmaConversion t a b c) := ⟨fun _ => rfl, fun _ => rfl, rfl⟩
theorem ad2Conversion {t a b} : Statement (.ad2Conversion t a b) := ⟨fun _ => rfl, fun _ => rfl, rfl⟩
theorem excitationOverload {t a} : Statement (.excitationOverload t a) := ⟨fun _ => rfl, fun _ => rfl, rfl⟩
theorem staleEvent {t a} : Statement (.staleEvent t a) := ⟨fun _ => rfl, fun _ => rfl, rfl⟩
theorem auxOpen {t a} : Statement (.auxOpen t a) := ⟨fun _ => rfl, fun _ => rfl, rfl⟩
theorem selfCalibrationDue {t a} : Statement (.selfCalibrationDue t a) := ⟨fun _ => rfl, fun _ => rfl, rfl⟩
theorem selfCalibrationComplete {t a b} : Statement (.selfCalibrationComplete t a b) := ⟨fun _ => rfl, fun _ => rfl, rfl⟩
theorem auxCalComplete {t a} : Statement (.auxCalComplete t a) := ⟨fun _ => rfl, fun _ => rfl, rfl⟩
theorem shadingResult {t} : Statement (.shadingResult t) := ⟨fun _ => rfl, fun _ => rfl, rfl⟩
theorem lampResult {t} : Statement (.lampResult t) := ⟨fun _ => rfl, fun _ => rfl, rfl⟩
theorem nspStatus {t a} : Statement (.nspStatus t a) := ⟨fun _ => rfl, fun _ => rfl, rfl⟩
theorem nspCommand {t a} : Statement (.nspCommand t a) := ⟨fun _ => rfl, fun _ => rfl, rfl⟩
theorem nspUpdAnnounce {t a} : Statement (.nspUpdAnnounce t a) := ⟨fun _ => rfl, fun _ => rfl, rfl⟩
theorem nspUpdPiece {t a b} : Statement (.nspUpdPiece t a b) := ⟨fun _ => rfl, fun _ => rfl, rfl⟩
theorem nspUpdSchedule {t a} : Statement (.nspUpdSchedule t a) := ⟨fun _ => rfl, fun _ => rfl, rfl⟩
theorem otherFrame {t} : Statement (.otherFrame t) := ⟨fun _ => rfl, fun _ => rfl, rfl⟩
theorem statusFrameSend {t} : Statement (.statusFrameSend t) := ⟨fun _ => rfl, fun _ => rfl, rfl⟩
theorem updNeedSend {t} : Statement (.updNeedSend t) := ⟨fun _ => rfl, fun _ => rfl, rfl⟩
theorem bucketRefill {t} : Statement (.bucketRefill t) := ⟨fun _ => rfl, fun _ => rfl, rfl⟩
theorem syncMessage {t a} : Statement (.syncMessage t a) := ⟨fun _ => rfl, fun _ => rfl, rfl⟩
theorem holdover {t} : Statement (.holdover t) := ⟨fun _ => rfl, fun _ => rfl, rfl⟩
theorem hostTimeDecay {t} : Statement (.hostTimeDecay t) := ⟨fun _ => rfl, fun _ => rfl, rfl⟩
theorem stnLost {t} : Statement (.stnLost t) := ⟨fun _ => rfl, fun _ => rfl, rfl⟩
theorem verificationComplete {t a b} : Statement (.verificationComplete t a b) := ⟨fun _ => rfl, fun _ => rfl, rfl⟩
theorem activationTime {t} : Statement (.activationTime t) := ⟨fun _ => rfl, fun _ => rfl, rfl⟩
theorem activationWindowEnd {t} : Statement (.activationWindowEnd t) := ⟨fun _ => rfl, fun _ => rfl, rfl⟩
theorem switchOverStep {t a b} : Statement (.switchOverStep t a b) := ⟨fun _ => rfl, fun _ => rfl, rfl⟩
theorem rollbackStep {t} : Statement (.rollbackStep t) := ⟨fun _ => rfl, fun _ => rfl, rfl⟩
theorem confirmWindowExpiry {t} : Statement (.confirmWindowExpiry t) := ⟨fun _ => rfl, fun _ => rfl, rfl⟩
theorem sramError {t a b c d} : Statement (.sramError t a b c d) := ⟨fun _ => rfl, fun _ => rfl, rfl⟩
theorem hbmError {t a b} : Statement (.hbmError t a b) := ⟨fun _ => rfl, fun _ => rfl, rfl⟩
theorem scrub {t a} : Statement (.scrub t a) := ⟨fun _ => rfl, fun _ => rfl, rfl⟩
theorem jtagUnlock {t a} : Statement (.jtagUnlock t a) := ⟨fun _ => rfl, fun _ => rfl, rfl⟩
theorem secretsErased {t} : Statement (.secretsErased t) := ⟨fun _ => rfl, fun _ => rfl, rfl⟩
theorem authLockoutEnd {t} : Statement (.authLockoutEnd t) := ⟨fun _ => rfl, fun _ => rfl, rfl⟩
theorem energyTick {t} : Statement (.energyTick t) := ⟨fun _ => rfl, fun _ => rfl, rfl⟩
theorem clockStepRaise {t a} : Statement (.clockStepRaise t a) := ⟨fun _ => rfl, fun _ => rfl, rfl⟩
theorem clockStepLower {t a} : Statement (.clockStepLower t a) := ⟨fun _ => rfl, fun _ => rfl, rfl⟩
theorem clockStop {t a} : Statement (.clockStop t a) := ⟨fun _ => rfl, fun _ => rfl, rfl⟩
theorem clockRestart {t a} : Statement (.clockRestart t a) := ⟨fun _ => rfl, fun _ => rfl, rfl⟩
theorem hbmSelfRefresh {t} : Statement (.hbmSelfRefresh t) := ⟨fun _ => rfl, fun _ => rfl, rfl⟩
theorem sysRstNRise {t} : Statement (.sysRstNRise t) := ⟨fun _ => rfl, fun _ => rfl, rfl⟩
theorem perstNRise {t} : Statement (.perstNRise t) := ⟨fun _ => rfl, fun _ => rfl, rfl⟩
theorem modeChangeComplete {t} : Statement (.modeChangeComplete t) := ⟨fun _ => rfl, fun _ => rfl, rfl⟩
theorem peerDelayFrame {t a} : Statement (.peerDelayFrame t a) := ⟨fun _ => rfl, fun _ => rfl, rfl⟩
theorem nspUnacceptedType {t a} : Statement (.nspUnacceptedType t a) := ⟨fun _ => rfl, fun _ => rfl, rfl⟩
theorem encFaultClear {t a} : Statement (.encFaultClear t a) := ⟨fun _ => rfl, fun _ => rfl, rfl⟩
theorem auxAdcRetired {t a} : Statement (.auxAdcRetired t a) := ⟨fun _ => rfl, fun _ => rfl, rfl⟩
theorem shadeLoadComplete {t a} : Statement (.shadeLoadComplete t a) := ⟨fun _ => rfl, fun _ => rfl, rfl⟩
theorem updPieceComplete {t a} : Statement (.updPieceComplete t a) := ⟨fun _ => rfl, fun _ => rfl, rfl⟩
theorem jtagInstruction {t a} : Statement (.jtagInstruction t a) := ⟨fun _ => rfl, fun _ => rfl, rfl⟩

end Sys2Proof.Laws.Timed
end

