-- ==== Sys2Proof/Laws/Serve.lean ====
section
/-! SUPPORT. What the service of a request can do: an error answer, an OK with an effect, or an ACCEPTED with an effect. -/

namespace Sys2Proof.Safety

open Sys2Proof Sys2Proof.Machine

/-- A command row is the service of its command at its source. -/
theorem row_exec {c : Instr} {s : State} {src : Nat} {k : Cmd} (h : rowCmd c = some (src, k)) :
    exec c s = .next (after c.time s (serve k src (s.at c.time))) := by
  cases c <;> first | (cases h; rfl) | cases h

theorem serve_idle {k : Cmd} {src : Nat} {s : State} (h : canServe k src s = false) : serve k src s = s := by
  simp [serve, h]

theorem serve_error {k : Cmd} {src : Nat} {s : State} {e : Err} (h : canServe k src s = true) (hs : (latchedReq s src).sound = true)
    (hj : judge k (latchedReq s src) s = .error e) : serve k src s = turnedAway src e s := by
  simp only [serve, h, if_true, serveReq, hs, Bool.not_true, Bool.false_eq_true, if_false, hj, turnedAway]

theorem serve_done {k : Cmd} {src : Nat} {s : State} {d : Done} (h : canServe k src s = true) (hs : (latchedReq s src).sound = true)
    (hj : judge k (latchedReq s src) s = .ok d) (ha : d.accepted = none) :
    serve k src s = d.act (if d.waits s then holdAnswer (latchedReq s src) d.status d.detail d.data s else respond (latchedReq s src) d.status d.detail d.data s) := by
  simp only [serve, h, if_true, serveReq, hs, Bool.not_true, Bool.false_eq_true, if_false, hj, ha]

theorem serve_accepted {k : Cmd} {src res : Nat} {s : State} {d : Done} (h : canServe k src s = true) (hs : (latchedReq s src).sound = true)
    (hj : judge k (latchedReq s src) s = .ok d) (ha : d.accepted = some res) :
    serve k src s = d.act (accepted src res d.data s) := by
  simp only [serve, h, if_true, serveReq, hs, Bool.not_true, Bool.false_eq_true, if_false, hj, ha]; rfl

theorem holds_iff {op len src : Nat} {s : State} : holds op len src s = true ↔
    s.sys.service = true ∧ (s.host.mbs.getD src {}).state = .busy ∧ (latchedReq s src).opcode = op ∧ itsTurn s src = true ∧ (latchedReq s src).length = len ∧ (latchedReq s src).sound = true := by
  unfold holds latchedReq
  simp only [Bool.and_eq_true, beq_iff_eq]
  constructor
  · rintro ⟨⟨⟨⟨⟨a, b⟩, c⟩, d⟩, e⟩, f⟩; exact ⟨a, b, c, d, e, f⟩
  · rintro ⟨a, b, c, d, e, f⟩; exact ⟨⟨⟨⟨⟨a, b⟩, c⟩, d⟩, e⟩, f⟩

theorem canServe_of_holds {op len src : Nat} {s : State} {k : Cmd} (h : holds op len src s = true) (hk : k.opcode = op) : canServe k src s = true := by
  obtain ⟨a, b, c, d, -⟩ := holds_iff.mp h
  have c' : (s.host.mbs.getD src {}).latched.opcode = op := c
  simp only [canServe, a, b, c', d, hk, beq_self_eq_true, Bool.and_self]

theorem length_of_holds {op len src : Nat} {s : State} (h : holds op len src s = true) : (latchedReq s src).length = len := (holds_iff.mp h).2.2.2.2.1

theorem sound_of_holds {op len src : Nat} {s : State} (h : holds op len src s = true) : (latchedReq s src).sound = true := (holds_iff.mp h).2.2.2.2.2

theorem asks_iff {op len src : Nat} {s : State} : asks op len src s = true ↔ holds op len src s = true ∧ (latchedReq s src).isRead = false := by
  unfold asks latchedReq Req.isRead; simp

theorem asksRead_iff {op len src : Nat} {s : State} : asksRead op len src s = true ↔ holds op len src s = true ∧ (latchedReq s src).isRead = true := by
  unfold asksRead latchedReq Req.isRead; simp

theorem legal_of_all {k : Cmd} {b : Bool} {src : Nat} {m : Mode} (h : m.all = true) (hk : (if b then m.all else k.modes m) = true) : legal k b src m = true := by
  unfold legal
  split
  · next e => subst e; cases h
  · exact hk

/-- The judgement of a command that is legal, not in its read form, and passes its own checks. -/
theorem judge_ok {k : Cmd} {r : Req} {s : State} {d : Done} (hr : (k.readLen.isSome && r.isRead) = false) (hl : k.len r = none)
    (hm : legal k false r.src s.sys.mode = true) (hk : k.run r s = .ok d) (ha : d.accepted.isSome = true → slotsUsed s r.src < 16) : judge k r s = .ok d := by
  unfold judge
  simp only [hr, hl, hm, hk, Bool.false_eq_true, if_false, Bool.not_true, Bool.and_eq_true, decide_eq_true_eq]
  split
  · next h => exact absurd (ha h.1) (by omega)
  · rfl

/-- The judgement of the read form of a command. -/
theorem judge_read {k : Cmd} {r : Req} {s : State} {l : Req → Option Nat} {bs : List Byte} (h : k.readLen = some l) (hr : r.isRead = true) (hl : l r = none)
    (hm : legal k true r.src s.sys.mode = true) (hk : k.read r s = .ok bs) : judge k r s = .ok { data := bs, act := if r.isClear then k.clear r else id } := by
  unfold judge
  simp [h, hr, hl, hm, hk, Except.map]

@[simp] theorem latchedReq_src (s : State) (src : Nat) : (latchedReq s src).src = src := rfl

/-- A response touches the mailbox, the interrupts and the outputs, nothing else. -/
theorem respond_frame (r : Req) (a b : Nat) (d : List Byte) (s : State) : ∃ (h : HostSt) (o : List Out), respond r a b d s = { s with host := h, out := o } := by
  unfold respond
  dsimp only
  split
  · obtain ⟨h, o, e⟩ := signal_frame (1 + r.src) { s with host.mbs := s.host.mbs.set r.src { s.host.mbs.getD r.src {} with rsp := layout 16 [(0, 2, a), (2, 2, r.opcode), (4, 4, r.seq), (8, 4, r.token), (12, 2, d.length), (14, 2, b)] ++ d, state := .done }, host.order := s.host.order.erase r.src, host.held := s.host.held.erase r.src }
    exact ⟨h, o, e⟩
  · exact ⟨_, _, rfl⟩

theorem answered_frame (src : Nat) (d : List Byte) (s : State) : ∃ (h : HostSt) (o : List Out), answered src d s = { s with host := h, out := o } := respond_frame _ _ _ _ _

theorem accepted_frame (src res : Nat) (d : List Byte) (s : State) : ∃ (h : HostSt) (o : List Out), accepted src res d s = { s with host := h, out := o } := by
  obtain ⟨h, o, e⟩ := respond_frame (latchedReq s src) 1 0 d s
  unfold accepted
  dsimp only
  rw [e]
  exact ⟨_, o, rfl⟩

/-- A command row whose request passes its checks and is done at once, with no PENDING frame that its response waits for. -/
theorem exec_done {c : Instr} {s : State} {src op len : Nat} {k : Cmd} {d : Done} (hc : rowCmd c = some (src, k)) (h : holds op len src (s.at c.time) = true) (ho : k.opcode = op)
    (hr : (k.readLen.isSome && (latchedReq (s.at c.time) src).isRead) = false) (hl : (latchedReq (s.at c.time) src).length = len → k.len (latchedReq (s.at c.time) src) = none)
    (hm : legal k false src (s.at c.time).sys.mode = true) (hk : k.run (latchedReq (s.at c.time) src) (s.at c.time) = .ok d) (ha : d.accepted = none)
    (hw : d.waits (s.at c.time) = false) :
    exec c s = .next (after c.time s (d.act (respond (latchedReq (s.at c.time) src) d.status d.detail d.data (s.at c.time)))) := by
  rw [row_exec hc, serve_done (canServe_of_holds h ho) (sound_of_holds h) (judge_ok hr (hl (length_of_holds h)) hm hk (by simp [ha])) ha]
  simp only [hw, Bool.false_eq_true, if_false]

/-- A command row whose request passes its checks and is accepted. -/
theorem exec_accepted {c : Instr} {s : State} {src op len res : Nat} {k : Cmd} {d : Done} (hc : rowCmd c = some (src, k)) (h : holds op len src (s.at c.time) = true) (ho : k.opcode = op)
    (hr : (k.readLen.isSome && (latchedReq (s.at c.time) src).isRead) = false) (hl : (latchedReq (s.at c.time) src).length = len → k.len (latchedReq (s.at c.time) src) = none)
    (hm : legal k false src (s.at c.time).sys.mode = true) (hk : k.run (latchedReq (s.at c.time) src) (s.at c.time) = .ok d) (ha : d.accepted = some res)
    (hf : hasRoomFor src (s.at c.time) = true) :
    exec c s = .next (after c.time s (d.act (accepted src res d.data (s.at c.time)))) := by
  rw [row_exec hc, serve_accepted (canServe_of_holds h ho) (sound_of_holds h) (judge_ok hr (hl (length_of_holds h)) hm hk (by simpa [hasRoomFor] using fun _ => hf)) ha]

/-- A command row whose request fails its own checks. -/
theorem exec_refused {c : Instr} {s : State} {src op len : Nat} {k : Cmd} {e : Err} (hc : rowCmd c = some (src, k)) (h : holds op len src (s.at c.time) = true) (ho : k.opcode = op)
    (hr : (k.readLen.isSome && (latchedReq (s.at c.time) src).isRead) = false) (hl : (latchedReq (s.at c.time) src).length = len → k.len (latchedReq (s.at c.time) src) = none)
    (hm : legal k false src (s.at c.time).sys.mode = true) (hk : k.run (latchedReq (s.at c.time) src) (s.at c.time) = .error e) :
    exec c s = .next (after c.time s (turnedAway src e (s.at c.time))) := by
  rw [row_exec hc, serve_error (canServe_of_holds h ho) (sound_of_holds h)]
  unfold judge
  simp [hr, hl (length_of_holds h), hm, hk]

theorem legal_all {k : Cmd} {src : Nat} {m : Mode} (h : m.all = true) (hk : k.modes m = true) : legal k false src m = true := legal_of_all (b := false) h hk

end Sys2Proof.Safety
end

