-- ==== Sys2Proof/Laws/State.lean ====
section
/-! SUPPORT. What each named update of the state writes and leaves alone: one lemma per field of State, all by rfl. -/

namespace Sys2Proof.Machine

open Sys2Proof

@[simp] theorem State.at_now (t : Nat) (s : State) : (s.at t).now = Nat.max s.now t := rfl
@[simp] theorem State.at_sys (t : Nat) (s : State) : (s.at t).sys = s.sys := rfl
@[simp] theorem State.at_host (t : Nat) (s : State) : (s.at t).host = s.host := rfl
@[simp] theorem State.at_flt (t : Nat) (s : State) : (s.at t).flt = s.flt := rfl
@[simp] theorem State.at_sec (t : Nat) (s : State) : (s.at t).sec = s.sec := rfl
@[simp] theorem State.at_time (t : Nat) (s : State) : (s.at t).time = s.time := rfl
@[simp] theorem State.at_stn (t : Nat) (s : State) : (s.at t).stn = s.stn := rfl
@[simp] theorem State.at_upd (t : Nat) (s : State) : (s.at t).upd = s.upd := rfl
@[simp] theorem State.at_clk (t : Nat) (s : State) : (s.at t).clk = s.clk := rfl
@[simp] theorem State.at_loop (t : Nat) (s : State) : (s.at t).loop = s.loop := rfl
@[simp] theorem State.at_mem (t : Nat) (s : State) : (s.at t).mem = s.mem := rfl
@[simp] theorem State.at_banks (t : Nat) (s : State) : (s.at t).banks = s.banks := rfl
@[simp] theorem State.at_datum (t : Nat) (s : State) : (s.at t).datum = s.datum := rfl
@[simp] theorem State.at_tr (t : Nat) (s : State) : (s.at t).tr = s.tr := rfl
@[simp] theorem State.at_gate (t : Nat) (s : State) : (s.at t).gate = s.gate := rfl
@[simp] theorem State.at_ports (t : Nat) (s : State) : (s.at t).ports = s.ports := rfl
@[simp] theorem State.at_proof (t : Nat) (s : State) : (s.at t).proof = s.proof := rfl
@[simp] theorem State.at_meter (t : Nat) (s : State) : (s.at t).meter = s.meter := rfl
@[simp] theorem State.at_px (t : Nat) (s : State) : (s.at t).px = s.px := rfl
@[simp] theorem State.at_aln (t : Nat) (s : State) : (s.at t).aln = s.aln := rfl
@[simp] theorem State.at_dlv (t : Nat) (s : State) : (s.at t).dlv = s.dlv := rfl
@[simp] theorem State.at_spool (t : Nat) (s : State) : (s.at t).spool = s.spool := rfl
@[simp] theorem State.at_aux (t : Nat) (s : State) : (s.at t).aux = s.aux := rfl
@[simp] theorem State.at_cal (t : Nat) (s : State) : (s.at t).cal = s.cal := rfl
@[simp] theorem State.at_mot (t : Nat) (s : State) : (s.at t).mot = s.mot := rfl
@[simp] theorem State.at_lamp (t : Nat) (s : State) : (s.at t).lamp = s.lamp := rfl
@[simp] theorem State.at_hbm (t : Nat) (s : State) : (s.at t).hbm = s.hbm := rfl
@[simp] theorem State.at_out (t : Nat) (s : State) : (s.at t).out = s.out := rfl
@[simp] theorem State.at_free (t : Nat) (s : State) : (s.at t).free = s.free := rfl
@[simp] theorem State.at_pending (t : Nat) (s : State) : (s.at t).pending = s.pending := rfl

@[simp] theorem emit_now (o : Out) (s : State) : (emit o s).now = s.now := rfl
@[simp] theorem emit_sys (o : Out) (s : State) : (emit o s).sys = s.sys := rfl
@[simp] theorem emit_host (o : Out) (s : State) : (emit o s).host = s.host := rfl
@[simp] theorem emit_flt (o : Out) (s : State) : (emit o s).flt = s.flt := rfl
@[simp] theorem emit_sec (o : Out) (s : State) : (emit o s).sec = s.sec := rfl
@[simp] theorem emit_time (o : Out) (s : State) : (emit o s).time = s.time := rfl
@[simp] theorem emit_stn (o : Out) (s : State) : (emit o s).stn = s.stn := rfl
@[simp] theorem emit_upd (o : Out) (s : State) : (emit o s).upd = s.upd := rfl
@[simp] theorem emit_clk (o : Out) (s : State) : (emit o s).clk = s.clk := rfl
@[simp] theorem emit_loop (o : Out) (s : State) : (emit o s).loop = s.loop := rfl
@[simp] theorem emit_mem (o : Out) (s : State) : (emit o s).mem = s.mem := rfl
@[simp] theorem emit_banks (o : Out) (s : State) : (emit o s).banks = s.banks := rfl
@[simp] theorem emit_datum (o : Out) (s : State) : (emit o s).datum = s.datum := rfl
@[simp] theorem emit_tr (o : Out) (s : State) : (emit o s).tr = s.tr := rfl
@[simp] theorem emit_gate (o : Out) (s : State) : (emit o s).gate = s.gate := rfl
@[simp] theorem emit_ports (o : Out) (s : State) : (emit o s).ports = s.ports := rfl
@[simp] theorem emit_proof (o : Out) (s : State) : (emit o s).proof = s.proof := rfl
@[simp] theorem emit_meter (o : Out) (s : State) : (emit o s).meter = s.meter := rfl
@[simp] theorem emit_px (o : Out) (s : State) : (emit o s).px = s.px := rfl
@[simp] theorem emit_aln (o : Out) (s : State) : (emit o s).aln = s.aln := rfl
@[simp] theorem emit_dlv (o : Out) (s : State) : (emit o s).dlv = s.dlv := rfl
@[simp] theorem emit_spool (o : Out) (s : State) : (emit o s).spool = s.spool := rfl
@[simp] theorem emit_aux (o : Out) (s : State) : (emit o s).aux = s.aux := rfl
@[simp] theorem emit_cal (o : Out) (s : State) : (emit o s).cal = s.cal := rfl
@[simp] theorem emit_mot (o : Out) (s : State) : (emit o s).mot = s.mot := rfl
@[simp] theorem emit_lamp (o : Out) (s : State) : (emit o s).lamp = s.lamp := rfl
@[simp] theorem emit_hbm (o : Out) (s : State) : (emit o s).hbm = s.hbm := rfl
@[simp] theorem emit_out (o : Out) (s : State) : (emit o s).out = o :: s.out := rfl
@[simp] theorem emit_free (o : Out) (s : State) : (emit o s).free = s.free := rfl
@[simp] theorem emit_pending (o : Out) (s : State) : (emit o s).pending = s.pending := rfl

@[simp] theorem setPort_now (p : Nat) (x : Port) (s : State) : (setPort p x s).now = s.now := rfl
@[simp] theorem setPort_sys (p : Nat) (x : Port) (s : State) : (setPort p x s).sys = s.sys := rfl
@[simp] theorem setPort_host (p : Nat) (x : Port) (s : State) : (setPort p x s).host = s.host := rfl
@[simp] theorem setPort_flt (p : Nat) (x : Port) (s : State) : (setPort p x s).flt = s.flt := rfl
@[simp] theorem setPort_sec (p : Nat) (x : Port) (s : State) : (setPort p x s).sec = s.sec := rfl
@[simp] theorem setPort_time (p : Nat) (x : Port) (s : State) : (setPort p x s).time = s.time := rfl
@[simp] theorem setPort_stn (p : Nat) (x : Port) (s : State) : (setPort p x s).stn = s.stn := rfl
@[simp] theorem setPort_upd (p : Nat) (x : Port) (s : State) : (setPort p x s).upd = s.upd := rfl
@[simp] theorem setPort_clk (p : Nat) (x : Port) (s : State) : (setPort p x s).clk = s.clk := rfl
@[simp] theorem setPort_loop (p : Nat) (x : Port) (s : State) : (setPort p x s).loop = s.loop := rfl
@[simp] theorem setPort_mem (p : Nat) (x : Port) (s : State) : (setPort p x s).mem = s.mem := rfl
@[simp] theorem setPort_banks (p : Nat) (x : Port) (s : State) : (setPort p x s).banks = s.banks := rfl
@[simp] theorem setPort_datum (p : Nat) (x : Port) (s : State) : (setPort p x s).datum = s.datum := rfl
@[simp] theorem setPort_tr (p : Nat) (x : Port) (s : State) : (setPort p x s).tr = s.tr := rfl
@[simp] theorem setPort_gate (p : Nat) (x : Port) (s : State) : (setPort p x s).gate = s.gate := rfl
@[simp] theorem setPort_ports (p : Nat) (x : Port) (s : State) : (setPort p x s).ports = { s.ports with list := s.ports.list.set p x } := rfl
@[simp] theorem setPort_proof (p : Nat) (x : Port) (s : State) : (setPort p x s).proof = s.proof := rfl
@[simp] theorem setPort_meter (p : Nat) (x : Port) (s : State) : (setPort p x s).meter = s.meter := rfl
@[simp] theorem setPort_px (p : Nat) (x : Port) (s : State) : (setPort p x s).px = s.px := rfl
@[simp] theorem setPort_aln (p : Nat) (x : Port) (s : State) : (setPort p x s).aln = s.aln := rfl
@[simp] theorem setPort_dlv (p : Nat) (x : Port) (s : State) : (setPort p x s).dlv = s.dlv := rfl
@[simp] theorem setPort_spool (p : Nat) (x : Port) (s : State) : (setPort p x s).spool = s.spool := rfl
@[simp] theorem setPort_aux (p : Nat) (x : Port) (s : State) : (setPort p x s).aux = s.aux := rfl
@[simp] theorem setPort_cal (p : Nat) (x : Port) (s : State) : (setPort p x s).cal = s.cal := rfl
@[simp] theorem setPort_mot (p : Nat) (x : Port) (s : State) : (setPort p x s).mot = s.mot := rfl
@[simp] theorem setPort_lamp (p : Nat) (x : Port) (s : State) : (setPort p x s).lamp = s.lamp := rfl
@[simp] theorem setPort_hbm (p : Nat) (x : Port) (s : State) : (setPort p x s).hbm = s.hbm := rfl
@[simp] theorem setPort_out (p : Nat) (x : Port) (s : State) : (setPort p x s).out = s.out := rfl
@[simp] theorem setPort_free (p : Nat) (x : Port) (s : State) : (setPort p x s).free = s.free := rfl
@[simp] theorem setPort_pending (p : Nat) (x : Port) (s : State) : (setPort p x s).pending = s.pending := rfl

@[simp] theorem setStream_now (n : Nat) (x : Stream) (s : State) : (setStream n x s).now = s.now := rfl
@[simp] theorem setStream_sys (n : Nat) (x : Stream) (s : State) : (setStream n x s).sys = s.sys := rfl
@[simp] theorem setStream_host (n : Nat) (x : Stream) (s : State) : (setStream n x s).host = s.host := rfl
@[simp] theorem setStream_flt (n : Nat) (x : Stream) (s : State) : (setStream n x s).flt = s.flt := rfl
@[simp] theorem setStream_sec (n : Nat) (x : Stream) (s : State) : (setStream n x s).sec = s.sec := rfl
@[simp] theorem setStream_time (n : Nat) (x : Stream) (s : State) : (setStream n x s).time = s.time := rfl
@[simp] theorem setStream_stn (n : Nat) (x : Stream) (s : State) : (setStream n x s).stn = s.stn := rfl
@[simp] theorem setStream_upd (n : Nat) (x : Stream) (s : State) : (setStream n x s).upd = s.upd := rfl
@[simp] theorem setStream_clk (n : Nat) (x : Stream) (s : State) : (setStream n x s).clk = s.clk := rfl
@[simp] theorem setStream_loop (n : Nat) (x : Stream) (s : State) : (setStream n x s).loop = s.loop := rfl
@[simp] theorem setStream_mem (n : Nat) (x : Stream) (s : State) : (setStream n x s).mem = s.mem := rfl
@[simp] theorem setStream_banks (n : Nat) (x : Stream) (s : State) : (setStream n x s).banks = s.banks := rfl
@[simp] theorem setStream_datum (n : Nat) (x : Stream) (s : State) : (setStream n x s).datum = s.datum := rfl
@[simp] theorem setStream_tr (n : Nat) (x : Stream) (s : State) : (setStream n x s).tr = s.tr := rfl
@[simp] theorem setStream_gate (n : Nat) (x : Stream) (s : State) : (setStream n x s).gate = s.gate := rfl
@[simp] theorem setStream_ports (n : Nat) (x : Stream) (s : State) : (setStream n x s).ports = s.ports := rfl
@[simp] theorem setStream_proof (n : Nat) (x : Stream) (s : State) : (setStream n x s).proof = s.proof := rfl
@[simp] theorem setStream_meter (n : Nat) (x : Stream) (s : State) : (setStream n x s).meter = s.meter := rfl
@[simp] theorem setStream_px (n : Nat) (x : Stream) (s : State) : (setStream n x s).px = s.px := rfl
@[simp] theorem setStream_aln (n : Nat) (x : Stream) (s : State) : (setStream n x s).aln = s.aln := rfl
@[simp] theorem setStream_dlv (n : Nat) (x : Stream) (s : State) : (setStream n x s).dlv = { s.dlv with streams := s.dlv.streams.set n x } := rfl
@[simp] theorem setStream_spool (n : Nat) (x : Stream) (s : State) : (setStream n x s).spool = s.spool := rfl
@[simp] theorem setStream_aux (n : Nat) (x : Stream) (s : State) : (setStream n x s).aux = s.aux := rfl
@[simp] theorem setStream_cal (n : Nat) (x : Stream) (s : State) : (setStream n x s).cal = s.cal := rfl
@[simp] theorem setStream_mot (n : Nat) (x : Stream) (s : State) : (setStream n x s).mot = s.mot := rfl
@[simp] theorem setStream_lamp (n : Nat) (x : Stream) (s : State) : (setStream n x s).lamp = s.lamp := rfl
@[simp] theorem setStream_hbm (n : Nat) (x : Stream) (s : State) : (setStream n x s).hbm = s.hbm := rfl
@[simp] theorem setStream_out (n : Nat) (x : Stream) (s : State) : (setStream n x s).out = s.out := rfl
@[simp] theorem setStream_free (n : Nat) (x : Stream) (s : State) : (setStream n x s).free = s.free := rfl
@[simp] theorem setStream_pending (n : Nat) (x : Stream) (s : State) : (setStream n x s).pending = s.pending := rfl

@[simp] theorem setJob_now (j : Job) (s : State) : (setJob j s).now = s.now := rfl
@[simp] theorem setJob_sys (j : Job) (s : State) : (setJob j s).sys = s.sys := rfl
@[simp] theorem setJob_host (j : Job) (s : State) : (setJob j s).host = s.host := rfl
@[simp] theorem setJob_flt (j : Job) (s : State) : (setJob j s).flt = s.flt := rfl
@[simp] theorem setJob_sec (j : Job) (s : State) : (setJob j s).sec = s.sec := rfl
@[simp] theorem setJob_time (j : Job) (s : State) : (setJob j s).time = s.time := rfl
@[simp] theorem setJob_stn (j : Job) (s : State) : (setJob j s).stn = s.stn := rfl
@[simp] theorem setJob_upd (j : Job) (s : State) : (setJob j s).upd = s.upd := rfl
@[simp] theorem setJob_clk (j : Job) (s : State) : (setJob j s).clk = s.clk := rfl
@[simp] theorem setJob_loop (j : Job) (s : State) : (setJob j s).loop = s.loop := rfl
@[simp] theorem setJob_mem (j : Job) (s : State) : (setJob j s).mem = s.mem := rfl
@[simp] theorem setJob_banks (j : Job) (s : State) : (setJob j s).banks = s.banks := rfl
@[simp] theorem setJob_datum (j : Job) (s : State) : (setJob j s).datum = s.datum := rfl
@[simp] theorem setJob_tr (j : Job) (s : State) : (setJob j s).tr = s.tr := rfl
@[simp] theorem setJob_gate (j : Job) (s : State) : (setJob j s).gate = s.gate := rfl
@[simp] theorem setJob_ports (j : Job) (s : State) : (setJob j s).ports = s.ports := rfl
@[simp] theorem setJob_proof (j : Job) (s : State) : (setJob j s).proof = s.proof := rfl
@[simp] theorem setJob_meter (j : Job) (s : State) : (setJob j s).meter = s.meter := rfl
@[simp] theorem setJob_px (j : Job) (s : State) : (setJob j s).px = s.px := rfl
@[simp] theorem setJob_aln (j : Job) (s : State) : (setJob j s).aln = s.aln := rfl
@[simp] theorem setJob_spool (j : Job) (s : State) : (setJob j s).spool = s.spool := rfl
@[simp] theorem setJob_aux (j : Job) (s : State) : (setJob j s).aux = s.aux := rfl
@[simp] theorem setJob_cal (j : Job) (s : State) : (setJob j s).cal = s.cal := rfl
@[simp] theorem setJob_mot (j : Job) (s : State) : (setJob j s).mot = s.mot := rfl
@[simp] theorem setJob_lamp (j : Job) (s : State) : (setJob j s).lamp = s.lamp := rfl
@[simp] theorem setJob_hbm (j : Job) (s : State) : (setJob j s).hbm = s.hbm := rfl
@[simp] theorem setJob_out (j : Job) (s : State) : (setJob j s).out = s.out := rfl
@[simp] theorem setJob_free (j : Job) (s : State) : (setJob j s).free = s.free := rfl
@[simp] theorem setJob_pending (j : Job) (s : State) : (setJob j s).pending = s.pending := rfl

@[simp] theorem modAux_now (c : Nat) (f : AuxCh → AuxCh) (s : State) : (modAux c f s).now = s.now := rfl
@[simp] theorem modAux_sys (c : Nat) (f : AuxCh → AuxCh) (s : State) : (modAux c f s).sys = s.sys := rfl
@[simp] theorem modAux_host (c : Nat) (f : AuxCh → AuxCh) (s : State) : (modAux c f s).host = s.host := rfl
@[simp] theorem modAux_flt (c : Nat) (f : AuxCh → AuxCh) (s : State) : (modAux c f s).flt = s.flt := rfl
@[simp] theorem modAux_sec (c : Nat) (f : AuxCh → AuxCh) (s : State) : (modAux c f s).sec = s.sec := rfl
@[simp] theorem modAux_time (c : Nat) (f : AuxCh → AuxCh) (s : State) : (modAux c f s).time = s.time := rfl
@[simp] theorem modAux_stn (c : Nat) (f : AuxCh → AuxCh) (s : State) : (modAux c f s).stn = s.stn := rfl
@[simp] theorem modAux_upd (c : Nat) (f : AuxCh → AuxCh) (s : State) : (modAux c f s).upd = s.upd := rfl
@[simp] theorem modAux_clk (c : Nat) (f : AuxCh → AuxCh) (s : State) : (modAux c f s).clk = s.clk := rfl
@[simp] theorem modAux_loop (c : Nat) (f : AuxCh → AuxCh) (s : State) : (modAux c f s).loop = s.loop := rfl
@[simp] theorem modAux_mem (c : Nat) (f : AuxCh → AuxCh) (s : State) : (modAux c f s).mem = s.mem := rfl
@[simp] theorem modAux_banks (c : Nat) (f : AuxCh → AuxCh) (s : State) : (modAux c f s).banks = s.banks := rfl
@[simp] theorem modAux_datum (c : Nat) (f : AuxCh → AuxCh) (s : State) : (modAux c f s).datum = s.datum := rfl
@[simp] theorem modAux_tr (c : Nat) (f : AuxCh → AuxCh) (s : State) : (modAux c f s).tr = s.tr := rfl
@[simp] theorem modAux_gate (c : Nat) (f : AuxCh → AuxCh) (s : State) : (modAux c f s).gate = s.gate := rfl
@[simp] theorem modAux_ports (c : Nat) (f : AuxCh → AuxCh) (s : State) : (modAux c f s).ports = s.ports := rfl
@[simp] theorem modAux_proof (c : Nat) (f : AuxCh → AuxCh) (s : State) : (modAux c f s).proof = s.proof := rfl
@[simp] theorem modAux_meter (c : Nat) (f : AuxCh → AuxCh) (s : State) : (modAux c f s).meter = s.meter := rfl
@[simp] theorem modAux_px (c : Nat) (f : AuxCh → AuxCh) (s : State) : (modAux c f s).px = s.px := rfl
@[simp] theorem modAux_aln (c : Nat) (f : AuxCh → AuxCh) (s : State) : (modAux c f s).aln = s.aln := rfl
@[simp] theorem modAux_dlv (c : Nat) (f : AuxCh → AuxCh) (s : State) : (modAux c f s).dlv = s.dlv := rfl
@[simp] theorem modAux_spool (c : Nat) (f : AuxCh → AuxCh) (s : State) : (modAux c f s).spool = s.spool := rfl
@[simp] theorem modAux_aux (c : Nat) (f : AuxCh → AuxCh) (s : State) : (modAux c f s).aux = { s.aux with chs := nmod {} s.aux.chs c f } := rfl
@[simp] theorem modAux_cal (c : Nat) (f : AuxCh → AuxCh) (s : State) : (modAux c f s).cal = s.cal := rfl
@[simp] theorem modAux_mot (c : Nat) (f : AuxCh → AuxCh) (s : State) : (modAux c f s).mot = s.mot := rfl
@[simp] theorem modAux_lamp (c : Nat) (f : AuxCh → AuxCh) (s : State) : (modAux c f s).lamp = s.lamp := rfl
@[simp] theorem modAux_hbm (c : Nat) (f : AuxCh → AuxCh) (s : State) : (modAux c f s).hbm = s.hbm := rfl
@[simp] theorem modAux_out (c : Nat) (f : AuxCh → AuxCh) (s : State) : (modAux c f s).out = s.out := rfl
@[simp] theorem modAux_free (c : Nat) (f : AuxCh → AuxCh) (s : State) : (modAux c f s).free = s.free := rfl
@[simp] theorem modAux_pending (c : Nat) (f : AuxCh → AuxCh) (s : State) : (modAux c f s).pending = s.pending := rfl

@[simp] theorem modConv_now (x : Nat) (f : Converter → Converter) (s : State) : (modConv x f s).now = s.now := rfl
@[simp] theorem modConv_sys (x : Nat) (f : Converter → Converter) (s : State) : (modConv x f s).sys = s.sys := rfl
@[simp] theorem modConv_host (x : Nat) (f : Converter → Converter) (s : State) : (modConv x f s).host = s.host := rfl
@[simp] theorem modConv_flt (x : Nat) (f : Converter → Converter) (s : State) : (modConv x f s).flt = s.flt := rfl
@[simp] theorem modConv_sec (x : Nat) (f : Converter → Converter) (s : State) : (modConv x f s).sec = s.sec := rfl
@[simp] theorem modConv_time (x : Nat) (f : Converter → Converter) (s : State) : (modConv x f s).time = s.time := rfl
@[simp] theorem modConv_stn (x : Nat) (f : Converter → Converter) (s : State) : (modConv x f s).stn = s.stn := rfl
@[simp] theorem modConv_upd (x : Nat) (f : Converter → Converter) (s : State) : (modConv x f s).upd = s.upd := rfl
@[simp] theorem modConv_clk (x : Nat) (f : Converter → Converter) (s : State) : (modConv x f s).clk = s.clk := rfl
@[simp] theorem modConv_loop (x : Nat) (f : Converter → Converter) (s : State) : (modConv x f s).loop = s.loop := rfl
@[simp] theorem modConv_mem (x : Nat) (f : Converter → Converter) (s : State) : (modConv x f s).mem = s.mem := rfl
@[simp] theorem modConv_banks (x : Nat) (f : Converter → Converter) (s : State) : (modConv x f s).banks = s.banks := rfl
@[simp] theorem modConv_datum (x : Nat) (f : Converter → Converter) (s : State) : (modConv x f s).datum = s.datum := rfl
@[simp] theorem modConv_tr (x : Nat) (f : Converter → Converter) (s : State) : (modConv x f s).tr = s.tr := rfl
@[simp] theorem modConv_gate (x : Nat) (f : Converter → Converter) (s : State) : (modConv x f s).gate = s.gate := rfl
@[simp] theorem modConv_ports (x : Nat) (f : Converter → Converter) (s : State) : (modConv x f s).ports = s.ports := rfl
@[simp] theorem modConv_proof (x : Nat) (f : Converter → Converter) (s : State) : (modConv x f s).proof = s.proof := rfl
@[simp] theorem modConv_meter (x : Nat) (f : Converter → Converter) (s : State) : (modConv x f s).meter = s.meter := rfl
@[simp] theorem modConv_px (x : Nat) (f : Converter → Converter) (s : State) : (modConv x f s).px = s.px := rfl
@[simp] theorem modConv_aln (x : Nat) (f : Converter → Converter) (s : State) : (modConv x f s).aln = s.aln := rfl
@[simp] theorem modConv_dlv (x : Nat) (f : Converter → Converter) (s : State) : (modConv x f s).dlv = s.dlv := rfl
@[simp] theorem modConv_spool (x : Nat) (f : Converter → Converter) (s : State) : (modConv x f s).spool = s.spool := rfl
@[simp] theorem modConv_aux (x : Nat) (f : Converter → Converter) (s : State) : (modConv x f s).aux = { s.aux with convs := nmod {} s.aux.convs x f } := rfl
@[simp] theorem modConv_cal (x : Nat) (f : Converter → Converter) (s : State) : (modConv x f s).cal = s.cal := rfl
@[simp] theorem modConv_mot (x : Nat) (f : Converter → Converter) (s : State) : (modConv x f s).mot = s.mot := rfl
@[simp] theorem modConv_lamp (x : Nat) (f : Converter → Converter) (s : State) : (modConv x f s).lamp = s.lamp := rfl
@[simp] theorem modConv_hbm (x : Nat) (f : Converter → Converter) (s : State) : (modConv x f s).hbm = s.hbm := rfl
@[simp] theorem modConv_out (x : Nat) (f : Converter → Converter) (s : State) : (modConv x f s).out = s.out := rfl
@[simp] theorem modConv_free (x : Nat) (f : Converter → Converter) (s : State) : (modConv x f s).free = s.free := rfl
@[simp] theorem modConv_pending (x : Nat) (f : Converter → Converter) (s : State) : (modConv x f s).pending = s.pending := rfl

@[simp] theorem modAxis_now (n : Nat) (f : Axis → Axis) (s : State) : (modAxis n f s).now = s.now := rfl
@[simp] theorem modAxis_sys (n : Nat) (f : Axis → Axis) (s : State) : (modAxis n f s).sys = s.sys := rfl
@[simp] theorem modAxis_host (n : Nat) (f : Axis → Axis) (s : State) : (modAxis n f s).host = s.host := rfl
@[simp] theorem modAxis_flt (n : Nat) (f : Axis → Axis) (s : State) : (modAxis n f s).flt = s.flt := rfl
@[simp] theorem modAxis_sec (n : Nat) (f : Axis → Axis) (s : State) : (modAxis n f s).sec = s.sec := rfl
@[simp] theorem modAxis_time (n : Nat) (f : Axis → Axis) (s : State) : (modAxis n f s).time = s.time := rfl
@[simp] theorem modAxis_stn (n : Nat) (f : Axis → Axis) (s : State) : (modAxis n f s).stn = s.stn := rfl
@[simp] theorem modAxis_upd (n : Nat) (f : Axis → Axis) (s : State) : (modAxis n f s).upd = s.upd := rfl
@[simp] theorem modAxis_clk (n : Nat) (f : Axis → Axis) (s : State) : (modAxis n f s).clk = s.clk := rfl
@[simp] theorem modAxis_loop (n : Nat) (f : Axis → Axis) (s : State) : (modAxis n f s).loop = s.loop := rfl
@[simp] theorem modAxis_mem (n : Nat) (f : Axis → Axis) (s : State) : (modAxis n f s).mem = s.mem := rfl
@[simp] theorem modAxis_banks (n : Nat) (f : Axis → Axis) (s : State) : (modAxis n f s).banks = s.banks := rfl
@[simp] theorem modAxis_datum (n : Nat) (f : Axis → Axis) (s : State) : (modAxis n f s).datum = s.datum := rfl
@[simp] theorem modAxis_tr (n : Nat) (f : Axis → Axis) (s : State) : (modAxis n f s).tr = s.tr := rfl
@[simp] theorem modAxis_gate (n : Nat) (f : Axis → Axis) (s : State) : (modAxis n f s).gate = s.gate := rfl
@[simp] theorem modAxis_ports (n : Nat) (f : Axis → Axis) (s : State) : (modAxis n f s).ports = s.ports := rfl
@[simp] theorem modAxis_proof (n : Nat) (f : Axis → Axis) (s : State) : (modAxis n f s).proof = s.proof := rfl
@[simp] theorem modAxis_meter (n : Nat) (f : Axis → Axis) (s : State) : (modAxis n f s).meter = s.meter := rfl
@[simp] theorem modAxis_px (n : Nat) (f : Axis → Axis) (s : State) : (modAxis n f s).px = s.px := rfl
@[simp] theorem modAxis_aln (n : Nat) (f : Axis → Axis) (s : State) : (modAxis n f s).aln = s.aln := rfl
@[simp] theorem modAxis_dlv (n : Nat) (f : Axis → Axis) (s : State) : (modAxis n f s).dlv = s.dlv := rfl
@[simp] theorem modAxis_spool (n : Nat) (f : Axis → Axis) (s : State) : (modAxis n f s).spool = s.spool := rfl
@[simp] theorem modAxis_aux (n : Nat) (f : Axis → Axis) (s : State) : (modAxis n f s).aux = s.aux := rfl
@[simp] theorem modAxis_cal (n : Nat) (f : Axis → Axis) (s : State) : (modAxis n f s).cal = s.cal := rfl
@[simp] theorem modAxis_mot (n : Nat) (f : Axis → Axis) (s : State) : (modAxis n f s).mot = { s.mot with axes := nmod {} s.mot.axes n f } := rfl
@[simp] theorem modAxis_lamp (n : Nat) (f : Axis → Axis) (s : State) : (modAxis n f s).lamp = s.lamp := rfl
@[simp] theorem modAxis_hbm (n : Nat) (f : Axis → Axis) (s : State) : (modAxis n f s).hbm = s.hbm := rfl
@[simp] theorem modAxis_out (n : Nat) (f : Axis → Axis) (s : State) : (modAxis n f s).out = s.out := rfl
@[simp] theorem modAxis_free (n : Nat) (f : Axis → Axis) (s : State) : (modAxis n f s).free = s.free := rfl
@[simp] theorem modAxis_pending (n : Nat) (f : Axis → Axis) (s : State) : (modAxis n f s).pending = s.pending := rfl

@[simp] theorem setCycle_now (f : Cycle → Cycle) (s : State) : (setCycle f s).now = s.now := rfl
@[simp] theorem setCycle_sys (f : Cycle → Cycle) (s : State) : (setCycle f s).sys = s.sys := rfl
@[simp] theorem setCycle_host (f : Cycle → Cycle) (s : State) : (setCycle f s).host = s.host := rfl
@[simp] theorem setCycle_flt (f : Cycle → Cycle) (s : State) : (setCycle f s).flt = s.flt := rfl
@[simp] theorem setCycle_sec (f : Cycle → Cycle) (s : State) : (setCycle f s).sec = s.sec := rfl
@[simp] theorem setCycle_time (f : Cycle → Cycle) (s : State) : (setCycle f s).time = s.time := rfl
@[simp] theorem setCycle_stn (f : Cycle → Cycle) (s : State) : (setCycle f s).stn = s.stn := rfl
@[simp] theorem setCycle_upd (f : Cycle → Cycle) (s : State) : (setCycle f s).upd = s.upd := rfl
@[simp] theorem setCycle_clk (f : Cycle → Cycle) (s : State) : (setCycle f s).clk = s.clk := rfl
@[simp] theorem setCycle_loop (f : Cycle → Cycle) (s : State) : (setCycle f s).loop = s.loop := rfl
@[simp] theorem setCycle_mem (f : Cycle → Cycle) (s : State) : (setCycle f s).mem = s.mem := rfl
@[simp] theorem setCycle_banks (f : Cycle → Cycle) (s : State) : (setCycle f s).banks = s.banks := rfl
@[simp] theorem setCycle_datum (f : Cycle → Cycle) (s : State) : (setCycle f s).datum = s.datum := rfl
@[simp] theorem setCycle_tr (f : Cycle → Cycle) (s : State) : (setCycle f s).tr = s.tr := rfl
@[simp] theorem setCycle_gate (f : Cycle → Cycle) (s : State) : (setCycle f s).gate = s.gate := rfl
@[simp] theorem setCycle_ports (f : Cycle → Cycle) (s : State) : (setCycle f s).ports = s.ports := rfl
@[simp] theorem setCycle_proof (f : Cycle → Cycle) (s : State) : (setCycle f s).proof = s.proof := rfl
@[simp] theorem setCycle_meter (f : Cycle → Cycle) (s : State) : (setCycle f s).meter = s.meter := rfl
@[simp] theorem setCycle_px (f : Cycle → Cycle) (s : State) : (setCycle f s).px = s.px := rfl
@[simp] theorem setCycle_aln (f : Cycle → Cycle) (s : State) : (setCycle f s).aln = s.aln := rfl
@[simp] theorem setCycle_dlv (f : Cycle → Cycle) (s : State) : (setCycle f s).dlv = s.dlv := rfl
@[simp] theorem setCycle_spool (f : Cycle → Cycle) (s : State) : (setCycle f s).spool = s.spool := rfl
@[simp] theorem setCycle_aux (f : Cycle → Cycle) (s : State) : (setCycle f s).aux = s.aux := rfl
@[simp] theorem setCycle_cal (f : Cycle → Cycle) (s : State) : (setCycle f s).cal = s.cal := rfl
@[simp] theorem setCycle_mot (f : Cycle → Cycle) (s : State) : (setCycle f s).mot = { s.mot with cycle := s.mot.cycle.map f } := rfl
@[simp] theorem setCycle_lamp (f : Cycle → Cycle) (s : State) : (setCycle f s).lamp = s.lamp := rfl
@[simp] theorem setCycle_hbm (f : Cycle → Cycle) (s : State) : (setCycle f s).hbm = s.hbm := rfl
@[simp] theorem setCycle_out (f : Cycle → Cycle) (s : State) : (setCycle f s).out = s.out := rfl
@[simp] theorem setCycle_free (f : Cycle → Cycle) (s : State) : (setCycle f s).free = s.free := rfl
@[simp] theorem setCycle_pending (f : Cycle → Cycle) (s : State) : (setCycle f s).pending = s.pending := rfl

@[simp] theorem modStr_now (i : Nat) (f : LampStr → LampStr) (s : State) : (modStr i f s).now = s.now := rfl
@[simp] theorem modStr_sys (i : Nat) (f : LampStr → LampStr) (s : State) : (modStr i f s).sys = s.sys := rfl
@[simp] theorem modStr_host (i : Nat) (f : LampStr → LampStr) (s : State) : (modStr i f s).host = s.host := rfl
@[simp] theorem modStr_flt (i : Nat) (f : LampStr → LampStr) (s : State) : (modStr i f s).flt = s.flt := rfl
@[simp] theorem modStr_sec (i : Nat) (f : LampStr → LampStr) (s : State) : (modStr i f s).sec = s.sec := rfl
@[simp] theorem modStr_time (i : Nat) (f : LampStr → LampStr) (s : State) : (modStr i f s).time = s.time := rfl
@[simp] theorem modStr_stn (i : Nat) (f : LampStr → LampStr) (s : State) : (modStr i f s).stn = s.stn := rfl
@[simp] theorem modStr_upd (i : Nat) (f : LampStr → LampStr) (s : State) : (modStr i f s).upd = s.upd := rfl
@[simp] theorem modStr_clk (i : Nat) (f : LampStr → LampStr) (s : State) : (modStr i f s).clk = s.clk := rfl
@[simp] theorem modStr_loop (i : Nat) (f : LampStr → LampStr) (s : State) : (modStr i f s).loop = s.loop := rfl
@[simp] theorem modStr_mem (i : Nat) (f : LampStr → LampStr) (s : State) : (modStr i f s).mem = s.mem := rfl
@[simp] theorem modStr_banks (i : Nat) (f : LampStr → LampStr) (s : State) : (modStr i f s).banks = s.banks := rfl
@[simp] theorem modStr_datum (i : Nat) (f : LampStr → LampStr) (s : State) : (modStr i f s).datum = s.datum := rfl
@[simp] theorem modStr_tr (i : Nat) (f : LampStr → LampStr) (s : State) : (modStr i f s).tr = s.tr := rfl
@[simp] theorem modStr_gate (i : Nat) (f : LampStr → LampStr) (s : State) : (modStr i f s).gate = s.gate := rfl
@[simp] theorem modStr_ports (i : Nat) (f : LampStr → LampStr) (s : State) : (modStr i f s).ports = s.ports := rfl
@[simp] theorem modStr_proof (i : Nat) (f : LampStr → LampStr) (s : State) : (modStr i f s).proof = s.proof := rfl
@[simp] theorem modStr_meter (i : Nat) (f : LampStr → LampStr) (s : State) : (modStr i f s).meter = s.meter := rfl
@[simp] theorem modStr_px (i : Nat) (f : LampStr → LampStr) (s : State) : (modStr i f s).px = s.px := rfl
@[simp] theorem modStr_aln (i : Nat) (f : LampStr → LampStr) (s : State) : (modStr i f s).aln = s.aln := rfl
@[simp] theorem modStr_dlv (i : Nat) (f : LampStr → LampStr) (s : State) : (modStr i f s).dlv = s.dlv := rfl
@[simp] theorem modStr_spool (i : Nat) (f : LampStr → LampStr) (s : State) : (modStr i f s).spool = s.spool := rfl
@[simp] theorem modStr_aux (i : Nat) (f : LampStr → LampStr) (s : State) : (modStr i f s).aux = s.aux := rfl
@[simp] theorem modStr_cal (i : Nat) (f : LampStr → LampStr) (s : State) : (modStr i f s).cal = s.cal := rfl
@[simp] theorem modStr_mot (i : Nat) (f : LampStr → LampStr) (s : State) : (modStr i f s).mot = s.mot := rfl
@[simp] theorem modStr_lamp (i : Nat) (f : LampStr → LampStr) (s : State) : (modStr i f s).lamp = { s.lamp with strs := tset {} i (f (lampStr s i)) s.lamp.strs } := rfl
@[simp] theorem modStr_hbm (i : Nat) (f : LampStr → LampStr) (s : State) : (modStr i f s).hbm = s.hbm := rfl
@[simp] theorem modStr_out (i : Nat) (f : LampStr → LampStr) (s : State) : (modStr i f s).out = s.out := rfl
@[simp] theorem modStr_free (i : Nat) (f : LampStr → LampStr) (s : State) : (modStr i f s).free = s.free := rfl
@[simp] theorem modStr_pending (i : Nat) (f : LampStr → LampStr) (s : State) : (modStr i f s).pending = s.pending := rfl

@[simp] theorem modSlice_now (n : Nat) (f : LSlice → LSlice) (s : State) : (modSlice n f s).now = s.now := rfl
@[simp] theorem modSlice_sys (n : Nat) (f : LSlice → LSlice) (s : State) : (modSlice n f s).sys = s.sys := rfl
@[simp] theorem modSlice_host (n : Nat) (f : LSlice → LSlice) (s : State) : (modSlice n f s).host = s.host := rfl
@[simp] theorem modSlice_flt (n : Nat) (f : LSlice → LSlice) (s : State) : (modSlice n f s).flt = s.flt := rfl
@[simp] theorem modSlice_sec (n : Nat) (f : LSlice → LSlice) (s : State) : (modSlice n f s).sec = s.sec := rfl
@[simp] theorem modSlice_time (n : Nat) (f : LSlice → LSlice) (s : State) : (modSlice n f s).time = s.time := rfl
@[simp] theorem modSlice_stn (n : Nat) (f : LSlice → LSlice) (s : State) : (modSlice n f s).stn = s.stn := rfl
@[simp] theorem modSlice_upd (n : Nat) (f : LSlice → LSlice) (s : State) : (modSlice n f s).upd = s.upd := rfl
@[simp] theorem modSlice_clk (n : Nat) (f : LSlice → LSlice) (s : State) : (modSlice n f s).clk = s.clk := rfl
@[simp] theorem modSlice_loop (n : Nat) (f : LSlice → LSlice) (s : State) : (modSlice n f s).loop = s.loop := rfl
@[simp] theorem modSlice_mem (n : Nat) (f : LSlice → LSlice) (s : State) : (modSlice n f s).mem = s.mem := rfl
@[simp] theorem modSlice_banks (n : Nat) (f : LSlice → LSlice) (s : State) : (modSlice n f s).banks = s.banks := rfl
@[simp] theorem modSlice_datum (n : Nat) (f : LSlice → LSlice) (s : State) : (modSlice n f s).datum = s.datum := rfl
@[simp] theorem modSlice_tr (n : Nat) (f : LSlice → LSlice) (s : State) : (modSlice n f s).tr = s.tr := rfl
@[simp] theorem modSlice_gate (n : Nat) (f : LSlice → LSlice) (s : State) : (modSlice n f s).gate = s.gate := rfl
@[simp] theorem modSlice_ports (n : Nat) (f : LSlice → LSlice) (s : State) : (modSlice n f s).ports = s.ports := rfl
@[simp] theorem modSlice_proof (n : Nat) (f : LSlice → LSlice) (s : State) : (modSlice n f s).proof = s.proof := rfl
@[simp] theorem modSlice_meter (n : Nat) (f : LSlice → LSlice) (s : State) : (modSlice n f s).meter = s.meter := rfl
@[simp] theorem modSlice_px (n : Nat) (f : LSlice → LSlice) (s : State) : (modSlice n f s).px = s.px := rfl
@[simp] theorem modSlice_aln (n : Nat) (f : LSlice → LSlice) (s : State) : (modSlice n f s).aln = s.aln := rfl
@[simp] theorem modSlice_dlv (n : Nat) (f : LSlice → LSlice) (s : State) : (modSlice n f s).dlv = s.dlv := rfl
@[simp] theorem modSlice_spool (n : Nat) (f : LSlice → LSlice) (s : State) : (modSlice n f s).spool = s.spool := rfl
@[simp] theorem modSlice_aux (n : Nat) (f : LSlice → LSlice) (s : State) : (modSlice n f s).aux = s.aux := rfl
@[simp] theorem modSlice_cal (n : Nat) (f : LSlice → LSlice) (s : State) : (modSlice n f s).cal = s.cal := rfl
@[simp] theorem modSlice_mot (n : Nat) (f : LSlice → LSlice) (s : State) : (modSlice n f s).mot = s.mot := rfl
@[simp] theorem modSlice_lamp (n : Nat) (f : LSlice → LSlice) (s : State) : (modSlice n f s).lamp = { s.lamp with slices := tset {} n (f (lampSlice s n)) s.lamp.slices } := rfl
@[simp] theorem modSlice_hbm (n : Nat) (f : LSlice → LSlice) (s : State) : (modSlice n f s).hbm = s.hbm := rfl
@[simp] theorem modSlice_out (n : Nat) (f : LSlice → LSlice) (s : State) : (modSlice n f s).out = s.out := rfl
@[simp] theorem modSlice_free (n : Nat) (f : LSlice → LSlice) (s : State) : (modSlice n f s).free = s.free := rfl
@[simp] theorem modSlice_pending (n : Nat) (f : LSlice → LSlice) (s : State) : (modSlice n f s).pending = s.pending := rfl

@[simp] theorem setRun_now (f : CalRun → CalRun) (s : State) : (setRun f s).now = s.now := rfl
@[simp] theorem setRun_sys (f : CalRun → CalRun) (s : State) : (setRun f s).sys = s.sys := rfl
@[simp] theorem setRun_host (f : CalRun → CalRun) (s : State) : (setRun f s).host = s.host := rfl
@[simp] theorem setRun_flt (f : CalRun → CalRun) (s : State) : (setRun f s).flt = s.flt := rfl
@[simp] theorem setRun_sec (f : CalRun → CalRun) (s : State) : (setRun f s).sec = s.sec := rfl
@[simp] theorem setRun_time (f : CalRun → CalRun) (s : State) : (setRun f s).time = s.time := rfl
@[simp] theorem setRun_stn (f : CalRun → CalRun) (s : State) : (setRun f s).stn = s.stn := rfl
@[simp] theorem setRun_upd (f : CalRun → CalRun) (s : State) : (setRun f s).upd = s.upd := rfl
@[simp] theorem setRun_clk (f : CalRun → CalRun) (s : State) : (setRun f s).clk = s.clk := rfl
@[simp] theorem setRun_loop (f : CalRun → CalRun) (s : State) : (setRun f s).loop = s.loop := rfl
@[simp] theorem setRun_mem (f : CalRun → CalRun) (s : State) : (setRun f s).mem = s.mem := rfl
@[simp] theorem setRun_banks (f : CalRun → CalRun) (s : State) : (setRun f s).banks = s.banks := rfl
@[simp] theorem setRun_datum (f : CalRun → CalRun) (s : State) : (setRun f s).datum = s.datum := rfl
@[simp] theorem setRun_tr (f : CalRun → CalRun) (s : State) : (setRun f s).tr = s.tr := rfl
@[simp] theorem setRun_gate (f : CalRun → CalRun) (s : State) : (setRun f s).gate = s.gate := rfl
@[simp] theorem setRun_ports (f : CalRun → CalRun) (s : State) : (setRun f s).ports = s.ports := rfl
@[simp] theorem setRun_proof (f : CalRun → CalRun) (s : State) : (setRun f s).proof = s.proof := rfl
@[simp] theorem setRun_meter (f : CalRun → CalRun) (s : State) : (setRun f s).meter = s.meter := rfl
@[simp] theorem setRun_px (f : CalRun → CalRun) (s : State) : (setRun f s).px = s.px := rfl
@[simp] theorem setRun_aln (f : CalRun → CalRun) (s : State) : (setRun f s).aln = s.aln := rfl
@[simp] theorem setRun_dlv (f : CalRun → CalRun) (s : State) : (setRun f s).dlv = s.dlv := rfl
@[simp] theorem setRun_spool (f : CalRun → CalRun) (s : State) : (setRun f s).spool = s.spool := rfl
@[simp] theorem setRun_aux (f : CalRun → CalRun) (s : State) : (setRun f s).aux = s.aux := rfl
@[simp] theorem setRun_cal (f : CalRun → CalRun) (s : State) : (setRun f s).cal = { s.cal with run := s.cal.run.map f } := rfl
@[simp] theorem setRun_mot (f : CalRun → CalRun) (s : State) : (setRun f s).mot = s.mot := rfl
@[simp] theorem setRun_lamp (f : CalRun → CalRun) (s : State) : (setRun f s).lamp = s.lamp := rfl
@[simp] theorem setRun_hbm (f : CalRun → CalRun) (s : State) : (setRun f s).hbm = s.hbm := rfl
@[simp] theorem setRun_out (f : CalRun → CalRun) (s : State) : (setRun f s).out = s.out := rfl
@[simp] theorem setRun_free (f : CalRun → CalRun) (s : State) : (setRun f s).free = s.free := rfl
@[simp] theorem setRun_pending (f : CalRun → CalRun) (s : State) : (setRun f s).pending = s.pending := rfl

@[simp] theorem stnCount_now (f : StnCounters → StnCounters) (s : State) : (stnCount f s).now = s.now := rfl
@[simp] theorem stnCount_sys (f : StnCounters → StnCounters) (s : State) : (stnCount f s).sys = s.sys := rfl
@[simp] theorem stnCount_host (f : StnCounters → StnCounters) (s : State) : (stnCount f s).host = s.host := rfl
@[simp] theorem stnCount_flt (f : StnCounters → StnCounters) (s : State) : (stnCount f s).flt = s.flt := rfl
@[simp] theorem stnCount_sec (f : StnCounters → StnCounters) (s : State) : (stnCount f s).sec = s.sec := rfl
@[simp] theorem stnCount_time (f : StnCounters → StnCounters) (s : State) : (stnCount f s).time = s.time := rfl
@[simp] theorem stnCount_stn (f : StnCounters → StnCounters) (s : State) : (stnCount f s).stn = { s.stn with cnt := f s.stn.cnt } := rfl
@[simp] theorem stnCount_upd (f : StnCounters → StnCounters) (s : State) : (stnCount f s).upd = s.upd := rfl
@[simp] theorem stnCount_clk (f : StnCounters → StnCounters) (s : State) : (stnCount f s).clk = s.clk := rfl
@[simp] theorem stnCount_loop (f : StnCounters → StnCounters) (s : State) : (stnCount f s).loop = s.loop := rfl
@[simp] theorem stnCount_mem (f : StnCounters → StnCounters) (s : State) : (stnCount f s).mem = s.mem := rfl
@[simp] theorem stnCount_banks (f : StnCounters → StnCounters) (s : State) : (stnCount f s).banks = s.banks := rfl
@[simp] theorem stnCount_datum (f : StnCounters → StnCounters) (s : State) : (stnCount f s).datum = s.datum := rfl
@[simp] theorem stnCount_tr (f : StnCounters → StnCounters) (s : State) : (stnCount f s).tr = s.tr := rfl
@[simp] theorem stnCount_gate (f : StnCounters → StnCounters) (s : State) : (stnCount f s).gate = s.gate := rfl
@[simp] theorem stnCount_ports (f : StnCounters → StnCounters) (s : State) : (stnCount f s).ports = s.ports := rfl
@[simp] theorem stnCount_proof (f : StnCounters → StnCounters) (s : State) : (stnCount f s).proof = s.proof := rfl
@[simp] theorem stnCount_meter (f : StnCounters → StnCounters) (s : State) : (stnCount f s).meter = s.meter := rfl
@[simp] theorem stnCount_px (f : StnCounters → StnCounters) (s : State) : (stnCount f s).px = s.px := rfl
@[simp] theorem stnCount_aln (f : StnCounters → StnCounters) (s : State) : (stnCount f s).aln = s.aln := rfl
@[simp] theorem stnCount_dlv (f : StnCounters → StnCounters) (s : State) : (stnCount f s).dlv = s.dlv := rfl
@[simp] theorem stnCount_spool (f : StnCounters → StnCounters) (s : State) : (stnCount f s).spool = s.spool := rfl
@[simp] theorem stnCount_aux (f : StnCounters → StnCounters) (s : State) : (stnCount f s).aux = s.aux := rfl
@[simp] theorem stnCount_cal (f : StnCounters → StnCounters) (s : State) : (stnCount f s).cal = s.cal := rfl
@[simp] theorem stnCount_mot (f : StnCounters → StnCounters) (s : State) : (stnCount f s).mot = s.mot := rfl
@[simp] theorem stnCount_lamp (f : StnCounters → StnCounters) (s : State) : (stnCount f s).lamp = s.lamp := rfl
@[simp] theorem stnCount_hbm (f : StnCounters → StnCounters) (s : State) : (stnCount f s).hbm = s.hbm := rfl
@[simp] theorem stnCount_out (f : StnCounters → StnCounters) (s : State) : (stnCount f s).out = s.out := rfl
@[simp] theorem stnCount_free (f : StnCounters → StnCounters) (s : State) : (stnCount f s).free = s.free := rfl
@[simp] theorem stnCount_pending (f : StnCounters → StnCounters) (s : State) : (stnCount f s).pending = s.pending := rfl

@[simp] theorem hbmWrite_now (a : Nat) (bs : List Byte) (s : State) : (hbmWrite a bs s).now = s.now := rfl
@[simp] theorem hbmWrite_sys (a : Nat) (bs : List Byte) (s : State) : (hbmWrite a bs s).sys = s.sys := rfl
@[simp] theorem hbmWrite_host (a : Nat) (bs : List Byte) (s : State) : (hbmWrite a bs s).host = s.host := rfl
@[simp] theorem hbmWrite_flt (a : Nat) (bs : List Byte) (s : State) : (hbmWrite a bs s).flt = s.flt := rfl
@[simp] theorem hbmWrite_sec (a : Nat) (bs : List Byte) (s : State) : (hbmWrite a bs s).sec = s.sec := rfl
@[simp] theorem hbmWrite_time (a : Nat) (bs : List Byte) (s : State) : (hbmWrite a bs s).time = s.time := rfl
@[simp] theorem hbmWrite_stn (a : Nat) (bs : List Byte) (s : State) : (hbmWrite a bs s).stn = s.stn := rfl
@[simp] theorem hbmWrite_upd (a : Nat) (bs : List Byte) (s : State) : (hbmWrite a bs s).upd = s.upd := rfl
@[simp] theorem hbmWrite_clk (a : Nat) (bs : List Byte) (s : State) : (hbmWrite a bs s).clk = s.clk := rfl
@[simp] theorem hbmWrite_loop (a : Nat) (bs : List Byte) (s : State) : (hbmWrite a bs s).loop = s.loop := rfl
@[simp] theorem hbmWrite_mem (a : Nat) (bs : List Byte) (s : State) : (hbmWrite a bs s).mem = s.mem := rfl
@[simp] theorem hbmWrite_banks (a : Nat) (bs : List Byte) (s : State) : (hbmWrite a bs s).banks = s.banks := rfl
@[simp] theorem hbmWrite_datum (a : Nat) (bs : List Byte) (s : State) : (hbmWrite a bs s).datum = s.datum := rfl
@[simp] theorem hbmWrite_tr (a : Nat) (bs : List Byte) (s : State) : (hbmWrite a bs s).tr = s.tr := rfl
@[simp] theorem hbmWrite_gate (a : Nat) (bs : List Byte) (s : State) : (hbmWrite a bs s).gate = s.gate := rfl
@[simp] theorem hbmWrite_ports (a : Nat) (bs : List Byte) (s : State) : (hbmWrite a bs s).ports = s.ports := rfl
@[simp] theorem hbmWrite_proof (a : Nat) (bs : List Byte) (s : State) : (hbmWrite a bs s).proof = s.proof := rfl
@[simp] theorem hbmWrite_meter (a : Nat) (bs : List Byte) (s : State) : (hbmWrite a bs s).meter = s.meter := rfl
@[simp] theorem hbmWrite_px (a : Nat) (bs : List Byte) (s : State) : (hbmWrite a bs s).px = s.px := rfl
@[simp] theorem hbmWrite_aln (a : Nat) (bs : List Byte) (s : State) : (hbmWrite a bs s).aln = s.aln := rfl
@[simp] theorem hbmWrite_dlv (a : Nat) (bs : List Byte) (s : State) : (hbmWrite a bs s).dlv = s.dlv := rfl
@[simp] theorem hbmWrite_spool (a : Nat) (bs : List Byte) (s : State) : (hbmWrite a bs s).spool = s.spool := rfl
@[simp] theorem hbmWrite_aux (a : Nat) (bs : List Byte) (s : State) : (hbmWrite a bs s).aux = s.aux := rfl
@[simp] theorem hbmWrite_cal (a : Nat) (bs : List Byte) (s : State) : (hbmWrite a bs s).cal = s.cal := rfl
@[simp] theorem hbmWrite_mot (a : Nat) (bs : List Byte) (s : State) : (hbmWrite a bs s).mot = s.mot := rfl
@[simp] theorem hbmWrite_lamp (a : Nat) (bs : List Byte) (s : State) : (hbmWrite a bs s).lamp = s.lamp := rfl
@[simp] theorem hbmWrite_out (a : Nat) (bs : List Byte) (s : State) : (hbmWrite a bs s).out = s.out := rfl
@[simp] theorem hbmWrite_free (a : Nat) (bs : List Byte) (s : State) : (hbmWrite a bs s).free = s.free := rfl
@[simp] theorem hbmWrite_pending (a : Nat) (bs : List Byte) (s : State) : (hbmWrite a bs s).pending = s.pending := rfl

end Sys2Proof.Machine
end

