-- ==== Sys2Proof/Laws/Tables.lean ====
section
/-! SUPPORT. Sparse tables and the memory: a read after a write, what a write leaves alone, and the canonical form that every write keeps. -/

namespace Sys2Proof.Machine

open Sys2Proof

theorem twfFrom_mono {α : Type} [DecidableEq α] {d : α} {lo lo' : Nat} {t : Tbl α} (h : lo' ≤ lo) (w : twfFrom d lo t = true) : twfFrom d lo' t = true := by
  cases t with
  | nil => rfl
  | cons e r =>
    obtain ⟨j, a⟩ := e
    simp only [twfFrom, Bool.and_eq_true, decide_eq_true_eq] at w ⊢
    exact ⟨⟨by omega, w.1.2⟩, w.2⟩

/-- Below the first index of a canonical table every record is the default. -/
theorem tget_below {α : Type} [DecidableEq α] {d : α} {lo k : Nat} {t : Tbl α} (w : twfFrom d lo t = true) (h : k < lo) : tget d k t = d := by
  cases t with
  | nil => rfl
  | cons e r =>
    obtain ⟨j, a⟩ := e
    simp only [twfFrom, Bool.and_eq_true, decide_eq_true_eq] at w
    simp only [tget]
    rw [if_neg (by omega), if_pos (by omega)]

theorem tget_tset_same_from {α : Type} [DecidableEq α] {d v : α} {k : Nat} {t : Tbl α} : ∀ {lo}, twfFrom d lo t = true → tget d k (tset d k v t) = v := by
  induction t with
  | nil => intro lo _; by_cases h : v = d <;> simp [tset, tget, h]
  | cons e r ih =>
    intro lo w
    obtain ⟨j, a⟩ := e
    simp only [twfFrom, Bool.and_eq_true, decide_eq_true_eq] at w
    simp only [tset]
    split
    · next hk => split
                 · next hv => subst hv; simp only [tget]; rw [if_neg (by omega), if_pos hk]
                 · simp [tget]
    · split
      · next hk => subst hk; split
                   · next hv => subst hv; exact tget_below w.2 (by omega)
                   · simp [tget]
      · next h1 h2 => simp only [tget]; rw [if_neg (fun e => h2 e.symm), if_neg h1]; exact ih w.2

/-- A read after a write to the same index gives what was written. -/
theorem tget_tset_same {α : Type} [DecidableEq α] {d v : α} {k : Nat} {t : Tbl α} (w : twf d t = true) : tget d k (tset d k v t) = v := tget_tset_same_from w

theorem tget_tset_other_from {α : Type} [DecidableEq α] {d v : α} {k i : Nat} {t : Tbl α} (h : i ≠ k) : ∀ {lo}, twfFrom d lo t = true → tget d i (tset d k v t) = tget d i t := by
  induction t with
  | nil => intro lo _; by_cases hv : v = d <;> simp [tset, tget, hv, Ne.symm h]
  | cons e r ih =>
    intro lo w
    obtain ⟨j, a⟩ := e
    simp only [twfFrom, Bool.and_eq_true, decide_eq_true_eq] at w
    simp only [tset]
    split
    · next hk => split
                 · rfl
                 · simp only [tget]
                   rw [if_neg (Ne.symm h)]
                   by_cases hi : i < k
                   · rw [if_pos hi, if_neg (by omega), if_pos (by omega)]
                   · rw [if_neg hi]
    · split
      · next hk => subst hk; split
                   · simp only [tget]; rw [if_neg (Ne.symm h)]
                     by_cases hi : i < k
                     · rw [if_pos hi]; exact tget_below w.2 (by omega)
                     · rw [if_neg hi]
                   · simp only [tget]; rw [if_neg (Ne.symm h), if_neg (Ne.symm h)]
      · simp only [tget]; split
        · rfl
        · split
          · rfl
          · exact ih w.2

/-- A write leaves every other index alone. -/
theorem tget_tset_other {α : Type} [DecidableEq α] {d v : α} {k i : Nat} {t : Tbl α} (h : i ≠ k) (w : twf d t = true) : tget d i (tset d k v t) = tget d i t :=
  tget_tset_other_from h w

theorem twfFrom_tset {α : Type} [DecidableEq α] {d v : α} {k : Nat} {t : Tbl α} : ∀ {lo}, lo ≤ k → twfFrom d lo t = true → twfFrom d lo (tset d k v t) = true := by
  induction t with
  | nil =>
    intro lo h _
    simp only [tset]
    split
    · rfl
    · next hv => simp [twfFrom, h, hv]
  | cons e r ih =>
    intro lo h w
    obtain ⟨j, a⟩ := e
    have w' := w
    simp only [twfFrom, Bool.and_eq_true, decide_eq_true_eq] at w
    simp only [tset]
    split
    · next hk => split
                 · exact w'
                 · next hv => simp only [twfFrom, Bool.and_eq_true, decide_eq_true_eq]; exact ⟨⟨h, hv⟩, ⟨⟨by omega, w.1.2⟩, w.2⟩⟩
    · split
      · next hk => subst hk; split
                   · exact twfFrom_mono (by omega) w.2
                   · next hv => simp only [twfFrom, Bool.and_eq_true, decide_eq_true_eq]; exact ⟨⟨h, hv⟩, w.2⟩
      · next h1 h2 => simp only [twfFrom, Bool.and_eq_true, decide_eq_true_eq]; exact ⟨w.1, ih (by omega) w.2⟩

/-- A write keeps the canonical form. -/
theorem twf_tset {α : Type} [DecidableEq α] {d v : α} {k : Nat} {t : Tbl α} (w : twf d t = true) : twf d (tset d k v t) = true := twfFrom_tset (Nat.zero_le k) w

theorem twf_tmod {α : Type} [DecidableEq α] {d : α} {k : Nat} {f : α → α} {t : Tbl α} (w : twf d t = true) : twf d (tmod d k f t) = true := twf_tset w

/-- A run of writes keeps the canonical form. -/
theorem twf_writes {α : Type} [DecidableEq α] {d : α} {l : List (Nat × α)} : ∀ {t : Tbl α}, twf d t = true → twf d (l.foldl (fun m e => tset d (e.1 % 2 ^ 34) e.2 m) t) = true := by
  induction l with
  | nil => exact fun w => w
  | cons e r ih => exact fun w => ih (twf_tset w)

/-- A run of writes leaves alone every index that it does not name. -/
theorem tget_writes_other {α : Type} [DecidableEq α] {d : α} {i : Nat} {l : List (Nat × α)} (h : ∀ e ∈ l, i ≠ e.1 % 2 ^ 34) :
    ∀ {t : Tbl α}, twf d t = true → tget d i (l.foldl (fun m e => tset d (e.1 % 2 ^ 34) e.2 m) t) = tget d i t := by
  induction l with
  | nil => exact fun _ => rfl
  | cons e r ih =>
    intro t w
    exact (ih (fun x hx => h x (List.mem_cons_of_mem _ hx)) (twf_tset w)).trans (tget_tset_other (h e List.mem_cons_self) w)

/-! ### The memory (log 4) -/

theorem reset_memory_wf : Memory.wf State.reset.hbm = true := rfl

/-- Everything that the one writing operation of the memory can do: the canonical form stays, and every other field of the state. -/
theorem hbmWrite_spec (a : Nat) (bs : List Byte) (s : State) : ∃ m, hbmWrite a bs s = { s with hbm := m } ∧ (Memory.wf s.hbm = true → Memory.wf m = true) :=
  ⟨_, rfl, twf_writes⟩

theorem withIdx'_bounds {a : Nat} {bs : List Byte} : ∀ e ∈ hbmWrite.withIdx' a bs, a ≤ e.1 ∧ e.1 < a + bs.length := by
  induction bs generalizing a with
  | nil => intro e h; cases h
  | cons b r ih =>
    intro e h
    simp only [hbmWrite.withIdx', List.mem_cons] at h
    rcases h with rfl | h
    · simp
    · have := ih e h; simp only [List.length_cons]; omega

/-- Every byte outside the bytes written reads as before. -/
theorem hbmRead_hbmWrite_other {a i : Nat} {bs : List Byte} {s : State} (w : Memory.wf s.hbm = true) (h : ∀ k, k < bs.length → i % 2 ^ 34 ≠ (a + k) % 2 ^ 34) :
    hbmRead (hbmWrite a bs s) i = hbmRead s i := by
  refine tget_writes_other (fun e he => ?_) w
  obtain ⟨h1, h2⟩ := withIdx'_bounds e he
  have := h (e.1 - a) (by omega)
  rwa [show a + (e.1 - a) = e.1 by omega] at this

end Sys2Proof.Machine
end

