-- ==== Sys2Proof/Tests/Slice0.lean ====
section
/-! SUPPORT. Tests: what WellFormed refuses, the manual's worked examples, single steps, and for every statement with hypotheses a state and operands that meet them. -/

-- One worker at a time: a compile of every test at once asks for more threads than some machines give.
set_option Elab.async false

namespace Sys2Proof.Tests

open Sys2Proof Sys2Proof.Machine Sys2Proof.Safety

/-- Awake in mode m, with mailbox service. -/
def base (m : Mode) : State := { State.reset with sys := { mode := m, service := true, porN := true } }

/-- Source src holds a request of LENGTH n; its parameters are those listed, then zeros. -/
def ask (src op flags n : Nat) (params : List Byte) (s : State) : State :=
  { s with host.mbs := s.host.mbs.set src { state := .busy, latched := { opcode := op, flags := flags, length := n, params := params ++ zeros (n - params.length) } }, host.order := s.host.order ++ [src] }

/-- MB0 holds a request of n bytes, all zero but those from offset 0. -/
def req (m : Mode) (op : Nat) (bs : List Byte) (n : Nat) : State := ask 0 op 0 n bs (base m)

/-- What a step answers when it goes on. -/
def stepped (c : Instr) (s : State) : Option State :=
  match step { s with pending := [c] } with
  | .next n => some n
  | _ => none

/-! ### What WellFormed refuses -/

theorem test_wf_ports : ([.syncRise 0 32, .syncFall 0 32, .lateError 0 32, .retrainRetry 0 32, .ctlReplyLost 0 32, .lockLoss 0 0 4, .blockLockLoss 0 0 ⟨4, []⟩, .blockLockLoss 0 0 ⟨0, [4]⟩, .tilePacket 0 0 0 [[0, 0, 0]], .alignmentRow 0 0 0 [[0, 0, 0, 2 ^ 66]]] : List Instr).all (fun c => !c.wf) = true := by decide

theorem test_wf_streams : ([.boltDispatch 0 8, .ringTailWrite 0 0 (2 ^ 32), .itemDelivery 0 8, .descriptorFetch 0 0 (zeros 31), .nvmeTimeout 0 8 0, .spoolFormatComplete 0 [{}]] : List Instr).all (fun c => !c.wf) = true := by decide

theorem test_wf_axes_and_lamps : ([.pwmPeriod 0 4, .switchEdge 0 0 3 true, .lampSlot 0 64, .stringRetry 0 512, .runningWhiteBlock 0 2 0, .runningWhiteBlock 0 0 4] : List Instr).all (fun c => !c.wf) = true := by decide

theorem test_wf_host : ([.mbDoorbell 0 4 0, .mbDoorbell 0 0 (2 ^ 32), .evqVector 0 64, .registerWrite 0 0 ⟨0, []⟩, .registerWrite 0 0 ⟨2, [0]⟩, .registerWrite 0 (2 ^ 20) ⟨1, [0]⟩, .bar2Read 0 (2 ^ 32) 1, .msixUnmask 0 64, .snapshotLoRead 0 5, .auxStatusRead 0 16, .rcRegisterRead 0 ⟨2 ^ 20, 1⟩, .pcieLinkUp 0 7 8, .linkRateChange 0 4 3, .hostInterfaceReset 0 6, .modeGet 0 5] : List Instr).all (fun c => !c.wf) = true := by decide

theorem test_wf_analogue : ([.ad2Conversion 0 (.channel 16) 0, .ad2Conversion 0 (.rail 3) 0, .ad2Conversion 0 (.supply 4) 0, .ad2Conversion 0 (.dieTemp 8) 0, .ad2Conversion 0 (.calibration 24) 0, .deltaSigmaConversion 0 2 0 0, .excitationOverload 0 2, .selfCalibrationComplete 0 0 [{ range := 0, zero := [], ref := [] }], .thermalTrip 0 8] : List Instr).all (fun c => !c.wf) = true := by decide

theorem test_wf_rest : ([.clockStop 0 ⟨18, 0⟩, .clockStepRaise 0 ⟨18, 1, 1, true⟩, .clockStepLower 0 ⟨18, 0⟩, .hbmError 0 (2 ^ 34) true, .sramError 0 6 0 0 true, .scrub 0 [{ store := 7, unit := 0, addr := 0, double := true }], .verificationComplete 0 16 true, .jtagUnlock 0 [], .jtagInstruction 0 32, .encoderEdge 0 ⟨4, 0⟩ true true, .cueEdge 0 ⟨4, 0⟩ true, .ctlTransaction 0 0 true (2 ^ 16) 0, .porNRise 0 (2 ^ 16) 0] : List Instr).all (fun c => !c.wf) = true := by decide

theorem test_wf_frames : ([({ dstMac := 0, srcMac := 2 ^ 48, version := 1, kind := 1, srcNode := 0, dstNode := 0, nflags := 0, srcBoot := 0, seq := 0, time := 0, payload := [], tag := zeros 8 } : NspFrame),
    { dstMac := 0, srcMac := 0, version := 1, kind := 1, srcNode := 0, dstNode := 0, nflags := 0, srcBoot := 0, seq := 0, time := 0, payload := [], tag := [] }] : List NspFrame).all (fun f => !f.wf) = true := by decide

/-- A well-formed one of each kind. -/
theorem test_wf_accepts : ([.syncRise 0 31, .ringTailWrite 0 7 (2 ^ 32 - 1), .evqVector 0 63, .registerWrite 0 (2 ^ 20 - 1) ⟨1, [0]⟩, .pcieLinkUp 0 6 16, .blockLockLoss 0 31 ⟨3, [0, 1, 2, 3]⟩, .tilePacket 0 31 0 [[0, 1, 2, 2 ^ 66 - 1]], .ctlTransaction 0 31 true 0xFFF (2 ^ 32 - 1), .hbmError 0 (2 ^ 34 - 1) false, .jtagInstruction 0 4, .porNFall 0] : List Instr).all Instr.wf = true := by decide

/-! ### The manual's worked examples -/

/-- Chapter 3, modular order: 0x0000_0010 follows 0xFFFF_FFF0; chapter 8: bolt 5 follows 0xFFFF_FFFA. -/
theorem test_modular_order : follows 32 0xFFFFFFF0 0x10 = true ∧ follows 32 0xFFFFFFFA 5 = true ∧ follows 32 5 0xFFFFFFFA = false := by decide

/-- Chapter 4: the first four 12-bit codes of W2. -/
theorem test_packed_codes : unpackCodes 0xABC789456123 12 4 = [0x123, 0x456, 0x789, 0xABC] := by decide

/-- Chapter 5: the dark reference of the example, and the corrected sample of Table 5.5. -/
theorem test_dark_reference : darkRef [64, 65, 63, 66, 64, 62, 65, 64, 63, 64, 66, 65, 64, 63, 120, 64] = 1029 := by decide

theorem test_corrected_sample :
    let c := collapse [0x3F800000, 0x3C800000, 0xBD000000, 0x3C000000, 0xBA000000, 0, 0x39800000, 0, 0, 0] 2195456
    c = [267321344, 4194304, -7831552, 2097152] ∧ correct3 12 1029 (5242880 * 2 ^ 40 + 40 * 2 ^ 20 + 7 * 2 ^ 12) c 8404992 2900 = 56507 := by decide

/-- Chapter 5, running white: the target, one step of +2048, and port 10 between the two sides. -/
theorem test_running_white : rnd (8388608 * 58982) 58700 = 8428908 ∧ clampI (8428908 - 8388608) (-2048) 2048 = 2048 ∧ rwTerm (some (0, 8428908)) (some (31, 8388608)) 10 = 8415908 := by decide

/-- Chapter 6: the 12-bit and the 8-bit code of y = 56 507. -/
theorem test_output_codes : rnd (56507 * 4095) 65536 = 3531 ∧ rnd 14409285 65536 = 220 ∧ rnd 226814 4 = 56704 := by decide

/-- Chapter 8: K, q and MAXERR of the example bolt, and its first bytes (Tables 8.4 and 8.5). -/
theorem test_fixed_bolt :
    let rows := [List.replicate 64 128, List.replicate 64 130, List.replicate 64 130, (List.range 64).map (fun i => if i % 2 = 0 then 130 else 151)]
    let p := fixedPayload 8 8 1 rows
    p.2 = 1 ∧ p.1.take 4 = [0x00, 0x42, 0x04, 0x00] ∧ p.1.length = 64 ∧ losslessCost 8 128 128 (subBlocks 1 rows) = 612 := by decide +kernel

/-- Chapter 8: the lossless bolt of Table 8.7. -/
theorem test_static_bolt :
    let rows := [List.replicate 64 515, (List.range 64).map (fun i => if i = 5 then 518 else 515)]
    let c := codeBolt 2 10 1 8 0 builtinTable rows
    c.mode = 2 ∧ c.payload.length = 64 ∧ c.payload.take 12 = [0x13, 0, 0, 0, 0, 0, 0, 0, 0, 0xE6, 0x02, 0] := by decide +kernel

/-- Chapter 10: TOL 200 takes 128 and GAMMA 0.1 takes 2730 of 2^15, with ALPHA 0.5 and BETA 0.125. -/
theorem test_transit_clamps :
    let c := transitCfgOf { src := 0, seq := 0, token := 0, opcode := 0x0302, flags := 0, length := 36, params := layout 36 [(1, 1, 200), (0x18, 2, 16384), (0x1A, 2, 4096), (0x1C, 2, 3277)] }
    c.tol = 128 ∧ c.gamma = 2730 := by decide

/-- Chapter 12: 82.5 °C under the default derating. -/
theorem test_derating : derateAt {} 1320 = 45875 ∧ rnd (40000 * 45875) 65536 = 28000 := by decide

/-- Chapter 7: OFFSET and GAIN of the example column, and the four steps of Table 7.6. -/
theorem test_grade_steps : rnd 37171 1024 = 36 ∧ rnd (2 ^ 38) 45308 = 6066874 ∧
    [1, 2, 3, 4].map (fun (j : Int) => 6000000 + rnd ((6066874 - 6000000) * j) 4) = [6016719, 6033437, 6050156, 6066874] := by decide

/-- Chapter 14: the load cell at 1250 N. -/
theorem test_load_cell : toQ16 (ieeeMul (f32OfRat 78125 10) (f32OfFix 1342177 23)) = (81919984, false) := by decide

/-! ### States and operands that meet the hypotheses of the statements -/

def ok (l : List Bool) : Bool := l.all id

/-- A request of opcode op whose n bytes hold the given fields, at MB0 in mode m. -/
def fields (m : Mode) (op n : Nat) (fs : List (Nat × Nat × Nat)) : State :=
  ask 0 op 0 n (layout (maxN (fs.map (fun f => f.1 + f.2.1))) fs) (base m)

/-- The request itself. -/
def asked (s : State) : Req := latchedReq s 0

theorem meets_StepRunsFront : ({ State.reset with pending := [.porNFall 0] } : State).pending = .porNFall 0 :: [] := by decide

theorem meets_IdleStepChangesNothing : State.reset.pending = [] := by decide

theorem meets_ExecKeepsQueueAndTime : (stepped (.porNFall 7) State.reset).isSome = true := by decide +kernel

theorem meets_OnlySecondMasterStops :
    let s : State := { base .ready with host.stnServed := true, stn.cfg.master := 1 }
    ok [oneMaster (base .ready), !oneMaster s, (match exec (.evqEnable 0) s with | .fault .secondMaster => true | _ => false)] = true := by decide +kernel

theorem meets_NoSelfRefreshWhileBusy :
    ok [refreshInv State.reset, refreshInv (base .ready), (stepped (.hbmSelfRefresh 100000) (base .ready)).isSome, ((stepped (.hbmSelfRefresh 100000) (base .ready)).map (fun n => n.clk.refresh)) == some true] = true := by decide +kernel

theorem meets_CalmEffectIsFinal : ok [Calm (base .ready), Calm State.reset] = true := by decide +kernel

theorem meets_FailedRequestChangesNothing :
    ok [canServe cmdExpoSet 0 (req .recovery 0x0303 [] 4), (match judge cmdExpoSet (asked (req .recovery 0x0303 [] 4)) (req .recovery 0x0303 [] 4) with | .error _ => true | .ok _ => false),
      itsTurn (req .ready 0x7777 [] 0) 0, !knownOpcodes.contains 0x7777] = true := by decide +kernel

theorem meets_UnaskedCommandChangesNothing : canServe cmdExpoSet 0 State.reset = false := by decide +kernel

theorem meets_RecoveryServesFew :
    let s := req .recovery 0x0303 [] 4
    ok [canServe cmdExpoSet 0 s, (cmdExpoSet.len (asked s)).isNone, cmdExpoSet.opcode == 0x0303, !(asked s).isRead] = true := by decide +kernel

theorem meets_ModesAreChecked :
    ok [([(0x0111, 0), (0x0202, 4), (0x0805, 20), (0x0A03, 20), (0x0D10, 16), (0x0D11, 60), (0x0E01, 12)] : List (Nat × Nat)).all (fun e => holds e.1 e.2 0 (req .replay e.1 [] e.2)),
      ([(0x0804, 12), (0x0901, 36), (0x0905, 4), (0x0A01, 24), (0x0A06, 16)] : List (Nat × Nat)).all (fun e => asks e.1 e.2 0 (req .inline e.1 [] e.2)),
      holds 0x0A02 24 0 (req .standby 0x0A02 [] 24), holds 0x0A02 24 0 (req .hold 0x0A02 [] 24), Mode.hold.all, Mode.standby.all, Mode.inline.all, Mode.replay.all, !Mode.replay.quiet, !Mode.inline.quiet, !Mode.replay.cap] = true := by decide +kernel

theorem meets_DoorbellLatchesRequest :
    ok [oneMaster (base .standby), ((base .standby).host.mbs.getD 3 {}).state == .idle, ((req .standby 0x0001 [] 0).host.mbs.getD 0 {}).state == .busy] = true := by decide +kernel

theorem meets_ReportsChangeNothing :
    ok [holds 0x0001 0 0 (req .recovery 0x0001 [] 0), servesBasic 0 (req .recovery 0x0001 [] 0), holds 0x0102 0 0 (req .ready 0x0102 [] 0), holds 0x0C12 0 0 (req .ready 0x0C12 [] 0),
      ([1, 127] : List Nat).all (fun n => let s := fields .ready 0x0D01 8 [(4, 2, n)]; holds 0x0D01 8 0 s && (asked s).u16 4 == n),
      (let s := fields .ready 0x0204 4 [(0, 1, 31)]; holds 0x0204 4 0 s && (asked s).u8 0 == 31 && !(asked s).isClear), holds 0x0304 0 0 (req .ready 0x0304 [] 0),
      ([(0, 1), (654851, 509)] : List (Nat × Nat)).all (fun e => let s := fields .ready 0x0402 12 [(4, 4, e.1), (8, 4, e.2)]; holds 0x0402 12 0 s && (asked s).u32 8 == e.2 && decide ((asked s).u32 4 + (asked s).u32 8 ≤ 655360)),
      holds 0x0602 4 0 (req .ready 0x0602 [] 4), (let s := fields .ready 0x0703 4 [(0, 1, 1), (1, 1, 7)]; holds 0x0703 4 0 s && (asked s).u8 0 == 1 && (asked s).u8 1 == 7),
      (let s := fields .ready 0x0806 4 [(0, 1, 7)]; holds 0x0806 4 0 s && (asked s).u8 0 == 7), ([(0, 1), (258, 254)] : List (Nat × Nat)).all (fun e => let s := fields .ready 0x0906 4 [(0, 2, e.1), (2, 2, e.2)]; holds 0x0906 4 0 s && decide ((asked s).u16 0 + (asked s).u16 2 ≤ 512)),
      (let s := fields .ready 0x0A05 4 [(0, 1, 3)]; holds 0x0A05 4 0 s && (asked s).u8 0 == 3), holds 0x0B03 4 0 (fields .ready 0x0B03 4 [(0, 2, 0xFFFF)])] = true := by decide +kernel

theorem meets_AuxReadTellsEveryChannel : ok [holds 0x0B03 4 0 (fields .ready 0x0B03 4 [(0, 2, 0x8001)]), (maskIdx 16 0x8001) == [0, 15]] = true := by decide +kernel

theorem meets_ModeAndEnergyAreReported : ok [holds 0x0102 0 0 (req .recovery 0x0102 [] 0), servesBasic 0 (req .recovery 0x0102 [] 0), holds 0x0E02 0 0 (req .hold 0x0E02 [] 0)] = true := by decide +kernel

theorem meets_ReadFormsTellTheSettings :
    let s := fun (k : Nat) (fl : Nat) (bs : List Byte) => ask 0 k fl bs.length bs (base .ready)
    ok [canServe cmdExpoSet 0 (s 0x0303 1 []), (asked (s 0x0303 1 [])).isRead, !(asked (s 0x0303 1 [])).isClear, (match cmdExpoSet.readLen with | some l => (l (asked (s 0x0303 1 []))).isNone | none => false),
      (match cmdExpoSet.read (asked (s 0x0303 1 [])) (s 0x0303 1 []) with | .ok _ => true | .error _ => false),
      (asked (s 0x0303 3 [])).isClear, (match cmdPortCfg.readLen with | some l => (l (asked (s 0x0201 1 [32, 0, 0, 0]))).isNone | none => false),
      (match cmdPortCfg.read (asked (s 0x0201 1 [32, 0, 0, 0])) (s 0x0201 1 [32, 0, 0, 0]) with | .ok _ => false | .error _ => true)] = true := by decide +kernel

theorem meets_TimingSettingsActAtOnce :
    ok [asks 0x0110 40 0 (req .hold 0x0110 [] 40), (let s := fields .ready 0x0301 20 [(0, 1, 3)]; asks 0x0301 20 0 s && (asked s).u8 0 == 3), (let s := fields .inline 0x0301 20 [(0, 1, 3)]; asks 0x0301 20 0 s && transitSource s != 3),
      ([0, 3, 255] : List Nat).all (fun v => let s := fields .ready 0x0302 36 [(3, 1, v)]; asks 0x0302 36 0 s && (asked s).u8 3 == v),
      (let s := fields .inline 0x0302 36 [(8, 8, 67108864)]; asks 0x0302 36 0 s && (transitCfgOf (asked s)).pitch == s.tr.cfg.pitch && (transitCfgOf (asked s)).source == s.tr.cfg.source),
      ([0, 3, 255] : List Nat).all (fun v => let s := fields .standby 0x0A06 16 [(0, 1, v), (1, 1, v)]; asks 0x0A06 16 0 s && s.sys.mode.quiet && (asked s).u8 1 == v)] = true := by decide +kernel

theorem meets_LampSettingsActAtOnce :
    ok [asks 0x0603 40 0 (req .ready 0x0603 [] 40), (let s := fields .ready 0x0903 16 [(0, 2, 511), (2, 2, 1), (4, 1, 2), (12, 4, 67106816)]; asks 0x0903 16 0 s && decide ((asked s).u32 0x0C + 2048 ≤ 64 * 2 ^ 20)),
      (let s := fields .ready 0x0903 16 [(0, 2, 511), (2, 2, 1), (4, 1, 1)]; asks 0x0903 16 0 s && (lampStr s 511).pwm == (asked s).enum 5 2 0),
      (let s := fields .ready 0x0904 16 [(0, 2, 0), (2, 2, 512)]; asks 0x0904 16 0 s && decide ((asked s).u16 0 + (asked s).u16 2 ≤ 512)), (let s := fields .ready 0x0905 4 [(0, 1, 7)]; asks 0x0905 4 0 s && s.sys.mode.quiet && (asked s).u8 0 == 7),
      (let s := fields .ready 0x0901 36 [(0, 1, 63), (5, 1, 255), (9, 1, 7)]; asks 0x0901 36 0 s && (List.range 8).all (fun k => decide ((asked s).u8 (5 + 4 * k) < 8) || (asked s).u8 (5 + 4 * k) == 255)),
      !faultActive (base .ready) 1 0] = true := by decide +kernel

theorem meets_AxisAndAuxSettingsActAtOnce :
    ok [(let s := fields .ready 0x0A01 24 [(0, 1, 3), (1, 1, 1)]; asks 0x0A01 24 0 s && s.sys.mode.quiet && (axisOf s 3).lost && !([2, 3, 5].contains (axisOf s 3).state)), (let s := fields .ready 0x0A01 24 [(0, 1, 3)]; asks 0x0A01 24 0 s && (asked s).u8 1 == 0),
      !({ (axisOf (base .ready) 3) with lost := false } : Axis).lost, (let s := fields .ready 0x0B04 64 [(0, 1, 15)]; asks 0x0B04 64 0 s && (asked s).u8 0 == 15),
      (let s := fields .ready 0x0B02 68 [(1, 1, 16), (64, 1, 15)]; asks 0x0B02 68 0 s && (List.range 16).all (fun i => decide ((asked s).u8 (4 + 4 * i) < 16))), (let s := fields .ready 0x0B01 24 [(0, 1, 15)]; asks 0x0B01 24 0 s && (asked s).u8 0 == 15 && !shuttingDown s 15),
      (let s : State := { fields .ready 0x0B01 24 [(0, 1, 3), (1, 1, 1)] with aux.convs := [{ ending := some (3, 500) }, {}, {}] }; asks 0x0B01 24 0 s && shuttingDown s 3 && (asked s).u8 1 == 1 && hasRoomFor 0 s)] = true := by decide +kernel

theorem meets_BusAndRingSettingsActAtOnce :
    ok [(let s := fields .ready 0x0C01 16 [(6, 1, 255)]; asks 0x0C01 16 0 s && (asked s).u8 6 == s.stn.cfg.master && (asked s).u8 0 == 0), (let s := fields .ready 0x0C01 16 [(0, 1, 1), (6, 1, 1)]; asks 0x0C01 16 0 s && (asked s).u8 6 != s.stn.cfg.master && s.stn.cfg.enable == 0),
      (let s := req .ready 0x0C02 [] 16; asks 0x0C02 16 0 s && (asked s).u64 8 == 0), (let s := fields .ready 0x0C02 16 [(0, 1, 1), (8, 8, 1)]; asks 0x0C02 16 0 s && (asked s).u64 8 != 0),
      ([[0x01, 0x01], [0x01, 0x01, 0, 0, 0x03, 0x06]] : List (List Byte)).all (fun l => let n := (l.length + 3) / 4; let s := req .ready 0x0D02 l (4 * n); asks 0x0D02 (4 * n) 0 s && (List.range n).all (fun i => (faultRow ((asked s).u16 (4 * i))).isSome)),
      (let s := fields .ready 0x0803 36 [(0, 1, 7)]; asks 0x0803 36 0 s && (streamOf s 7).flow == 0 && !(streamOf s 7).closing && !backlog (streamOf s 7)),
      ([(.standby, 0), (.ready, 1), (.service, 1)] : List (Mode × Nat)).all (fun e => let s := fields e.1 0x0804 12 [(0, 1, e.2), (3, 1, e.2), (8, 4, 0x464F524D)]; asks 0x0804 12 0 s && hasRoomFor 0 s && (asked s).u32 8 == 0x464F524D)] = true := by decide +kernel

theorem meets_PortCfgActsOnItsPort :
    let same := [(0, 1, 31), (4, 2, 5120), (6, 1, 15), (7, 1, 12), (8, 4, 0x03020100), (0x0C, 1, 16), (0x10, 2, 0xFFFF)]
    let s := fun (m : Mode) (x : Port) (fs : List (Nat × Nat × Nat)) => ({ fields m 0x0201 20 fs with ports.list := List.replicate 32 x } : State)
    ok [asks 0x0201 20 0 (s .ready {} same), !baselineOver (fun q => if q = 31 then portCfgOf (asked (s .ready {} same)) else (portOf (base .ready) q).cfg) (base .ready).banks.staged.base,
      ([(.inline, 1), (.replay, 1), (.standby, 1), (.ready, 0), (.ready, 1), (.hold, 1)] : List (Mode × Nat)).all (fun e => let u := s e.1 { state := if e.1 = .standby then .off else .ready } ((1, 1, e.2) :: same.map (fun f => if f.1 = 4 then (4, 2, 64) else f)); asks 0x0201 20 0 u && (asked u).u8 1 == e.2 && { portCfgOf (asked u) with fill := 0 } != ({} : PortCfg)),
      { portCfgOf (asked (s .ready {} same)) with fill := 0 } == ({} : PortCfg),
      ({ enable := 1 } : PortCfg).enable == 1, hasRoomFor 0 (s .ready {} same),
      (let u := s .ready {} same; (takenPast u (modPort 31 (fun x => { x with cfg := portCfgOf (asked u) }) u)).isNone)] = true := by decide +kernel

/-- 16 lead-row ports fill the stagger store, and one more is asked for. -/
theorem meets_PortCfgActsOnItsPort_full :
    let lead : PortCfg := { enable := 1, row := 1 }
    let u : State := { fields .ready 0x0201 20 [(0, 1, 31), (1, 1, 1), (2, 1, 1), (4, 2, 5120), (6, 1, 15), (7, 1, 12), (8, 4, 0x03020100)] with
      ports.list := List.replicate 16 { cfg := lead } ++ List.replicate 16 {}, banks.staged.base := (List.range 32).map (fun p => (p, { stagger := 1023 })) }
    let c := portCfgOf (asked u)
    ok [asks 0x0201 20 0 u, takenPast u (modPort 31 (fun x => { x with cfg := c }) u) == some 6, !u.sys.mode.cap] = true := by decide +kernel

theorem meets_StagedSettingsGoToTheStagedBank_one :
    let u8 := fun (s : State) (o n : Nat) => (asked s).u8 o == n
    ok [stagedFree (base .ready), !(base .ready).banks.grade, (let s := fields .ready 0x0403 8 [(0, 1, 1), (1, 1, 31)]; asks 0x0403 8 0 s && u8 s 1 31), asks 0x0303 4 0 (req .ready 0x0303 [] 4), asks 0x0504 72 0 (req .ready 0x0504 [] 72),
      (let s := fields .ready 0x0502 8 [(0, 1, 31)]
       let f : Bank → Bank := fun b => { b with seams := tset {} 31 (clampSeam { overlap := (asked s).u16 2, offset := (asked s).s16 4, blend := (asked s).u16 6 } (seamColumns s 31).1 (seamColumns s 31).2) b.seams }
       asks 0x0502 8 0 s && u8 s 0 31 && (takenPast s (staged f s)).isNone),
      (let s := fields .ready 0x0501 12 [(0, 1, 31)]; asks 0x0501 12 0 s && decide (staggerLines s (tset {} 31 (baseOfReq (asked s)) s.banks.staged.base) ≤ 65536) && !baselineOver (fun q => (portOf s q).cfg) (tset {} 31 (baseOfReq (asked s)) s.banks.staged.base)),
      ([8, 23] : List Nat).all (fun n => let s := ask 0 0x0701 0 12 (BitVec.ofNat 8 n :: tableBytes (builtinTable 0) ++ [0, 0]) (base .ready); asks 0x0701 12 0 s && u8 s 0 n && tableBytesValid (slice (asked s).params 1 9)),
      (let s : State := { fields .ready 0x0801 72 [(0, 1, 7), (1, 1, 1)] with dlv.streams := List.replicate 8 { ringed := true } }; asks 0x0801 72 0 s && u8 s 0 7 && (streamOf s 7).ringed && !(streamOf s 7).closing && !backlog (streamOf s 7) && (formatRefused s 7 (streamFmt (asked s))).isNone),
      (let s : State := { fields .ready 0x0801 72 [(0, 1, 7), (1, 1, 1)] with dlv.streams := List.replicate 8 { ringed := true, closing := true, flow := 1 } }; asks 0x0801 72 0 s && (streamOf s 7).closing && !backlog (streamOf s 7) && hasRoomFor 0 s && (formatRefused s 7 (streamFmt (asked s))).isNone)] = true := by decide +kernel

theorem meets_StagedSettingsGoToTheStagedBank_many :
    let u8 := fun (s : State) (o n : Nat) => (asked s).u8 o == n
    let regions := fun (s : State) (n : Nat) (b : Bank) => ({ b with regions := (List.range n).foldl (fun l i => tset {} ((asked s).u16 (32 * i)) (regionEntry (asked s) i).2 l) b.regions } : Bank)
    ok [([1, 1022] : List Nat).all (fun n => asks 0x0902 (4 * n) 0 (req .ready 0x0902 [0xFF, 0x01] (4 * n))), asks 0x0503 4064 0 (req .ready 0x0503 [] 4064), ([1, 3] : List Nat).all (fun n => let s := req .ready 0x0503 [0xFF] (32 * n); asks 0x0503 (32 * n) 0 s && (List.range n).all (fun i => decide ((asked s).u16 (32 * i) < 256))), (let s := req .ready 0x0503 [0xFF] 32; (takenPast s (staged (regions s 1) s)).isNone),
      holds 0x0404 4088 0 (req .ready 0x0404 [] 4088), ([1, 3] : List Nat).all (fun n => let s := req .ready 0x0404 [0xFF, 0xFF, 0x09] (4 * n); holds 0x0404 (4 * n) 0 s && (defectEntries (asked s)).all (fun e => decide (e.1 < 655360))),
      (let s := fields .ready 0x0401 24 [(0, 4, 655359), (4, 4, 1)]; holds 0x0401 24 0 s && (asked s).u32 4 == 1 && !tcoBad 655359 1 (putRecords 655359 (recordsOf 1 ((asked s).params.drop 16)) s.banks.staged.shade)),
      ([1, 101] : List Nat).all (fun n => let s := fields .ready 0x0403 (4 + 40 * n) [(1, 1, 256 - n), (2, 1, n)]; asks 0x0403 (4 + 40 * n) 0 s && u8 s 2 n && u8 s 1 (256 - n % 256))] = true := by decide +kernel

theorem meets_StageCommitArmsAndArmedBankIsBusy :
    let armed := fun (s : State) => ({ s with banks.armed := true } : State)
    let fade0 : State := { base .ready with lamp.slices := [(63, { enable := 1, running := true })], banks.staged.lamps := [(511, 5)] }
    ok [holds 0x0112 0 0 (req .ready 0x0112 [] 0), (armed (req .ready 0x0112 [] 0)).banks.armed, ({ req .ready 0x0112 [] 0 with banks.old := some {} } : State).banks.old.isSome, (changedStrings ({} : Bank) {}).isEmpty, (armPendings (base .ready)).isEmpty, !(armPendings fade0).isEmpty, ({ fade0 with lamp.slices := [(63, { pend := some ([], 1) })] } : State).lamp.slices.any (fun e => e.2.pend.isSome && !e.2.written), !stagedFree (armed (base .ready)),
      ([(0x0303, 4), (0x0504, 72), (0x0502, 8), (0x0701, 12), (0x0501, 12), (0x0902, 4), (0x0902, 4088), (0x0503, 32), (0x0503, 4064)] : List (Nat × Nat)).all (fun e => asks e.1 e.2 0 (armed (req .ready e.1 [] e.2))),
      holds 0x0404 4 0 (armed (req .ready 0x0404 [] 4)), holds 0x0404 4088 0 (armed (req .ready 0x0404 [] 4088)), asks 0x0801 72 0 (armed (fields .ready 0x0801 72 [(0, 1, 7)]))] = true := by decide +kernel

/-- A SHADE_LOAD of one record whose area nothing has written since its doorbell. -/
def shadeAsk : State := fields .ready 0x0401 16 [(0, 4, 655359), (4, 4, 1), (8, 1, 1), (12, 4, 67108856)]

theorem meets_ShadeLoadFromTheLoadArea :
    let s := shadeAsk
    let j : ShadeJob := { src := 0, seq := 0, first := 0, count := 1, offset := 0, area := [], seen := [] }
    readLoad (areaOf s 0) 67108856 8 s = zeros 8 ∧
    ok [holds 0x0401 16 0 s, stagedFree s, (asked s).u8 8 == 1, (asked s).u32 0x0C == 67108856, (asked s).u32 4 == 1, decide (67108856 + 8 * 1 ≤ 67108864), !tcoBad 655359 1 (putRecords 655359 (recordsOf 1 (zeros 8)) s.banks.staged.shade), hasRoomFor 0 s,
      ({ s with px.loads := [j] } : State).px.loads.head? == some j, s.hbm == j.seen, ({ s with hbm := [⟨5, 1⟩] } : State).hbm != j.seen] = true := by
  refine ⟨?_, by decide +kernel⟩
  have h : readLoad (areaOf shadeAsk 0) 67108856 8 shadeAsk = (List.range 8).map (fun _ => (0 : Byte)) := by
    apply List.map_congr_left
    intro i _
    exact ite_self _
  exact h.trans rfl

theorem meets_ModeSetRefusesInternalModes :
    ok [([0, 1, 2, 11, 12, 255] : List Nat).all (fun c => let s := req .ready 0x0101 [BitVec.ofNat 8 c] 4; holds 0x0101 4 0 s && (asked s).u8 0 == c)] = true := by decide +kernel

theorem meets_ModeSetStartsTheChange :
    let s := fun (m : Mode) (c : Nat) => req m 0x0101 [BitVec.ofNat 8 c] 4
    ok [([(.standby, 4), (.ready, 4), (.ready, 3), (.hold, 4), (.hold, 3), (.inline, 5), (.standby, 6)] : List (Mode × Nat)).all (fun e => holds 0x0101 4 0 (s e.1 e.2) && (s e.1 e.2).sys.pend.isNone && hasRoomFor 0 (s e.1 e.2)),
      !holdActive (s .hold 4), Mode.ofCode 6 == some .inline,
      (let u : State := { s .ready 6 with host.width := 8, host.rate := 4, tr.encs := [{ enable := 1 }, {}, {}, {}], ports.list := List.replicate 32 { cfg := { enable := 1 }, state := .ready } }
       decide (8 ≤ u.host.width) && decide (4 ≤ u.host.rate) && (u.tr.encs.getD u.tr.cfg.source {}).enable != 0 && (enabledPorts u).any (fun p => (portOf u p).state != .retired))] = true := by decide +kernel

/-- R206: a port whose bit is set in the line's mask is out, whatever it gives. -/
theorem test_retired_port_is_out : shownOuts 2 [(0, .present [7]), (1, .present [5])] = [(0, .present [7]), (1, .notEnabled)] := by decide

/-- R432: an edge into the active state that follows chatter does not qualify, so no fault stop follows. -/
theorem test_switch_chatter_is_ignored :
    (axisOf (switchEdge 0 1 false { (State.reset) with now := 9000, mot.axes := [{ cfg := { enable := 1 }, state := 1, vel := ⟨5, 1⟩, switches := [{}, { since := 8000, waitA := true }, {}] }, {}, {}, {}] }) 0).state = 1 := by decide

/-! ### Single steps -/

/-- R55, R344: an exposure of 0 takes 2000 ns, and one beyond the largest takes 999 500 ns; the live bank stays. -/
theorem test_expoSet : (stepped (.expoSet 0 0) (req .ready 0x0303 [] 4)).map (fun n => (n.banks.staged.expo, n.banks.live.expo)) = some (2000, 6000) ∧
    (stepped (.expoSet 0 0) (req .ready 0x0303 [0xFF, 0xFF, 0xFF, 0xFF] 4)).map (fun n => n.banks.staged.expo) = some 999500 := by decide +kernel

/-- Table 11.7: region 5 over columns 10 000 to 20 000, binned 2 × 1; R211 clamps COL_LAST to 19 999. -/
theorem test_regionSet : (stepped (.regionSet 0 0) (req .ready 0x0503 [5, 0, 1, 2, 1, 0, 0, 0, 0x10, 0x27, 0, 0, 0x20, 0x4E] 32)).map (fun n => let r := tget {} 5 n.banks.staged.regions; (r.enable, r.binX, r.binY, r.colFirst, r.colLast)) = some (1, 2, 1, 10000, 19999) := by decide +kernel

/-- R340: a doorbell increments SEQ and keeps TOKEN. -/
theorem test_mbDoorbell : (stepped (.mbDoorbell 0 3 77) (base .ready)).map (fun n => let m := n.host.mbs.getD 3 {}; (m.seq, m.token)) = some (1, 77) := by decide +kernel

/-- R352: a write of 5, 6 or 7 stores 0; 63 stays. -/
theorem test_evqVector : ([5, 6, 7, 63, 4] : List Nat).map (fun v => (stepped (.evqVector 0 v) (base .ready)).map (fun n => n.host.evq.vector)) = [some 0, some 0, some 0, some 63, some 4] := by decide +kernel

/-- R363: mode 255 is WRONG_MODE with the mode in the low byte and TRANSITION above it. -/
theorem test_modeSet : (stepped (.modeSet 0 0) (req .ready 0x0101 [255] 4)).map (fun n => ((n.host.mbs.getD 0 {}).state, (n.host.mbs.getD 0 {}).rsp.take 4, slice (n.host.mbs.getD 0 {}).rsp 14 2, n.sys.mode)) =
    some (.done, leBytes 2 0x12 ++ leBytes 2 0x0101, leBytes 2 0x104, .ready) := by decide +kernel

/-- R78: A leads B when the web moves forward. -/
theorem test_encoderEdge : let s : State := { base .standby with tr.encs := [{ enable := 1 }, {}, {}, {}] }
    (stepped (.encoderEdge 1000 ⟨0, 1000⟩ true false) s).map (fun n => (n.tr.encs.getD 0 {}).count) = some 1 ∧ (stepped (.encoderEdge 1000 ⟨0, 1000⟩ false true) s).map (fun n => (n.tr.encs.getD 0 {}).count) = some (-1) := by decide +kernel

/-- R22: no step above F3. -/
theorem test_clockStepRaise : (stepped (.clockStepRaise 0 ⟨17, 1, 1, true⟩) { base .ready with clk.steps := List.replicate 18 3 }).map (fun n => n.clk.steps.getD 17 0) = some 3 := by decide +kernel

/-- R337: a write of the load area is read back from HBM, and one beyond it is discarded and counted. -/
theorem test_bar2Write : (stepped (.bar2Write 0 16 [7]) (base .ready)).map (fun n => (hbmRead n 16, hbmRead n 17, n.host.winDiscard)) = some (7, 0, 0) ∧
    (stepped (.bar2Write 0 67108864 [7]) (base .ready)).map (fun n => (hbmRead n 67108864, n.host.winDiscard)) = some (0, 1) := by decide +kernel

/-- R44: POR_N low leads to RESET from any mode. -/
theorem test_porNFall : ([.boot, .ready, .inline, .activate] : List Mode).map (fun m => (stepped (.porNFall 5) (base m)).map (fun n => (n.sys.mode, n.sys.prev, n.now))) =
    [some (.reset, .boot, 5), some (.reset, .ready, 5), some (.reset, .inline, 5), some (.reset, .activate, 5)] := by decide +kernel

/-- R532: erased secrets open the port. -/
theorem test_secretsErased : (stepped (.secretsErased 0) { base .standby with sec := { ownerToken := some 9, erasePending := true, opener := 5 } }).map (fun n => (n.sec.ownerToken, n.sec.debugOpen, n.sec.erased)) = some (none, true, true) := by decide +kernel

/-- R349: setting ENABLE resets HEAD and TAIL. -/
theorem test_evqEnable : (stepped (.evqEnable 0) { base .ready with host.evq := { head := 3, tail := 9 } }).map (fun n => (n.host.evq.enable, n.host.evq.head, n.host.evq.tail)) = some (true, 0, 0) := by decide +kernel

/-- Table 11.8: a group that becomes a safety group is marked. -/
theorem test_lampGroup : (stepped (.lampGroup 0 0) (req .ready 0x0905 [7, 1] 4)).map (fun n => n.lamp.safety) = some 128 := by decide +kernel


theorem meets_DatumAndPortCommandsAct :
    let f : State := { req .inline 0x0111 [] 0 with tr.session := true }
    let ports := fun (x : Port) (s : State) => ({ s with ports.list := List.replicate 32 x } : State)
    let train := ports { cfg := { enable := 1 } } (req .ready 0x0202 [0, 0, 0, 0x80] 4)
    let gone := ports { cfg := { enable := 1 }, state := .retired, cause := 0x12 } (req .ready 0x0202 [1] 4)
    let readmit := fun (x : Port) => ports x (req .ready 0x0203 [31] 4)
    ok [holds 0x0111 0 0 f, f.sys.mode.cap, f.datum.list.isEmpty, !gradePlaced f, hasRoomFor 0 f, !(req .inline 0x0111 [] 0).tr.session, holds 0x0202 4 0 train, train.sys.mode.quiet, maskIdx 32 ((asked train).u32 0) == [31], enabledPort train 31, (portOf train 31).state == .off, !bit train.ports.retired 31,
      (maskIdx 32 ((asked gone).u32 0)).find? (fun p => (portOf gone p).state == .retired || bit gone.ports.retired p) == some 0, (maskIdx 32 ((asked (req .ready 0x0202 [] 4)).u32 0)).isEmpty, (req .ready 0x0202 [] 4).ports.trains.isEmpty,
      holds 0x0203 4 0 (readmit {}), (asked (readmit {})).u8 0 == 31, (portOf (readmit { readmit := 1 }) 31).readmit != 0, (portOf (readmit { state := .retired }) 31).state == .retired] = true := by decide +kernel

theorem meets_CalRunStartsItsKind :
    let s := fun (m : Mode) (k n : Nat) => req m 0x0601 [BitVec.ofNat 8 k] n
    ok [holds 0x0601 48 0 (s .bench 0 48), (base .bench).cal.run.isNone, (base .bench).cal.grade.isNone, hasRoomFor 0 (s .bench 0 48), holds 0x0601 92 0 (s .bench 1 92), holds 0x0601 8 0 (s .inline 2 8), holds 0x0601 8 0 (s .proof 2 8),
      ([3, 5] : List Nat).all (fun k => holds 0x0601 8 0 (s .ready k 8) && (auxConv (base .ready) (k - 3)).running.isNone && !(auxConv (base .ready) (k - 3)).waiting && (asked (s .ready k 8)).u8 4 == 0), (asked (req .ready 0x0601 [3, 0, 0, 0, 1] 8)).u8 4 == 1,
      holds 0x0601 48 0 (s .ready 0 48), holds 0x0601 8 0 (s .bench 2 8)] = true := by decide +kernel

theorem meets_CodecAndStreamCommandsAct :
    let j := fields .ready 0x0702 72 [(4, 1, 23), (5, 1, 8), (0x0C, 4, 64), (0x10, 4, 8), (0x28, 8, 512), (0x38, 8, 4096)]
    let r : State := { fields .replay 0x0805 20 [(0, 1, 7), (1, 1, 7)] with dlv.streams := List.replicate 8 { ringed := true } }
    let c := jobCfg (asked j).params
    ok [holds 0x0702 72 0 j, hasRoomFor 0 j, decide (c.tableId < 24), j.dlv.jobs.isEmpty, !jobAreaBad c, c.srcBytes == c.columns * c.lines * sampleBytes c.depth, (jobCfg [1]).decompress,
      (let s := req .ready 0x0802 [7] 4; holds 0x0802 4 0 s && (streamOf s 7).flow == 0 && (streamOf s 7).work.isEmpty && (streamOf s 7).live.isEmpty && (streamOf s 7).row.isEmpty && (streamOf s 7).accLines.isEmpty && (datumById s (streamOf s 7).rid).isNone),
      holds 0x0805 20 0 r, (asked r).u8 1 == 7, (streamOf r 7).flow == 0, (streamOf r 7).ringed, r.spool.replay.isNone] = true := by decide +kernel

theorem meets_AxisCommandsAct :
    let s := fun (x : Axis) (op n : Nat) (bs : List Byte) => ({ req .ready op bs n with mot.axes := List.replicate 4 x } : State)
    let idle : Axis := { state := 1, lost := false }
    let move := s idle 0x0A02 24 [3]
    let ahead := fun (u : State) => limitAhead (axisOf u 3) (Frac.sub (Frac.ofInt ((asked u).s32 4)) (axisNow u 3).1.1).sgn
    let going : Axis := { idle with req := some { target := none, set := {} } }
    ok [holds 0x0A02 24 0 move, !([Mode.standby, .hold].contains move.sys.mode), move.sys.mode != .inline, move.cal.run.isNone, move.proof.benchAxis != 3, (axisOf (s {} 0x0A02 24 [3]) 3).lost, !(axisOf move 3).lost, (axisOf move 3).homing.isNone, hasRoomFor 0 move, (asked (s {} 0x0A02 24 [3, 1])).u8 1 == 1, (asked move).u8 1 == 0,
      ({ homing := some { phase := 2, dir := 1, speed := 1, accel := 1, offset := 0, maxTravel := 0, legFrom := 0, reversed := false } } : Axis).homing.isSome,
      (axisOf move 3).state == 1, !ahead move, !ahead (s idle 0x0A02 24 [3, 0, 0, 0, 7]), move.mot.stops.isEmpty, move.host.outstanding.isEmpty,
      holds 0x0A03 20 0 (s {} 0x0A03 20 [3]), (axisOf (s {} 0x0A03 20 [3]) 3).state == 0, (axisOf (s idle 0x0A03 20 [3]) 3).state != 0, idle.motion.isNone, idle.req.isNone, !idle.active 0, ({ idle with cfg := { pol := 1 } } : Axis).active 0,
      holds 0x0A04 4 0 (s {} 0x0A04 4 [15, 1]), (asked (s {} 0x0A04 4 [15, 1])).u8 0 == 15, (asked (s {} 0x0A04 4 [15, 1])).u8 1 == 1, (asked (s going 0x0A04 4 [15])).u8 1 == 0, (asked (s {} 0x0A04 4 [0])).u8 0 == 0, axisMoving going, !axisMoving idle,
      (maskIdx 4 15).all (fun i => (axisOf (s going 0x0A04 4 [15]) i).state == 1 && (axisOf (s going 0x0A04 4 [15]) i).homing.isNone), hasRoomFor 0 (s going 0x0A04 4 [15])] = true := by decide +kernel

theorem meets_TrimAndRearmCommandsAct :
    let q : AuxCal := { point := 0, value := 0, samples := 16, ys := [], deadline := 0 }
    let p : ShadeResult := { records := [], strips := [], basis := { expo := 6000 }, planes := 1, steps := 4 }
    let g : Grade := { result := p, v0 := [], steps := 4, placed := 0, live := 0, finish := false }
    ok [holds 0x0B05 12 0 (req .ready 0x0B05 [15] 12), (auxCh (base .ready) 15).cal.isNone, hasRoomFor 0 (req .ready 0x0B05 [15] 12), (asked (req .ready 0x0B05 [15, 2] 12)).u8 1 == 2, ({ cal := some q } : AuxCh).cal.isSome,
      holds 0x0907 4 0 (req .ready 0x0907 [255] 4), (List.range 8).all (fun g => !bit (base .ready).lamp.off g), ([[0, 1], [0, 2], [1, 1], [1, 0]] : List (List Byte)).all (fun l => holds 0x0604 4 0 (req .ready 0x0604 l 4) && (asked (req .ready 0x0604 l 4)).u8 0 == (l.getD 0 0).toNat),
      ({ base .ready with cal.pendLamp := some [(0, 32768)] } : State).cal.pendLamp == some [(0, 32768)], (base .ready).cal.pendLamp.isNone, (armPendings (stageTrims [(0, 32768)] (base .ready))).isEmpty, !(armPendings (stageTrims [(511, 40000)] { base .ready with lamp.slices := [(63, { running := true })], banks.live.lamps := [(511, 9)], banks.staged.lamps := [(511, 9)] })).isEmpty, stagedFree (base .ready), !stagedFree { base .ready with banks.armed := true }, holds 0x0604 4 0 (req .ready 0x0604 [] 4), (base .ready).cal.grade.isNone, (base .ready).cal.pendShade.isNone,
      ({ base .ready with cal.grade := some g } : State).cal.grade.isSome, ({ base .ready with cal.pendShade := some p } : State).cal.pendShade == some p, basisHolds p.basis p.planes (base .ready).banks.staged, !basisHolds { p.basis with expo := 7000 } p.planes (base .ready).banks.staged] = true := by decide +kernel

theorem meets_UpdateCommandsAct :
    let s := fun (op n st : Nat) => ({ req .ready op [] n with upd.state := st } : State)
    let piece := fun (held : Nat) => ({ s 0x0C11 12 1 with upd.dl := { id := 0, bytes := 0, held := held } } : State)
    let p : State := { fields .ready 0x0C11 12 [(4, 4, 1048576), (8, 4, 66060288)] with upd.state := 1, upd.dl := { id := 5, bytes := 1048576 } }
    ok [holds 0x0002 4 0 (s 0x0002 4 0), ([0, 7, 1, 2, 6] : List Nat).all (fun n => holds 0x0C10 12 0 (s 0x0C10 12 n) && (s 0x0C10 12 n).upd.state == n), (s 0x0C10 12 1).upd.dl.id == (asked (s 0x0C10 12 1)).u32 8, ({ s 0x0C10 12 1 with upd.dl := { id := 9 } } : State).upd.dl.id != 0, (s 0x0C10 12 7).upd.dl.bytes == 0,
      (let d : Download := { id := 0, bytes := 1048576, comps := some [{ offset := 65536, bytes := 1 }] }; d.bytes != 0 && d.comps.isSome && !allHeld d),
      holds 0x0C11 12 0 p, decide ((asked p).u32 8 + (asked p).u32 4 ≤ 67108864), decide ((asked p).u32 0 < ceilN (pieceCount p.upd.dl.bytes) 1024), (asked p).u32 4 == megPiece p.upd.dl 0, hasRoomFor 0 p, !(megPieces p.upd.dl 0).all (received p.upd.dl), (let f : Download := { id := 5, bytes := 1024, held := 1 }; megPiece f 0 == 1024 && (megPieces f 0).all (received f)), ([0, 7] : List Nat).all (fun n => n != 6 && !([1, 2, 3, 4, 6] : List Nat).contains n), (piece 0).upd.state == 1,
      ([3, 4, 0] : List Nat).all (fun n => holds 0x0C13 20 0 (s 0x0C13 20 n)), ([6, 5] : List Nat).all (fun n => holds 0x0C14 0 0 (s 0x0C14 0 n)), ([1, 4, 5, 0] : List Nat).all (fun n => holds 0x0C15 0 0 (s 0x0C15 0 n))] = true := by decide +kernel

theorem meets_SecurityCommandsAct :
    let d := req .standby 0x0D10 [] 16
    let k := req .service 0x0D11 [] 60
    ok [holds 0x0D10 16 0 d, holds 0x0D10 16 4 (ask 4 0x0D10 0 16 [] (base .service)), !d.sec.erasePending, d.sec.lockUntil.isNone, field (asked d).params 0 16 == d.sec.ownerToken.getD 0, decide (d.sec.opens < 32), hasRoomFor 0 d,
      field (asked (req .standby 0x0D10 [1] 16)).params 0 16 != 0, holds 0x0D11 60 0 k, !k.sec.debugOpen, field (asked k).params 4 16 == k.sec.ownerToken.getD 0, (zeros 32).length == 32, decide (2 ≤ (asked (req .service 0x0D11 [3] 60)).enum 0 4 0),
      holds 0x0E01 12 0 (req .service 0x0E01 [] 12), (base .service).loop.isNone, ({ base .service with loop := some { target := 0, ports := 0, src := 0, seq := 0, until' := 0 } } : State).loop.isSome, hasRoomFor 0 (req .service 0x0E01 [] 12)] = true := by decide +kernel

theorem meets_ClearingReadsClearTheirCounters :
    let s := fun (op : Nat) (fl : Nat) (bs : List Byte) => ask 0 op fl 4 bs (base .ready)
    ok [holds 0x0204 4 0 (s 0x0204 2 [31]), (asked (s 0x0204 2 [31])).isClear, (asked (s 0x0204 2 [31])).u8 0 == 31, holds 0x0402 4 0 (s 0x0402 2 [1, 31]), (asked (s 0x0402 2 [1, 31])).u8 1 == 31, holds 0x0703 4 0 (s 0x0703 2 [1, 7]), (asked (s 0x0703 0 [0])).u8 0 != 1] = true := by decide +kernel

theorem meets_PinsPutTheDeviceInReset : ok [({ base .ready with sys.sysRstN := true } : State).sys.sysRstN, (base .ready).sys.mode != .reset, State.reset.sys.mode == .reset, ({ base .ready with sec.identity := some 1 } : State).sec.identity.isSome, (base .ready).upd.older.isNone, ({ older := some {}, wroteAt := 6 } : UpdSt).older == some {}] = true := by decide +kernel

/-- Every combination of the causes of RESET is a state. -/
theorem meets_TheLastCauseReleasesReset :
    ∀ p r x b th : Bool, let s : State := { State.reset with sys := { porN := p, sysRstN := r, xtalStop := x, brownOut := b, thermal := th } }
      s.sys.mode = .reset ∧ s.sys.porN = p ∧ s.sys.sysRstN = r ∧ s.sys.xtalStop = x ∧ s.sys.brownOut = b ∧ s.sys.thermal = th := by decide

theorem meets_BootStagesFollowTheirRows :
    let b : State := { base .boot with now := 200000000, sys := { mode := .boot } }
    let w : State := { base .ready with now := 200000000, sys.perstN := true, sys.tPerst := 100000000 }
    ok [b.sys.mode == .boot, !b.sys.service, !b.sys.afterActivate, b.upd.boot.act == 0, !b.sys.toRecovery, ({ b with sys.service := true } : State).sys.service, !b.sys.perstN, w.sys.perstN, w.sys.mode != .reset,
      decide (w.sys.tPerst + 100000000 ≤ w.now), decide (({ w with now := 119999999 } : State).now < w.sys.tPerst + 20000000), decide (({ w with now := 119999999 } : State).now < w.sys.tPerst + 100000000), decide (w.sys.tPerst + 20000000 ≤ w.now),
      ({ base .ready with host.rate := 4 } : State).host.rate != 0, (base .ready).dlv.streams.length == 8, ({ base .ready with dlv.streams := List.replicate 8 { ringed := true } } : State).dlv.streams.all Stream.ringed] = true := by decide +kernel

theorem meets_RegisterAccessesActOnTheirRegister :
    ok [oneMaster (base .ready), (base .ready).sys.mode != .reset, (zeros 4).length == 4, !(base .ready).host.evq.enable, ({ base .ready with host.evq.enable := true } : State).host.evq.enable,
      served (base .ready) 0x0010 4 true, !served (base .ready) 0x0014 4 true, served (base .ready) 0x0010 4 false, !served (base .ready) 0x0014 4 false] = true := by decide +kernel

theorem meets_AuxStatusReadLatchesTheValue : ok [(base .recovery).sys.mode != .reset, decide (15 < 16)] = true := by decide

theorem meets_WindowRingAndQueueRowsAct :
    let e : Event := { type := 1, source := 0, eseq := 0, time := 0, unsync := false, payload := [] }
    let s : State := { base .ready with host.rate := 4, host.bme := true, host.pba := 1, host.evq := { enable := true, hold := [e], due := [0], tail := 64 }, dlv.streams := List.replicate 8 { ringed := true } }
    ok [oneMaster s, s.sys.mode != .reset, oneMaster (base .service), decide ((s.host.winBase + 67108863) % 2 ^ 34 + 1 ≤ 67108864), decide (67108864 < (s.host.winBase + 67108863) % 2 ^ 34 + 2), (streamOf s 7).ringed, !(streamOf s 7).ringErr,
      decide (mdist 32 (streamOf s 7).head ((streamOf s 7).ring.entries % 2 ^ 32) ≤ (streamOf s 7).ring.entries), decide ((streamOf s 7).ring.entries < mdist 32 (streamOf s 7).head (((streamOf s 7).ring.entries + 1) % 2 ^ 32)),
      decide (mdist 32 0 s.host.evq.tail ≤ 2 ^ s.host.evq.log2), mdist 32 64 s.host.evq.tail == 0, mdist 32 0 s.host.evq.tail != 0, decide (2 ^ s.host.evq.log2 < mdist 32 65 s.host.evq.tail), bit s.host.pba 0, !bit s.host.pba 63, hostUp s, !hostUp (base .ready), s.host.evq.hold == [e],
      evqReady { s with host.evq.head := 1 }, s.host.evq.due == [0]] = true := by decide +kernel

/-- One datum that has passed. -/
def datum0 : Datum := { id := 1, flags := 0, byPos := false, pos := 0, line := 0, deviation := 0, holds := false, passed := true, repeatNo := 0, gen := 0, first := 0, tFixed := 0 }

/-- A session that captures in SPEC: the next line's centre is predicted at 5000 ns, and its exposure starts at 2000 ns. -/
def live (m : Mode) : State :=
  { base m with now := 2000, tr := { session := true, closed := false, regime := .spec, v := 2 ^ 40, last := some { t := 5000, z := 0, span := 256, down := false, edge := 0 } }, datum.list := [datum0], datum.nextId := 2 }

theorem meets_ModeChangesReachTheirTarget :
    let r : ModeReq := { target := .inline }
    let s : State := { base .ready with sys.pend := some r }
    let stop : State := { base .inline with sys.pend := some { target := .ready } }
    let l : Loop := { target := 0, ports := 0, src := 0, seq := 0, until' := 0 }
    ok [s.sys.pend == some r, r.target.cap, !Mode.standby.cap, !s.tr.session, !portsTrain s, !(s.mot.axes.any axisMoving), ({ s with mot.axes := [{ req := some { target := none, set := {} } }] } : State).mot.axes.any axisMoving, s.host.outstanding.isEmpty, ([{ src := 0, seq := 0, token := 0, opcode := 0x0A02, res := 0 }] : List Pend).any (fun p => p.opcode == 0x0A02), linesOut stop, stop.sys.mode.cap, !captureDone (live .inline), (live .inline).tr.session, decide (0 + 1000000000 ≤ ({ live .inline with now := 1000000000 } : State).now),
      ({ base .service with loop := some l } : State).loop == some l] = true := by decide +kernel

theorem meets_EdgesAndTimeoutsMoveThePosition :
    let s : State := { live .inline with tr := { (live .inline).tr with encs := List.replicate 4 { enable := 1 } } }
    let cue : State := { s with datum := { s.datum with cfg := { source := 0 }, maxC := some (cuePos s.tr s.now - 1), expected := some (-1000000000) } }
    let freq : State := { s with tr := { s.tr with encs := List.replicate 4 { enable := 1, mode := 1 } } }
    ok [(live .inline).tr.encs.all (fun e => e.enable == 0), transitSource s == 0, transitOn s.sys.mode, !transitOn Mode.standby, (s.tr.encs.getD 3 {}).mode != 1, (freq.tr.encs.getD 3 {}).mode == 1,
      decide (5000 + s.tr.cfg.stillTime * 1000000 ≤ ({ s with now := 20005000 } : State).now), !(base .ready).tr.session, cue.tr.session, cue.tr.regime != .rev, cue.sys.mode != .proof, cue.datum.cfg.source == 0,
      cue.datum.maxC.all (fun m => decide (m < cuePos cue.tr cue.now)), ({ cue with datum.maxC := some (cuePos cue.tr cue.now) } : State).datum.maxC.any (fun m => decide (cuePos cue.tr cue.now ≤ m)), (live .proof).sys.mode == .proof,
      ({ cue with datum.cfg := { source := 0, flywheel := 0 } } : State).datum.cfg.flywheel == 0, decide ((s.tr.encs.getD 3 {}).filter ≤ 1000), decide (0 < (encOf (asked (req .ready 0x0301 [3, 1, 0, 0, 255] 20)) {}).filter), decide (s.tr.cueFilter.getD 3 0 ≤ 1000), (live .standby).tr.encs.length == 4, decide (-1000000000 - (cue.datum.cfg.cueOffset : Int) + windowNow cue < cuePos cue.tr cue.now), (s.tr.encs.getD 3 {}).errs.isEmpty] = true := by decide +kernel

theorem meets_EightDatumPositionsAreHeld :
    let held := fun (n : Nat) => ({ base .inline with datum.list := List.replicate n { datum0 with byPos := true, pos := 1, passed := false } } : State)
    ok [heldPositions (held 8) == 8, heldPositions (held 7) == 7, (held 8).datum.cfg.flywheel != 0] = true := by decide +kernel

/-- An exposure in flight. -/
def slot0 : Slot :=
  { line := 0, expo := 0, ts := 1000, tp := 4000, e := 6000, freeze := 0, deadline := 9000, rid := 1, verdict := none, x := 0, mask := none, edges := none, tpls := [], high := [], due := [], temps := [], replayed := false, collapsed := false, undiag := false, stale := false }

theorem meets_FreezeTakesTheNextLine :
    let s := live .inline
    let full : State := { s with gate := List.replicate 8 slot0 }
    ok [mayFreeze s, s.tr.regime == .spec, crossing s.tr 0 == some 5000, !sessionDue s, !modulusDue s 0, (s.datum.list.filter (fun d => !d.passed)).isEmpty, s.tr.lastStart.isNone, decide ((5000 - 3000 : Int).toNat ≤ s.now + leadTime s), decide (s.tr.diagEnd ≤ s.now + leadTime s), (predictLine s 0 (gridPos s.tr 0)).2 == 6000,
      inHorizon s.tr s.now (5000 - 3000), decide (s.gate.length < 8), mayFreeze full, full.gate.length == 8, crossing full.tr 0 == some 5000] = true := by decide +kernel

/-- A start beyond the horizon that L_s still reaches, as the reach of L_s has no bound of its own. -/
theorem meets_FreezeTakesTheNextLine_beyond :
    let s : State := { live .inline with tr := { (live .inline).tr with last := some { t := 50000, z := 0, span := 256, down := false, edge := 0 }, cfg := { horizonTime := 10000 } }, ports.list := [{ cfg := { enable := 1 }, tTile := 60000 }] }
    ok [mayFreeze s, crossing s.tr 0 == some 50000, decide ((50000 - 3000 : Int).toNat ≤ s.now + leadTime s), !inHorizon s.tr s.now (50000 - 3000)] = true := by decide +kernel

theorem meets_ExposureEventsAct :
    let p : Port := { cfg := { enable := 1 }, tTile := 1000, state := .ready }
    let s := fun (g : Slot) (now : Nat) => ({ live .inline with now := now, gate := [g], ports.list := List.replicate 32 p } : State)
    let due := { slot0 with due := [31], ts := 5000 }
    let high := { slot0 with high := [31] }
    ok [inService (s due 4000) 31, (live .inline).sys.mode.cap, !(live .ready).sys.mode.cap, decide (due.ts ≤ 4000 + tTileOf (s due 4000) 31), decide (3999 + tTileOf (s due 3999) 31 < due.ts), (portOf (s due 4000) 31).tx.isNone, ((List.range 1).zip [due]).find? (fun e => e.2.due.contains 31) == some (0, due),
      ((List.range 1).zip [high]).find? (fun e => e.2.high.contains 31) == some (0, high), decide (high.ts + high.e ≤ 6000 + tTileOf (s high 6000) 31), unjudged (s slot0 9000) == some (0, slot0), decide (slot0.deadline ≤ (s slot0 9000).now), decide ((s slot0 8999).now < slot0.deadline),
      (s slot0 9000).tr.last.isSome, ((List.range 1).zip [slot0]).find? (fun e => !e.2.collapsed) == some (0, slot0), (base .ready).mem.latentPoly.isEmpty, (base .inline).cal.grade.isNone, !oldBankInUse { base .inline with banks.old := some {} }, oldBankInUse { s slot0 0 with banks.old := some {}, banks.gen := 1 }] = true := by decide +kernel

/-- A tile-plane-line whose dark packet is next. -/
def tpl0 : Tpl := { port := 31, slot := 0, rid := 1, entered := false, dark := [], codes := [], seg := 0, complete := false, absent := false, w := 8388608, gen := 0, y := [], replayed := false, done := false, discard := false }

/-- A port in RUN whose four balls are in lock and aligned. -/
def port0 : Port :=
  { cfg := { enable := 1 }, state := .ready, laneOrder := 228, rx := { aligned := true, balls := List.replicate 4 { locked := true, good := 64 } } }

/-- The first row of a dark packet of slot 0 with 16 samples of 12 bits. -/
def head0 : List Word64 := [BitVec.ofNat 64 (0x4C1EB7A5 + 2 ^ 50 + 2 ^ 52), BitVec.ofNat 64 (16 * 2 ^ 16), 0, 0]

theorem meets_PacketsJoinOrFail :
    let g := { slot0 with tpls := [tpl0] }
    let s := fun (x : Port) => ({ live .inline with gate := [g], ports.list := List.replicate 32 x } : State)
    let words := fun (ws : List Word64) => ({ port0 with rx := { port0.rx with words := ws } } : Port)
    let after' := fun (bs : List BallRx) (raws : List Nat) => (List.range 4).map (fun b => ballIn true (bs.getD b {}) (raws.getD b 0))
    let idle := idleBlocks 228 0 port0.rx.balls
    let worn : List BallRx := List.replicate 4 { locked := true, bad := 2 ^ 15 - 1 }
    let data := (head0.map (fun w => blockOf headData (scramble 0 w.toNat)))
    let e := fun (ws : List Word64) => headError port0.cfg g tpl0 (parsePacket ws)
    ok [!lanesLive (portOf (live .inline) 31), lanesLive port0, lostLock worn (after' worn [0, 0, 0, 0]), !lostLock port0.rx.balls (after' port0.rx.balls idle), (popRow 228 0 (after' port0.rx.balls idle)).map (fun e => rowKind e.1) == some .idle,
      (popRow 228 0 (after' port0.rx.balls data)).map (fun e => rowKind e.1) == some (.words head0), port0.trainer.isNone, port0.rx.since != 1023, ([5, 5, 5, 5] : List Nat).all (fun n => n == 5), ([5, 5, 6, 5] : List Nat).any (fun n => n != 5),
      (portOf (live .inline) 31).state != .ready, nextTpl (s port0) 31 == some (0, g, tpl0), (nextTpl { s port0 with gate := [] } 31).isNone, e head0 == 0, decide (4 < packetWords (parsePacket head0)), e [] == 2, e (BitVec.ofNat 64 (0x4C1EB7A5 + 2 ^ 32) :: head0.drop 1) == 4, e (BitVec.ofNat 64 (0x4C1EB7A5 + 2 ^ 48 + 2 ^ 52) :: head0.drop 1) == 3,
      decide (((words head0).rx.words ++ [0]).length < packetWords (parsePacket (head0 ++ [0]))), decide (packetWords (parsePacket (head0 ++ [0, 0, 0, 0])) ≤ ((words head0).rx.words ++ [0, 0, 0, 0]).length),
      lostLock port0.rx.balls (port0.rx.balls.set 3 ((List.replicate 16 0).foldl headIn (port0.rx.balls.getD 3 {}))), !lostLock port0.rx.balls (port0.rx.balls.set 3 ((List.replicate 15 0).foldl headIn (port0.rx.balls.getD 3 {}))),
      ({ locked := true } : BallRx).locked, !({} : BallRx).locked, oldestOwed (s port0) 31 == some (0, g), decide (g.ts + g.e + 32000 ≤ 39000), decide (38999 < g.ts + g.e + 32000)] = true := by decide +kernel

theorem meets_TrainingAndControlLaneAct :
    let r : Trainer := { retrain := false, step := .done, start := 0 }
    let tx : CtlTx := { write := false, addr := 0, data := 0, tries := 2, start := 0 }
    let s := fun (x : Port) => ({ base .ready with now := 200000000, ports.list := List.replicate 32 x } : State)
    let reply := fun (st : Byte) => ctlFrame [0x82, 0, 0, 7, 0, 0, 0, st]
    ok [({} : Port).trainer.isNone, ({ r with step := .due } : Trainer).step != .done, decide ((s {}).now < trainLimit (s {}) { r with start := 199999999 }), (portOf (s { state := .training, trainer := some r }) 31).trainer == some r, ({} : Port).readmit == 0, ({ r with step := .failed } : Trainer).step == .failed,
      decide (trainLimit (s {}) { r with retrain := true } ≤ (s {}).now), decide (trainLimit (s {}) r ≤ (s {}).now), ({} : Port).fails == 0, ({ fails := 2 } : Port).fails == 2, decide (0 < ({ fails := 1 } : Port).fails), decide (({ failAt := 199900000 } : Port).failAt + 100000 ≤ (s {}).now), decide ((s {}).now < ({ failAt := 199900001 } : Port).failAt + 100000),
      decide (([5000000] : List Nat).getD 0 0 - 1 + 10000000 < (s {}).now), decide ((s {}).now ≤ ([190000001] : List Nat).getD 0 0 - 1 + 10000000), ctlFree (s { state := .ready }) 31, !ctlFree (s { state := .ready, tx := some tx }) 31, ({} : Port).again.isNone, decide (0xFFF < 0x1000), ctlFree (s { state := .ready, again := some tx }) 31,
      (frameBytes (reply 0)).bind (replyOf tx) == some (7, 0), (frameBytes (reply 3)).bind (replyOf tx) == some (7, 3), (frameBytes []).bind (replyOf tx) == none, decide (({ tx with tries := 1 } : CtlTx).tries < 2), decide (2 ≤ tx.tries), decide (replyLimit tx ≤ (s {}).now), decide (1959 < replyLimit tx), decide ((({} : Port).laneOrder, ({} : Port).polarity, ({} : Port).skew) ≠ (1, 0, []))] = true := by decide +kernel

/-- A read of a load area in which nothing stands gives zeros, whatever the free values are. -/
theorem readLoad_unwritten (o n : Nat) (s : State) (h : s.hbm = []) : readLoad [] o n s = List.replicate n 0 := by
  have e : ∀ i, i ∈ List.range n → (if (Config.freeValue (s.free + ((o + i) / 64 - o / 64))).toNat % 2 = 0 then tget 0 ((o + i) % 2 ^ 34) ([] : List Host.Cell) else hbmRead s (o + i)) = (0 : Byte) := by
    intro i _
    have : hbmRead s (o + i) = 0 := by simp [hbmRead, h, tget]
    rw [this]
    exact ite_self _
  rw [readLoad, List.map_congr_left e, List.map_const', List.length_range]

theorem meets_RunningWhiteAndOutputLines :
    let s := fun (r : RwState) => ({ base .inline with px.rw := List.replicate 8 r } : State)
    let r : RwState := { ready := [(1, 58700)], ref := 58982 }
    let l : GridLine := { line := 5, kind := .commit, pos := 0, rid := 1, mask := 0, edges := (none, none), replayed := false, undiag := false, stale := false, t := 0 }
    let w : WinTpl := { line := 7, port := 31, slot := 3, absent := false, x := 0, rid := 1, gen := 0, y := [], due := 9 }
    let u : State := { live .inline with tr := { (live .inline).tr with nextK := 9 }, aln := { lines := [l], store := [w, { w with due := 8 }] } }
    let wt := fun (r : RwState) => rnd ((r.w : Int) * r.ref) (rnd 58700 1)
    ok [((s {}).px.rw.getD 7 {}).ready.isEmpty, ((s r).px.rw.getD 7 {}).ready == [(1, 58700)], ((s { r with ref := 0 }).px.rw.getD 7 {}).ref == 0, ({ r with reref := true } : RwState).reref, !r.reref, r.ref != 0,
      decide (((s r).banks.live.sv.rwMin : Int) ≤ wt r) && decide (wt r ≤ ((s r).banks.live.sv.rwMax : Int)), decide (((s r).banks.live.sv.rwMax : Int) < rnd ((r.w : Int) * r.ref) (rnd 30000 1)), !([Mode.inline, .proof].contains Mode.hold),
      (base .inline).aln.lines.isEmpty, u.aln.lines.filter (fun x => decide (u.dlv.nextOut ≤ x.line)) == [l], lineReady (returnStored u) 5, !lineReady (returnStored { u with tr := { u.tr with nextK := 5 } }) 5, datumById u 1 == some datum0,
      exposureOver u 8, !exposureOver u 9, u.aln.store.any (fun w => w.port == 31 && w.slot == 3 && w.line == 7 && !w.absent), !u.aln.store.any (fun w => w.port == 30), ([524287] : List Nat).contains 524287, decide (524287 * 4096 < 0x80000000), decide (0x80000000 ≤ 524288 * 4096), u.mem.moved.isEmpty] = true := by decide +kernel

/-- A plane-row of one bolt column, whose lines have all arrived. -/
def row0 : PlaneRow := { slots := [0], depth := 8, coding := 1, t4 := 8, tableId := 0, fallback := 0, table := [], fbTable := [], nc := 64, groups := [], seq0 := 0, repeatNo := 0, gen := 0, binY := 1, dest := .live }

/-- State with stream 7 as given. -/
def stream (m : Mode) (x : Stream) : State := { base m with now := 30000000, host.rate := 4, host.width := 8, host.bme := true, dlv.streams := List.replicate 7 {} ++ [x] }

theorem meets_BoltsAndJobsAreCoded :
    let s := fun (r : PlaneRow) => stream .inline { work := [.row r] }
    let j : Job := { id := 0, src := 0, seq := 0, params := [], decompress := false }
    let hbm : Job := { j with state := 1, params := [0, 0, 0, 0, 0, 0, 0, 0, 1, 1] }
    let u := fun (j : Job) => ({ base .ready with host.rate := 4, host.bme := true, dlv.jobs := [j] } : State)
    let coding : State := { s { row0 with sent := 1, flight := [(0, false)] } with dlv.coders := [[(7, 0)], []] }
    let spent : Job := { j with state := 1, seen := [⟨5, 1⟩] }
    ok [(rowToSend (streamOf (stream .inline {}) 7)).isNone, rowToSend (streamOf (s row0) 7) == some row0, row0.dest == .live, liveFits { (streamOf (s row0) 7) with tail := 1 } (boltReserve row0 row0.sent), !(streamOf (s row0) 7).ringErr, !liveFits (streamOf (s row0) 7) (boltReserve row0 row0.sent), liveFull (streamOf (s row0) 7), !liveFull { (streamOf (s row0) 7) with live := [{ bytes := zeros 64 }] }, row0.coding != 0, rowToSend (streamOf (s { row0 with coding := 0 }) 7) == some { row0 with coding := 0 },
      inEncoder { coding with dlv.coders := [[(7, 0)], []] } 7 0, !inEncoder (s row0) 7 0, ([(0, false)] : List (Nat × Bool)).find? (fun e => (row0.seq0 + e.1) % 2 ^ 32 == 0) == some (0, false), (streamOf (stream .inline {}) 7).work.isEmpty,
      (jobAt (base .ready) false 1).isNone, jobAt (u j) false 0 == some j, (jobAt (u j) false 1).isNone, jobAt (u { j with state := 1 }) false 1 == some { j with state := 1 }, j.seen == (u j).hbm, j.result == 0,
      (jobCfg j.params).dstKind == 0, (jobCfg hbm.params).dstKind == 1, hostUp (u j), !({ j with output := [0] } : Job).output.isEmpty, ({ j with result := 3 } : Job).result != 0, spent.seen != (u spent).hbm, (jobAt (workJob spent (u spent)) false 1).isSome] = true := by decide +kernel

theorem meets_StreamsDeliverAndTakeRefuge :
    let ring : RingCfg := { storeMax := 1 }
    let i : Item := { bytes := zeros 64, ready := 29980000 }
    let o : OpenBuf := { addr := 0, bytes := 65536, irq := false, kind := 0, opened := 0 }
    let x : Stream := { ringed := true, tail := 1, ring := ring }
    let st := stream .inline x
    let busy : State := { st with dlv.linkFree := 30000000001 }
    let stored : StoreSeg := { ord := 0, items := [{ bytes := zeros 64 }] }
    let spool : State := { stream .ready x with spool.cfg := { enable := 1, mark := 0 }, spool.drives := List.replicate 8 { state := 1 } }
    ok [hostUp st, (streamOf st 7).ringed, !(streamOf st 7).ringErr, (streamOf st 7).desc.isNone, (streamOf st 7).buf.isNone, (streamOf st 7).head != (streamOf st 7).tail, (streamOf st 7).live.isEmpty, (field (leBytes 8 4096 ++ leBytes 4 65536) 0 8) % 4096 == 0, field (leBytes 8 4096 ++ leBytes 4 65536) 8 4 == 65536, field (zeros 32) 8 4 == 0,
      ({ x with tail := 0 } : Stream).head == 0, ({ x with live := [i], ringErr := true } : Stream).ringErr, decide (o.used + i.size ≤ o.bytes), o.kind == 0, itemLinkIdle st, !itemLinkIdle busy, decide (i.ready + 20000 ≤ st.now), decide (st.now < ({ i with ready := 29980001 } : Item).ready + 20000),
      ({ ring with flush := 2 } : RingCfg).flush == 2, decide (o.opened + ring.maxAge * 1000 ≤ 1000000), decide (999999 < o.opened + ring.maxAge * 1000), ring.flush == 0, decide (0 + 20000 ≤ 20000), decide (19999 < 0 + 20000), ({ o with kind := 1 } : OpenBuf).kind == 1, decide (i.ready + 10000 ≤ st.now),
      x.head == 0 % 2 ^ 32, x.head != 1 % 2 ^ 32, !row0.headOut, decide (rowNeeds { row0 with dest := .ask, headOut := true } ≤ freeSpace (stream .inline x) x), !faultActive (stream .proof x) 0x0402 7, x.flow != 3, decide (freeSpace (stream .inline { x with ring := { storeMax := 0 } }) { x with ring := { storeMax := 0 } } < rowNeeds { row0 with dest := .ask, headOut := true, flight := [(0, false)] }), decide (rowNeeds { row0 with dest := .ask } ≤ freeSpace (stream .inline x) x), decide (freeSpace (stream .inline { x with ring := { storeMax := 0 } }) { x with ring := { storeMax := 0 } } < rowNeeds { row0 with dest := .ask }),
      st.dlv.streams.all (fun y => !y.proofStopped), (stream .proof { x with proofStopped := true }).dlv.streams.any (fun y => y.proofStopped), (List.replicate 8 { x with tail := 200, proofStopped := true }).all (fun y => decide (storeUsed y ≤ y.ring.proofLow * 67108864) && decide (y.ring.reserve ≤ freeDescs y) && !y.ringErr), (List.replicate 8 { x with flow := 1 }).all (fun y => y.flow != 0 && decide (freeDescs y < y.ring.reserve)),
      (drivesIn (base .ready)).isEmpty, !(drivesIn spool).isEmpty, !spool.spool.drainAll, decide (storeTotal spool ≤ spool.spool.cfg.mark * 16777216), decide (spool.spool.cfg.mark * 16777216 < storeTotal { spool with dlv.streams := [{ store := [stored] }] }),
      backlog { x with store := [stored] }, decide (128 < freeDescs { x with tail := 129 }), decide (freeDescs { x with tail := 128 } ≤ 128)] = true := by decide +kernel

theorem meets_SpoolDrivesAnswerTheirCommands :
    let c : Nvme := { drive := 7, lseq := 1, kind := 0, stream := 0, tries := 0, start := 0 }
    let seg : SpoolSeg := { lseq := 1, prev := 0, stream := 0, archive := false, epoch := 0, drive := 7, slot := 0, items := [], delivered := false, stale := false }
    let s := fun (now : Nat) (v : Drive) => ({ base .ready with now := now, spool.cmds := [c], spool.drives := List.replicate 8 v } : State)
    let p : Pend := { src := 0, seq := 0, token := 0, opcode := 0x0804, res := 0 }
    let r : Replay := { src := 0, dst := 1, range := 0, rate := 1, first := 0, last := 0, toRead := [], items := [], ready := true, missing := 0 }
    let recent := fun (v : Drive) => ((2000000000 :: v.recent).filter (fun x => decide ((2000000000 : Nat) < x + 60000000000))).length
    ok [((base .ready).spool.cmds.find? (fun c => c.drive == 7 && c.lseq == 1)).isNone, (s 0 {}).spool.cmds.find? (fun c => c.drive == 7 && c.lseq == 1) == some c, decide (c.kind < 2), decide (2 ≤ ({ c with kind := 2 } : Nvme).kind), !seg.sealed, decide ((s 1999999999 {}).now < c.start + 2000000000), decide (c.start + 2000000000 ≤ (s 2000000000 {}).now),
      recent {} == 1, recent { recent := [1, 2] } == 3, ((s 0 { state := 1 }).spool.drives.getD 7 {}).state == 1, ((s 0 {}).spool.drives.getD 7 {}).state != 1, c.tries == 0, ([seg] : List SpoolSeg).find? (fun g => g.lseq == c.lseq) == some seg, queueRoom (base .ready) 7 (xferParts {} 1024), xferParts { mdts := 65536 } 1024 == 64, xferParts {} 1024 == 4,
      ((base .ready).host.outstanding.find? (fun q => q.opcode == 0x0804)).isNone, (([p] : List Pend).find? (fun q => q.opcode == 0x0804)) == some p, ({ base .ready with spool.opened := true } : State).spool.opened, !(base .ready).spool.opened,
      (base .ready).spool.cfg.action != 1, ({ action := 1 } : SpoolCfg).action == 1, (drivesIn (base .ready)).isEmpty, (drivesIn (attachDrives [] (base .ready))).isEmpty, r.ready, r.items.isEmpty, (base .ready).spool.replay.isNone] = true := by decide +kernel

/-- State with every slice and every string as given. -/
def lampsOf (a : LSlice) (g : LampStr) : State := { base .ready with now := 11000000000, lamp := { strs := (List.range 8).map (fun k => (504 + k, g)), slices := [(63, a)], dark := false, safety := 1, roundAt := some 10999244000, nextSlot := 63 } }

theorem meets_LampBusRunsItsRounds :
    let run : LSlice := { enable := 1, running := true, present := 255 }
    let g : LampStr := { slot := 0, group := 0, sent := 100, leveled := 100, drives := 100, d := 100, l := 100, dAt := 100 }
    let s := lampsOf run g
    let at' := fun (now : Nat) => ({ s with now := now } : State)
    let x := LampTx.write 0x14 0
    let body := leBytes 2 (63 + 64 * 2 + 1024 * 8) ++ zeros 8
    let reply := wireBits ([0x72] ++ body ++ leBytes 2 (crc16 body))
    let pulse := fun (k p : Nat) => ({ s with lamp.pulses := [(p, k)] } : State)
    let sent := fun (at' : Nat) => ({ run with tx := some x, slotAt := at' } : LSlice)
    let limit := 320 * (txFrame 63 x).length + 160
    let mark : State := { live .inline with lamp := { s.lamp with slices := [(63, { run with diagMask := 128 })], expos := [(896, 1000, 2500)] }, tr := { (live .inline).tr with nextK := 1 } }
    ok [s.sys.mode != .reset, State.reset.sys.mode == .reset, roundOver (base .ready), !roundOver s, roundOver (at' 11000044000), !roundOver (at' 11000043999), slotDue 63 s, !slotDue 63 (at' 10999999999), !slotDue 62 s, s.lamp.casting.isEmpty, !(lampSlice s 63).retired, (chooseTx (takeLate 63 s) 63).isSome, (chooseTx (base .ready) 63).isNone,
      (List.range 8).all (fun k => (lampStr s (504 + k)).late.isNone), ({ cfgDue := true } : LSlice).cfgDue, (lampSlice (base .ready) 63).enable == 0, run.clrLatch == 0 && run.clrFault == 0 && !run.cfgDue, ({ pend := some ([], 0) } : LSlice).pend.isSome,
      sliceDuties (lampsOf run { g with leveled := 1 }) 63 != (slStrings 63).map (fun k => (lampStr (lampsOf run { g with leveled := 1 }) k).leveled), sliceDuties (lampsOf {} {}) 63 == (slStrings 63).map (fun k => (lampStr (lampsOf {} {}) k).leveled), decide (LampTx.poll ≠ .write 0x1C 5), ({ tx := some (.write 0x1C 5) } : LSlice).tx == some (.write 0x1C 5), ({ enable := 1, mapDue := true } : LSlice).mapDue, ({ enable := 1 } : LSlice).step == 0, (lampSlice s 63).tx.isNone, (lampSlice (lampsOf (sent 0) g) 63).tx == some x,
      reply.length % 8 == 0, replyPayload 63 x (wireBytes reply) == some (zeros 8), decide ((sent (11000000000 - limit)).slotAt + limit ≤ s.now), !decide ((sent (11000000001 - limit)).slotAt + limit ≤ s.now), decide (({ missRun := 1 } : LSlice).missRun = 1), decide (3 ≤ ({ badRun := 3 } : LSlice).badRun),
      (live .inline).sys.mode.cap, !s.sys.mode.cap, (pulse 0 5).lamp.pulses == [(5, 0)], decide (5 ≤ s.now), (pulse 1 5).lamp.pulses == [(5, 1)], decide (s.now < 11000000001),
      (markerExpo s).isNone, markerExpo mark == some (896, 1000, 2500), nextStart mark 896 != none, (nextStart mark 896).all (fun y => decide (y < 2500 + 1500)), (nextStart { mark with lamp.expos := [(896, 1000, 2500), (897, 9000, 9500)] } 896).all (fun y => decide (2500 + 1500 ≤ y)), mark.lamp.marked != 896 / 128 + 1, lit mark 511, (128 : Nat).testBit (896 % 1024 / 128),
      lit s 511, undiagnosed s 511, !g.undiag, decide (({ g with undiagAt := 5 } : LampStr).litAt ≤ 5), decide (({ g with litAt := 6, undiagAt := 5 } : LampStr).undiagAt < 6), !undiagnosed (base .ready) 511, ({ g with undiag := true } : LampStr).undiag, (128 : Nat).testBit 7, !lit (base .ready) 511, inSafety s 511, decide (({ g with undiagAt := 1000000000 } : LampStr).undiagAt + 10000000000 ≤ s.now), !faultActive s 0x0303 511, ({ g with retryAt := some 5 } : LampStr).retryAt == some 5, g.retryAt.isNone] = true := by decide +kernel

/-- State with every axis as given. -/
def axesOf (x : Axis) : State := { base .ready with now := 1000000000, mot.axes := List.replicate 4 x }

theorem meets_AxesTickStopAndRestart :
    let x : Axis := { cfg := { enable := 1 }, state := 1, vmTime := 1000000000 }
    let m : Motion := { t0 := 0, p0 := {}, v0 := {}, segs := [], target := none, accel := 1 }
    let cy : Cycle := { phase := .wait, last := 9, resume := 10, pCut := 0, xCut := 0, ratio := {}, ahead := 0, pRes := 0 }
    let s : State := { live .proof with mot.cycle := some { cy with phase := .approach, resume := 4 }, tr := { (live .proof).tr with x := 2 ^ 40 } }
    let now := (axesOf x).now
    ok [(axisOf (base .ready) 3).cfg.enable != 1, (axesOf x).mot.tickAt == 0, ({ axesOf x with mot.tickAt := 999975001 } : State).mot.tickAt + 25000 == now + 1, decide (now + 1 < 999975002 + 25000), (axisOf (axesOf x) 3).state == 1, x.pwmAt == 0, decide (x.cfg.pwm ≠ 0), decide (now + 1 - 1000000 / x.cfg.pwm + 1000000 / x.cfg.pwm ≤ now + 1), wantDrive (axesOf x) x == .pwm, wantDrive (axesOf x) { x with state := 4 } == .brake, wantDrive (axesOf x) { x with state := 0 } == .low, wantDrive (axesOf x) { x with state := 4, cfg := { enable := 1, stopMode := 1 } } == .low, (axisOf (axesOf { x with motion := some m }) 3).motion == some m, !(axisOf (axesOf x) 3).active 2, (axisOf (axesOf { x with cfg := { enable := 1, pol := 4 } }) 3).active 2, ((axisOf (axesOf x) 3).switches.getD 2 {}).high, !x.raised, decide (({} : Switch).since + 4000 ≤ now), !decide (now < ({} : Switch).since + 4000), ({ since := now, waitA := true } : Switch).waitA,
      (axisOf (axesOf x) 3).homing.isNone, ({ x with drive := .pwm } : Axis).drive != .low, x.drive == .low, decide (({ x with satSince := 1 } : Axis).satSince - 1 + 2000000 ≤ now), !x.satPosted, decide (({ x with vmTime := 990000000 } : Axis).vmTime + 10000000 ≤ now), decide (now < x.vmTime + 10000000), ({ x with state := 4 } : Axis).state == 4,
      !axisMoving x, decide (x.restAt + 100000000 ≤ now), (base .ready).mot.cycle.isNone, cy.phase == .wait, !cy.final, decide (x.restAt + 25000 ≤ now), decide (4 ≤ cy.resume), !s.dlv.proofStop, s.sys.mode == .proof, restartDue s { cy with phase := .approach, resume := 4 }, cy.steady.isNone, ({ cy with failures := 1 } : Cycle).failures == 1,
      decide (16 * (s.tr.cfg.pitch : Int) ≤ s.tr.x - 0)] = true := by decide +kernel

/-- State in READY with channel 15 and converter x as given. -/
def auxOf (a : AuxCh) (k : Converter) : State :=
  { base .ready with now := 100000000000, aux := { chs := List.replicate 15 {} ++ [a], convs := [k, k, k] } }

theorem meets_AuxConversionsAndChecksAct :
    let on : AuxCh := { cfg := { enable := 1 } }
    let v : Converter := { visit := some 15, lastRun := 100000000000 }
    let s := auxOf on v
    let q : AuxCal := { point := 0, value := 0, samples := 16, ys := [], deadline := 100000000000 }
    let at' := fun (now : Nat) (s : State) => ({ s with now := now } : State)
    let house := fun (n : Nat) => ({ auxOf { cfg := { enable := 1, conv := 2 } } {} with aux.houseAt := List.replicate n 100000000000 ++ List.replicate (11 - n) 0 } : State)
    let cal2 : State := { auxOf {} { running := some [23] } with now := 17000 * 6000000 + 1000 }
    let vib : State := { auxOf { cfg := { enable := 1, conv := 2, source := 0x23 } } {} with tr := { (base .ready).tr with cfg := { vibChannel := 3 } } }
    ok [(visitNow (base .ready) 0).isNone, visitNow s 0 == some (15, 15, 100000), visits s 0 == [(15, 15, 100000)], !v.converted, v.ending.isNone, s.aux.joint.isNone, decide (s.now < readyAt (auxOf on { v with tMux := 100000000000 }) 0 15 100000), decide (readyAt s 0 15 100000 ≤ s.now), anaOn s.sys.mode, sharedCh s != some 15,
      !ad2Ends (.channel 15) s, !ad2Ends .vibration s, ad2Ends .vibration (at' 100000001000 vib), ad2Ends (.dieTemp 7) (house 7), ad2Ends (.rail 2) (house 10), ad2Ends (.supply 3) { axesOf { cfg := { enable := 1 } } with aux.supplyAt := [1000000000, 1000000000, 1000000000, 0] },
      ad2Ends (.channel 15) (house 11), ad2Ends (.calibration 23) cal2, (auxConv { house 7 with aux.convs := [v, v, { v with retired := true }] } 2).retired, (boundVib vib).isSome, vexLevel (auxOf { cfg := { enable := 1, excite := 3 } } {}) 1 != 0, vexLevel s 1 == 0,
      on.stale, !on.raised.testBit 3, (auxConv s 0).running.isNone, decide (on.staleSince + 1000000000 ≤ s.now), decide (s.now < ({ on with staleSince := 100000000000 } : AuxCh).staleSince + 1000000000), ({ on with open' := true } : AuxCh).open', !faultActive s 0x0504 15, decide (({ on with openSince := 90000000000 } : AuxCh).openSince + 10000000000 ≤ s.now),
      autoDue (auxOf on { autoPeriod := 100 }) 2, !autoDue s 0, ({ v with running := some [0] } : Converter).running == some [0], ({ range := 0, zero := List.replicate 16 0, ref := List.replicate 16 0 } : CalRange).zero.length == 16, decide (q.ys.length < q.samples), decide (q.deadline ≤ s.now), decide (s.now < ({ q with deadline := 100000000001 } : AuxCal).deadline),
      decide (({ q with samples := 0 } : AuxCal).samples ≤ q.ys.length), (auxCalResult {} on { q with ys := List.replicate 16 0 }).1 == 0, !anaOn Mode.boot, ({ retired := true } : Converter).retired, !v.retired, ({ s with aux.suspect := true } : State).aux.suspect, decide (v.suspectSince + 60000000000 ≤ s.now), decide (v.lastConv + 10000000 ≤ s.now)] = true := by decide +kernel

theorem meets_CalibrationResultsComplete :
    let r : CalRun := { kind := 0, phase := .compute, ports := 2 ^ 31 }
    let m := fun (n : Nat) => ({ string := n } : LampMeas)
    let l : CalRun := { kind := 1, phase := .compute, dones := [(m 5, m 512)] }
    let s := fun (r : CalRun) => ({ base .bench with cal.run := some r, ports.list := List.replicate 31 {} ++ [{ cfg := { enable := 1, planes := 1 }, state := .ready }] } : State)
    ok [(base .bench).cal.run.isNone, ({ r with phase := .sweep } : CalRun).phase != .compute, (s r).gate.isEmpty, calTiles (s r) r == [(31, 0)], (tileResult (s r) r 31 0).2 != 0, (calTiles (s { r with ports := 0 }) { r with ports := 0 }).isEmpty, r.shade.autoApply == 0,
      (lampTrims (s l) l) == [(5, 32768, false)], (lampTrims (s { l with dones := [] }) { l with dones := [] }).isEmpty, ({ autoApply := 1 } : LampParams).autoApply == 1, bankFree (s l)] = true := by decide +kernel

/-- A frame of kind k to node 0, and the station that hears it. -/
def frame0 (k : Nat) (tag : List Byte) : NspFrame :=
  { dstMac := 6, srcMac := 5, version := 1, kind := k, srcNode := 1, dstNode := 0, nflags := 0, srcBoot := 1, seq := 1, time := 0, payload := [], tag := tag }

def station0 : State := { base .ready with now := 1000000000000, stn := { up := true, cfg := { enable := 1, mac := 5 } }, sec.stationKey := some 1 }

/-- A tag made over the frame with the key is right, whatever its kind, and a longer one is not. -/
theorem meets_StationFramesAndTimeAct_tag (k : Nat) :
    let tag := nspTag 1 6 5 (nspBytes (frame0 k []))
    tagOk (frame0 k tag) station0 = true ∧ tagOk (frame0 k (tag ++ [0])) station0 = false := by
  refine ⟨?_, ?_⟩
  · unfold tagOk
    exact beq_self_eq_true _
  · unfold tagOk
    refine beq_false_of_ne (fun h => ?_)
    have e : nspTag 1 6 5 (nspBytes (frame0 k [])) ++ [0] = nspTag 1 6 5 (nspBytes (frame0 k [])) := h
    have l := congrArg List.length e
    rw [List.length_append] at l
    exact absurd l (Nat.succ_ne_self _)

theorem meets_StationFramesAndTimeAct :
    let f := frame0 1 []
    let s := station0
    let m : State := { s with stn := { s.stn with cfg := { s.stn.cfg with master := 1 } } }
    let d : Download := { id := 5, bytes := 65537, comps := some [{ offset := 65536, bytes := 1 }] }
    let g : NspFrame := { frame0 0x11 [] with payload := leBytes 4 5 ++ leBytes 4 64 ++ leBytes 2 1 ++ zeros 3 }
    ok [field g.payload 0 4 == d.id, field g.payload 4 4 == 64, decide (64 < pieceCount d.bytes), field g.payload 8 2 == pieceBytes d 64, g.payload.length == 12 + pieceBytes d 64, !(bit d.held 64), d.comps.isSome, needed d 64,
      s.stn.up, s.stn.cfg.enable == 1, !(base .ready).stn.up, f.dstNode == s.stn.cfg.nodeId, ({ f with dstNode := 1 } : NspFrame).dstNode != 0, ({ f with version := 2 } : NspFrame).version != 1, ([1, 2, 3, 4, 0x10, 0x11, 0x12, 0x13] : List Nat).all nspType, f.srcMac == s.stn.cfg.mac,
      decide (tget 0 f.srcMac s.stn.spent < s.stn.cfg.rate), decide (s.stn.cfg.rate ≤ tget 0 5 [(5, 32)]), (base .ready).sec.stationKey.isNone, s.sec.stationKey.isSome, ([2, 0x10, 0x11, 0x13, 3] : List Nat).all (fun k => freshFrame (frame0 k []) s), freshFrame f s, !freshFrame f { s with stn := { s.stn with peers := [(5, some (1, 1))] } }, m.stn.cfg.master != 255, tget none 5 [(5, some (1, 0))] == some (1, 0),
      s.stn.refillAt == 0, decide (999990000001 + 10000000 ≤ s.now + 1), decide (s.now + 1 < 999990000002 + 10000000),
      s.time.source == 0, decide ((1000 : Int).natAbs ≤ 1000), decide (100000000 ≤ (-100000000 : Int).natAbs), ({ source := 1 } : TimeSt).source != 0, ({ state := 2 } : TimeSt).state == 2, decide (0 + 1000000000 ≤ s.now), ({ state := 1 } : TimeSt).state == 1, decide (0 + 600000000000 ≤ s.now), decide (s.stn.lastRx + 5000000000 ≤ s.now), !faultActive s 0x0901 0xFFFF, s.time.state != 2,
      nspReady s, decide (s.stn.lastStatus + 1000000000 ≤ s.now), !nspReady (base .ready), updOn s.sys.mode, ({ state := 1 } : UpdSt).state == 1, decide (0 + 30000000000 ≤ s.now)] = true := by decide +kernel

theorem meets_UpdateEventsAct :
    let p : PieceTx := { src := 0, seq := 0, image := 5, index := 0, offset := 0, area := [] }
    let c : Sched := { time := 0, policy := 0, window := 1, confirm := 900 }
    let s := fun (m : Mode) (u : UpdSt) => ({ base m with now := 1000000000000, upd := u } : State)
    let l : List Comp := List.replicate 4 { digest := sha384 [] }
    let v := s .recovery { state := 2, dl := { comps := some l }, boot := { floors := some [0, 0, 0, 0] } }
    ok [(base .ready).upd.pieces.isEmpty, (s .ready { state := 1, dl := { id := 5 }, pieces := [p] }).upd.dl.id == p.image, (programMeg p (s .ready { state := 1, dl := { id := 5 } })).upd.state == 1, (s .ready { state := 7, pieces := [p] }).upd.state == 7, (s .ready { state := 2, dl := { id := 5 }, pieces := [p] }).upd.dl.id == p.image, ({ late := [(64, [])] } : UpdSt).late.length == 1, v.upd.late.isEmpty, (s .ready { state := 2 }).upd.state == 2,
      (List.range 4).all (digestOk v.upd.dl 0), !digestOk v.upd.dl 8 3, genOk v l, compatible l, v.sys.mode == .recovery, !genOk v [{ gen := 0x9000 }],
      (base .ready).upd.sched.isNone, (s .ready { state := 4, sched := some c }).upd.sched == some c, decide (c.time ≤ stationTime (s .ready {})), quietNow (s .ready {}), !quietNow (s .inline {}), storeTotal (s .ready {}) == 0, ({ c with policy := 1 } : Sched).policy != 0, decide (c.time + c.window * 1000000000 ≤ stationTime (s .ready {})), ({ waiting := true } : UpdSt).waiting,
      (s .activate {}).sys.mode == .activate, ([1, 2, 3, 4] : List Nat).all (fun k => (s .boot { boot := { act := 1, step := k } }).upd.boot.step == k), !(s .boot {}).upd.confirmed, ({ confirmed := true } : UpdSt).confirmed, (1 : Nat).testBit 0 != (0 : Nat).testBit 0, (8 : Nat).testBit 3 != (0 : Nat).testBit 3, ([1, 2, 3] : List Nat).all (fun k => (1 : Nat).testBit k == (0 : Nat).testBit k),
      (s .ready { state := 6, trialAt := some 0 }).upd.trialAt == some 0, decide (0 + 900 * 1000000000 ≤ (s .ready {}).now), (s .inline {}).sys.mode != .standby, (base .ready).upd.trialAt.isNone] = true := by decide +kernel

/-- A header of zeros fails the update as soon as its only piece is programmed. -/
theorem meets_UpdateEventsAct_fails :
    (programMeg { src := 0, seq := 0, image := 5, index := 0, offset := 0, area := [] } { base .ready with upd := { state := 1, dl := { id := 5, bytes := 1000 } } }).upd.state = 7 := by
  simp only [programMeg]
  rw [show (megPiece ({ id := 5, bytes := 1000 } : Download) 0) = 1000 from rfl, readLoad_unwritten 0 1000 _ rfl]
  decide +kernel

theorem meets_MemoriesSecurityAndClocksAct :
    let s : State := { base .ready with now := 86400000000001 }
    ok [decide (6 ≤ 6), decide (5 ≤ 5), tget 0 ((5 * 256 + 0) * 4294967296 + 0) s.mem.sramLast == 0, ({ store := 1, unit := 0, addr := 0, double := true } : ScrubFinding).double, decide (1 - 1 + 86400000000000 ≤ s.now), decide ((86399999999999 : Nat) < 1 - 1 + 86400000000000), decide (17179869184 ≤ 2 ^ 34), decide (805306367 < 805306368), decide (2147483647 < 2147483648), decide (134217727 < 134217728),
      s.sec.nonce.isNone, ({ nonce := some 1 } : SecSt).nonce == some 1, !locked s, locked { s with sec.lockUntil := some 86400000000002 }, decide (32 ≤ 32), !s.sec.erasePending, ({ erasePending := true, opener := 0 } : SecSt).opener != 6, s.sec.opener == 6, ({ lockUntil := some 5 } : SecSt).lockUntil == some 5, s.sec.lockUntil.isNone, s.sys.mode != .reset, State.reset.sys.mode == .reset,
      clockRuns s 17, !clockRuns { s with clk.stopped := List.replicate 18 true } 17, mayStop s 16, !mayStop s 17, !holdsWork s 16, heldFor s 16 4096, s.clk.steps.getD 16 0 == 0, !hbmBusy s, hbmBusy { s with gate := [slot0] }, decide (s.clk.lastHbm + 100000 ≤ s.now)] = true := by decide +kernel

/-- A READY device whose HBM stack holds a tile-plane-line of the stagger store and an item of the ring store. -/
def stacked : State :=
  { base .ready with aln.store := [{ line := 7, port := 31, slot := 3, absent := false, x := 0, rid := 1, gen := 0, y := [] }], dlv.streams := [{ store := [{ ord := 0, items := [{ bytes := zeros 64 }] }] }] }

theorem meets_MemoriesSecurityAndClocksAct_stack :
    (hbmDouble 805306368 stacked).aln.store[0]?.isSome = true ∧ (itemAt (hbmDouble 2147483648 stacked) 0).isSome = true := by
  refine ⟨?_, ?_⟩ <;> simp only [hbmDouble, excludeRow] <;> repeat' split
  all_goals decide +kernel

end Sys2Proof.Tests
end

/-! The host interface: accesses to BAR0 (R7, R333, R334, R348, R352, R354). -/
section

namespace Sys2Proof.Machine

open Sys2Proof Sys2Proof.Safety

/-- Out of RESET the endpoint answers (R332). -/
theorem onBar_answers (f : State → State) {s : State} (h : s.sys.mode ≠ .reset) : onBar f s = f s := if_neg h

theorem secondMaster_of_oneMaster {s : State} (h : oneMaster s = true) : secondMaster s = false := by
  simpa [oneMaster] using h

/-! ### Which access reaches a register -/

/-- An aligned 4-byte access below 0x6000 is answered where a register stands (R333, R334). -/
theorem served_register {s : State} {a v : Nat} {w : Bool} (hr : a < 0x6000) (ha : a % 4 = 0) (hv : regValue s a = some v) :
    served s a 4 w = true := by
  simp [served, hr, ha, hv]

/-- A whole aligned word reaches the register at its address. -/
theorem writeBar0_register {s : State} {a v : Nat} {bytes : List Byte} (hr : a < 0x6000) (ha : a % 4 = 0) (hv : regValue s a = some v)
    (hl : bytes.length = 4) : writeBar0 a 15 bytes s = writeRegister a (ofLe bytes) s := by
  have hs : served s a 4 true = true := served_register hr ha hv
  simp [writeBar0, hl, hs, hr]

/-- An aligned 4-byte read reaches the register at its address. -/
theorem readBar0_register {s : State} {a v : Nat} (hr : a < 0x6000) (ha : a % 4 = 0) (hv : regValue s a = some v) :
    readBar0 a 4 s = readRegister a s := by
  have hs : served s a 4 false = true := served_register hr ha hv
  simp [readBar0, hs, hr]

/-! ### The registers -/

theorem regValue_accessErr (s : State) : regValue s 0x000C = some s.host.accessErr := rfl
theorem regValue_scratch (s : State) : regValue s 0x0010 = some s.host.scratch := rfl
theorem regValue_evqSize (s : State) : regValue s 0x1008 = some s.host.evq.log2 := rfl
theorem regValue_winDiscard (s : State) : regValue s 0x5008 = some s.host.winDiscard := rfl

theorem writeRegister_scratch (w : Nat) (s : State) : writeRegister 0x0010 w s = { s with host.scratch := w } := rfl

/-- SIZE takes effect while the queue is disabled, clamped to 6 to 16 (R348). -/
theorem writeRegister_evqSize_disabled (w : Nat) {s : State} (h : s.host.evq.enable = false) :
    writeRegister 0x1008 w s = { s with host.evq.log2 := clampN (w % 32) 6 16 } := if_neg (ne_true_of_eq_false h)

/-- While the queue is enabled a write of SIZE is ignored and counted (R348). -/
theorem writeRegister_evqSize_enabled (w : Nat) {s : State} (h : s.host.evq.enable = true) :
    writeRegister 0x1008 w s = accessErr s := if_pos h

/-- A read of ACCESS_ERR returns the count and clears it (R7). -/
theorem readRegister_accessErr (s : State) :
    readRegister 0x000C s = emit (.readData 0x000C (leBytes 4 s.host.accessErr)) { s with host.accessErr := 0 } := rfl

/-- A read of WIN_DISCARD returns the count and clears it (R7). -/
theorem readRegister_winDiscard (s : State) :
    readRegister 0x5008 s = emit (.readData 0x5008 (leBytes 4 s.host.winDiscard)) { s with host.winDiscard := 0 } := rfl

/-! ### Snapshot pairs and the event queue -/

/-- A read of one of the five pairs returns its value and latches the high half of the same instant (R354). -/
theorem readPair_latches {i : Nat} (hi : i < 5) (count : Nat) (s : State) :
    readPair i count s = emit (.readData (0x3000 + 8 * i) (leBytes count (pairValue s i)))
      { s with host.latches := s.host.latches.set i (pairValue s i / 2 ^ 32) } :=
  if_neg (Nat.not_le.mpr hi)

theorem enableEvq_disabled {s : State} (h : s.host.evq.enable = false) :
    enableEvq s = busMaster { s with host.evq := { s.host.evq with enable := true, head := 0, tail := 0, everOn := true, due := [] } } := by
  simp [enableEvq, h]

theorem enableEvq_enabled {s : State} (h : s.host.evq.enable = true) : enableEvq s = s := if_pos h

/-- A vector that Table 10.16 reserves stores 0 (R352). -/
theorem setVector_eq (w : Nat) (s : State) :
    setVector w s = { s with host.evq.vector := if w % 64 = 5 ∨ w % 64 = 6 ∨ w % 64 = 7 then 0 else w % 64 } := by
  simp [setVector, or_assoc]

/-! ### Accesses that no register answers -/

theorem reservedAccess_served {s : State} {a n : Nat} {w : Bool} (h : served s a n w = true) : reservedAccess a n w s = s := if_pos h

/-- A write that nothing takes is ignored and counted (R333, R334). -/
theorem reservedAccess_write {s : State} {a n : Nat} (h : served s a n true = false) : reservedAccess a n true s = accessErr s := by
  simp [reservedAccess, h]

/-- A read that nothing answers returns 0 and is counted (R333, R334). -/
theorem reservedAccess_read {s : State} {a n : Nat} (h : served s a n false = false) :
    reservedAccess a n false s = emit (.readData a (zeros n)) (accessErr s) := by
  simp [reservedAccess, h]

/-! ### The rows -/

/-- A row that writes a whole word to a register, out of RESET and with one master. -/
theorem exec_registerWrite_word {t a v : Nat} {bytes : List Byte} {s : State} (hm : (s.at t).sys.mode ≠ .reset) (h1 : oneMaster s = true)
    (hl : bytes.length = 4) (hr : a < 0x6000) (ha : a % 4 = 0) (hv : regValue (s.at t) a = some v) :
    exec (.registerWrite t a ⟨15, bytes⟩) s = .next (after t s (writeRegister a (ofLe bytes) (s.at t))) := by
  rw [exec_registerWrite _ _ _ _ (secondMaster_of_oneMaster h1), onBar_answers _ hm, writeBar0_register hr ha hv hl]

/-- A row that reads a register as a word, out of RESET and with one master. -/
theorem exec_rcRegisterRead_word {t a v : Nat} {s : State} (hm : (s.at t).sys.mode ≠ .reset) (h1 : oneMaster s = true)
    (hr : a < 0x6000) (ha : a % 4 = 0) (hv : regValue (s.at t) a = some v) :
    exec (.rcRegisterRead t ⟨a, 4⟩) s = .next (after t s (readRegister a (s.at t))) := by
  rw [exec_rcRegisterRead _ _ _ (secondMaster_of_oneMaster h1), onBar_answers _ hm, readBar0_register hr ha hv]

/-- Settles O40: each access is the effect of its register on the state at the instant of the access. -/
theorem registerAccessesActOnTheirRegister : Obligations.RegisterAccessesActOnTheirRegister := by
  unfold Obligations.RegisterAccessesActOnTheirRegister
  intro t n w a bytes s u q hm
  have reserved (write : Bool) : exec (.reservedAccess t a n write) s = .next (after t s (reservedAccess a n write u)) := by
    rw [exec_reservedAccess, onBar_answers _ hm]
  refine ⟨fun h1 => ?_, fun h => ?_, fun h => ?_, fun h => ?_, fun h => ?_⟩
  · have h2 : secondMaster s = false := secondMaster_of_oneMaster h1
    refine ⟨fun hl => ?scratch, fun hl he => ?size, fun hl he => ?sizeEnabled, fun he => ?enable, fun he => ?enabled, ?armed, ?vector,
      ?accessErr, ?winDiscard, fun hn => ?lo, fun hn => ?pair⟩
    case scratch => rw [exec_registerWrite_word hm h1 hl (by decide) rfl (regValue_scratch _), writeRegister_scratch]
    case size => rw [exec_registerWrite_word hm h1 hl (by decide) rfl (regValue_evqSize _), writeRegister_evqSize_disabled _ he]
    case sizeEnabled => rw [exec_registerWrite_word hm h1 hl (by decide) rfl (regValue_evqSize _), writeRegister_evqSize_enabled _ he, accessErr]
    case enable => rw [exec_evqEnable _ _ h2, onBar_answers _ hm, enableEvq_disabled he, busMaster]
    case enabled => rw [exec_evqEnable _ _ h2, onBar_answers _ hm, enableEvq_enabled he]
    case armed => rw [exec_evqArmed _ _ h2, onBar_answers _ hm, armEvq]
    case vector => rw [exec_evqVector _ _ _ h2, onBar_answers _ hm, setVector_eq]
    case accessErr => rw [exec_rcRegisterRead_word hm h1 (by decide) rfl (regValue_accessErr _), readRegister_accessErr, emit]
    case winDiscard => rw [exec_rcRegisterRead_word hm h1 (by decide) rfl (regValue_winDiscard _), readRegister_winDiscard, emit]
    case lo => rw [exec_snapshotLoRead _ _ _ h2, onBar_answers _ hm, readPair_latches hn, emit]
    case pair => rw [exec_snapshotPairRead _ _ _ h2, onBar_answers _ hm, readPair_latches hn, emit]
  · rw [reserved, reservedAccess_served h]
  · rw [reserved, reservedAccess_write h, accessErr]
  · rw [reserved, reservedAccess_served h]
  · rw [reserved, reservedAccess_read h, emit, accessErr]

end Sys2Proof.Machine
end

/-! The HBM stack's self-refresh (R25): nothing that follows the step's own request to the stack moves its traffic or its clock. -/
section

namespace Sys2Proof.Machine

open Sys2Proof Sys2Proof.Safety

/-- What R25 looks at: the clocks, and every field of the work that reads or writes the stack. -/
structure HbmUse where
  clk   : ClkSt
  gate  : List Slot
  aln   : AlnSt
  dlv   : DlvSt
  spool : SpoolSt
  px    : PxSt
  upd   : UpdSt

/-- The part of the state that decides whether the stack may refresh itself. -/
def hbmUse (s : State) : HbmUse := ⟨s.clk, s.gate, s.aln, s.dlv, s.spool, s.px, s.upd⟩

theorem hbmBusy_congr {s e : State} (h : hbmUse e = hbmUse s) : hbmBusy e = hbmBusy s := by
  simp only [hbmUse, HbmUse.mk.injEq] at h
  obtain ⟨-, hgate, haln, hdlv, hspool, hpx, hupd⟩ := h
  simp [hbmBusy, hgate, haln, hdlv, hspool, hpx, hupd]

theorem refreshInv_congr {s e : State} (h : hbmUse e = hbmUse s) : refreshInv e = refreshInv s := by
  have hclk : e.clk = s.clk := congrArg HbmUse.clk h
  simp [refreshInv, hclk, hbmBusy_congr h]

theorem refreshInv_queue (t : Nat) (q : List Instr) (s : State) : refreshInv { s with now := t, pending := q } = refreshInv s := rfl

/-- A fold of effects that leave the stack alone leaves it alone. -/
theorem hbmUse_foldl {α : Type} {f : State → α → State} (h : ∀ s a, hbmUse (f s a) = hbmUse s) (l : List α) (s : State) :
    hbmUse (l.foldl f s) = hbmUse s := by
  induction l generalizing s with
  | nil => rfl
  | cons a l ih => rw [List.foldl_cons, ih, h]

/-- Either branch leaves the stack alone. -/
theorem hbmUse_ite {p : Prop} [Decidable p] {a b s : State} (ha : hbmUse a = hbmUse s) (hb : hbmUse b = hbmUse s) :
    hbmUse (if p then a else b) = hbmUse s := by
  split <;> assumption

/-! ### Effects of sensing, of the bridges and of events -/

@[simp] theorem hbmUse_emit (o : Out) (s : State) : hbmUse (emit o s) = hbmUse s := rfl
@[simp] theorem hbmUse_modAux (c : Nat) (f : AuxCh → AuxCh) (s : State) : hbmUse (modAux c f s) = hbmUse s := rfl
@[simp] theorem hbmUse_modConv (x : Nat) (f : Converter → Converter) (s : State) : hbmUse (modConv x f s) = hbmUse s := rfl
@[simp] theorem hbmUse_modAmp (m : Nat) (f : Amp → Amp) (s : State) : hbmUse (modAmp m f s) = hbmUse s := rfl
@[simp] theorem hbmUse_setMux (x : Nat) (m : MuxSet) (s : State) : hbmUse (setMux x m s) = hbmUse s := rfl
@[simp] theorem hbmUse_auxStale (c : Nat) (s : State) : hbmUse (auxStale c s) = hbmUse s := rfl
@[simp] theorem hbmUse_exciteHold (n c : Nat) (s : State) : hbmUse (exciteHold n c s) = hbmUse s := rfl
@[simp] theorem hbmUse_setDrive (n : Nat) (d : BridgeDrive) (s : State) : hbmUse (setDrive n d s) = hbmUse s := rfl
@[simp] theorem hbmUse_setAux (a : AuxSt) (s : State) : hbmUse { s with aux := a } = hbmUse s := rfl
@[simp] theorem hbmUse_linkStep (s : State) : hbmUse (linkStep s) = hbmUse s := rfl

@[simp] theorem hbmUse_complete (f : Pend → Bool) (status detail result : Nat) (s : State) :
    hbmUse (complete f status detail result s) = hbmUse s := by
  obtain ⟨h, n, o, w⟩ := complete_frame f status detail result s
  rw [w]
  rfl

@[simp] theorem hbmUse_muxOff (x : Nat) (s : State) : hbmUse (muxOff x s) = hbmUse s := by
  unfold muxOff
  dsimp only
  split <;> simp

@[simp] theorem hbmUse_placeMux (x : Nat) (s : State) : hbmUse (placeMux x s) = hbmUse s := by
  unfold placeMux
  dsimp only
  split <;> simp

@[simp] theorem hbmUse_beginJoint (p : Nat) (s : State) : hbmUse (beginJoint p s) = hbmUse s := by
  unfold beginJoint
  split <;> simp

@[simp] theorem hbmUse_leaveJoint (s : State) : hbmUse (leaveJoint s) = hbmUse s := by
  unfold leaveJoint
  split <;> simp

@[simp] theorem hbmUse_switchTo (x : Nat) (v : Option Nat) (s : State) : hbmUse (switchTo x v s) = hbmUse s := by
  unfold switchTo
  dsimp only
  split
  · split <;> simp
  · simp

@[simp] theorem hbmUse_fixVisit (x : Nat) (s : State) : hbmUse (fixVisit x s) = hbmUse s := by
  unfold fixVisit
  split
  · rfl
  · split
    · rfl
    · split
      · simp
      · split <;> simp

@[simp] theorem hbmUse_exciteAll (n : Nat) (l : List Nat) (s : State) : hbmUse (l.foldl (fun s c => exciteHold n c s) s) = hbmUse s :=
  hbmUse_foldl (fun s c => hbmUse_exciteHold n c s) l s

@[simp] theorem hbmUse_vexChanges (before : List Nat) (s : State) : hbmUse (vexChanges before s) = hbmUse s := by
  refine hbmUse_foldl (fun s n => ?_) _ s
  split <;> simp

@[simp] theorem hbmUse_holdOnVex (c : Nat) (s : State) : hbmUse (holdOnVex c s) = hbmUse s := by
  unfold holdOnVex
  split
  · dsimp only
    split <;> simp
  · rfl

/-- A setting of a channel moves the multiplexers and the channels, and no traffic of the stack. -/
@[simp] theorem hbmUse_applyAuxCfg (c : Nat) (g : AuxCfg) (s : State) : hbmUse (applyAuxCfg c g s) = hbmUse s := by
  unfold applyAuxCfg
  extract_lets old before shared0 currents steer moved fresh stops ends shared vex prev channel stale fresh' range reset held steered w aux second checked left ended again
  have hshared : hbmUse shared = hbmUse s := hbmUse_ite (hbmUse_foldl (fun s i => hbmUse_modAux i _ s) _ _) rfl
  have hvex : hbmUse vex = hbmUse shared := by
    unfold vex
    split
    · rfl
    · extract_lets all
      have hall : hbmUse all = hbmUse shared := hbmUse_foldl (fun s i => hbmUse_ite (hbmUse_modAux i _ s) rfl) _ _
      clear_value all
      exact hbmUse_ite hall hall
  have hstale : hbmUse stale = hbmUse channel := hbmUse_ite (hbmUse_auxStale c _) rfl
  have hfresh : hbmUse fresh' = hbmUse stale := hbmUse_ite (hbmUse_modAux c _ _) rfl
  have hrange : hbmUse range = hbmUse fresh' := hbmUse_ite (hbmUse_modAmp _ _ _) rfl
  have hreset : hbmUse reset = hbmUse range := hbmUse_ite (hbmUse_emit _ _) rfl
  have hheld : hbmUse held = hbmUse reset := by simp only [held, hbmUse_holdOnVex, hbmUse_vexChanges]
  have hsteered : hbmUse steered = hbmUse held := hbmUse_ite (hbmUse_exciteHold _ c _) rfl
  have hchecked : hbmUse checked = hbmUse steered := hbmUse_ite rfl (hbmUse_ite rfl rfl)
  have hleft : hbmUse left = hbmUse checked := hbmUse_ite (hbmUse_leaveJoint _) rfl
  have hended : hbmUse ended = hbmUse left := by
    clear_value ends
    simp only [ended]
    split <;> rfl
  have hagain (x : Nat) (s : State) : hbmUse (again x s) = hbmUse s := by
    simp only [again]
    split
    · exact hbmUse_ite (hbmUse_switchTo x _ s) rfl
    · exact hbmUse_fixVisit x s
  calc hbmUse (again 1 (again 0 ended)) = hbmUse steered := by rw [hagain, hagain, hended, hleft, hchecked]
    _ = hbmUse channel := by rw [hsteered, hheld, hreset, hrange, hfresh, hstale]
    _ = hbmUse vex := hbmUse_modAux c _ vex
    _ = hbmUse s := by rw [hvex, hshared]

/-! ### The parts of a step that follow its request to the stack -/

@[simp] theorem hbmUse_bridgeStep (s : State) : hbmUse (bridgeStep s) = hbmUse s :=
  hbmUse_foldl (fun s n => hbmUse_ite rfl (hbmUse_setDrive n _ s)) _ s

@[simp] theorem hbmUse_vexStep (s : State) : hbmUse (vexStep s) = hbmUse s := by
  refine hbmUse_foldl (fun s n => ?_) [0, 1] s
  exact hbmUse_ite rfl ((hbmUse_exciteAll 2000000 _ _).trans rfl)

@[simp] theorem hbmUse_beaconStep (s : State) : hbmUse (beaconStep s) = hbmUse s := hbmUse_ite rfl rfl

@[simp] theorem hbmUse_auxStep (s : State) : hbmUse (auxStep s) = hbmUse s := by
  unfold auxStep
  extract_lets ended both
  have hended (x : Nat) (s : State) : hbmUse (ended x s) = hbmUse s := by
    simp only [ended]
    split
    · exact hbmUse_ite (hbmUse_fixVisit x _) rfl
    · rfl
  calc _ = hbmUse both := by
        refine hbmUse_foldl (fun s e => hbmUse_ite rfl ?_) _ both
        rw [hbmUse_complete, hbmUse_applyAuxCfg]
        rfl
    _ = hbmUse s := by rw [show both = ended 1 (ended 0 s) from rfl, hended, hended]

/-- A request of any work under way takes the stack out of self-refresh (R25). -/
theorem refreshInv_wakeHbm (s : State) : refreshInv (wakeHbm s) = true := by
  unfold wakeHbm
  split
  · rfl
  · next h => simp [refreshInv, h]

theorem hbmUse_afterRequest (s : State) : hbmUse (linkStep (beaconStep (vexStep (auxStep (bridgeStep s))))) = hbmUse s := by
  rw [hbmUse_linkStep, hbmUse_beaconStep, hbmUse_vexStep, hbmUse_auxStep, hbmUse_bridgeStep]

/-- Whatever a command did, the stack that its step leaves does not refresh itself while work is under way (R25). -/
theorem refreshInv_after (t : Nat) (s e : State) : refreshInv (after t s e) = true := by
  unfold after settle
  extract_lets
  rw [refreshInv_queue, refreshInv_congr (hbmUse_afterRequest _)]
  exact refreshInv_wakeHbm _

/-- A step that goes on answers the state that some effect led to. -/
theorem exec_next_after {c : Instr} {s n : State} (h : exec c s = .next n) : ∃ e, n = after c.time s e := by
  rcases exec_shape c s with ⟨f, hf⟩ | ⟨f, hf⟩ <;> rw [hf] at h
  · exact ⟨_, (Host.Outcome.next.inj h).symm⟩
  · unfold hostAct at h
    split at h
    · cases h
    · exact ⟨_, (Host.Outcome.next.inj h).symm⟩

/-- Settles O5: every step that runs a command ends with the stack's request, and an idle one changes nothing. -/
theorem noSelfRefreshWhileBusy : Obligations.NoSelfRefreshWhileBusy := by
  unfold Obligations.NoSelfRefreshWhileBusy
  intro s n hinv hstep
  unfold step at hstep
  split at hstep
  · rwa [← Host.Outcome.next.inj hstep]
  · obtain ⟨e, rfl⟩ := exec_next_after hstep
    exact refreshInv_after _ _ e

/-- Settles O6: the stack of a device in reset does not refresh itself. -/
theorem resetIsNotSelfRefreshing : Obligations.ResetIsNotSelfRefreshing := ⟨rfl, rfl⟩

end Sys2Proof.Machine
end

/-! RESET by the pins, the supplies and the heat (R36, R43, R44, R522, R548, R549): what it discards and what stays. -/
section

namespace Sys2Proof.Machine

open Sys2Proof Sys2Proof.Safety

/-! ### The boot record -/

/-- What a reset forgets of an update is never the boot record (R503, R514). -/
@[simp] theorem updAfter_boot (u : UpdSt) : (updAfter u).boot = u.boot := by
  unfold updAfter
  extract_lets v a
  repeat' split
  all_goals rfl

/-- A record whose write is over stays (R500). -/
theorem cutRecord_boot_whole {now : Nat} {u : UpdSt} (h : u.older = none ∨ u.wroteAt ≠ now + 1) : (cutRecord now u).boot = u.boot := by
  unfold cutRecord
  split
  · next b hb =>
    have hw : u.wroteAt ≠ now + 1 := h.resolve_left (by simp [hb])
    rw [if_pos (by simpa using hw)]
  · rfl

/-- A record that the reset tears leaves the other copy's (R500, log 97). -/
theorem cutRecord_boot_torn {now : Nat} {u : UpdSt} {b : BootRec} (hb : u.older = some b) (hw : u.wroteAt = now + 1) :
    (cutRecord now u).boot = b := by
  unfold cutRecord
  simp only [hb, hw, bne_self_eq_false, Bool.false_eq_true, if_false]
  repeat' split
  all_goals rfl

/-! ### The state in RESET -/

/-- Everything of the device before that R43 discards stands at its reset value in e; the boot record, the fault log, the row repairs and the secrets with IDENTITY stay. -/
def ResetFrom (u e : State) : Prop :=
  e.sys.mode = .reset ∧ e.sys.prev = u.sys.mode ∧ e.banks = {} ∧ e.host = {} ∧ e.datum = {} ∧ e.gate = [] ∧ e.ports = {} ∧ e.dlv = {} ∧ e.spool = {} ∧ e.lamp = {} ∧
  e.mot = { axes := u.mot.axes.map (fun (a : Axis) => { switches := a.switches.map (fun (w : Switch) => { high := w.high }) }) } ∧ e.aux = {} ∧
  e.stn = {} ∧ e.hbm = [] ∧ ((u.upd.older = none ∨ u.upd.wroteAt ≠ u.now + 1) → e.upd.boot = u.upd.boot) ∧ (∀ b, u.upd.older = some b → u.upd.wroteAt = u.now + 1 → e.upd.boot = b) ∧
  e.flt.log = u.flt.log ∧ e.flt.next = u.flt.next ∧ e.mem.repair = u.mem.repair ∧ (u.sec.identity.isSome = true → e.sec.ownerToken = u.sec.ownerToken ∧ e.sec.stationKey = u.sec.stationKey)

/-- A reset by anything but DEV_RESET or the update itself interrupts the record being written. -/
theorem enterReset_upd {k : ResetKind} (hk : k = .por ∨ k = .sys ∨ k = .fault) (s : State) : (enterReset k s).upd = updAfter (cutRecord s.now s.upd) := by
  rcases hk with rfl | rfl | rfl <;> rfl

/-- The pin or the fault that calls for the reset may stand in SYS and in the fault state: the mode and the log are the device's own. -/
theorem resetFrom_enterReset {k : ResetKind} (hk : k = .por ∨ k = .sys ∨ k = .fault) (u : State) (y : SysSt) (f : FltSt)
    (hmode : y.mode = u.sys.mode) (hlog : f.log = u.flt.log) (hnext : f.next = u.flt.next) :
    ResetFrom u (enterReset k { u with sys := y, flt := f }) := by
  refine ⟨rfl, hmode, rfl, rfl, rfl, rfl, rfl, rfl, rfl, rfl, rfl, rfl, rfl, rfl, fun hwhole => ?_, fun b hb hw => ?_, hlog, hnext, rfl, fun hid => ?_⟩
  · rw [enterReset_upd hk, updAfter_boot]
    exact cutRecord_boot_whole hwhole
  · rw [enterReset_upd hk, updAfter_boot]
    exact cutRecord_boot_torn hb hw
  · have hsec (k : ResetKind) (s : State) : (enterReset k s).sec = secAfter s.sec := rfl
    rw [hsec]
    simp [secAfter, hid]

/-- THERMAL_TRIP calls for RESET and is logged at the next boot (R522, R528). -/
theorem raise_thermalTrip (sensor : Nat) (s : State) :
    raise 0x0703 sensor s = { s with flt := { s.flt with resetReq := true, atBoot := s.flt.atBoot ++ [(0x0703, sensor)] } } := by
  have hact : faultAction s 0x0703 = 5 := rfl
  simp [raise, raiseWith, hact]

theorem sysRstFall_high {s : State} (h : s.sys.sysRstN = true) : sysRstFall s = enterReset .sys { s with sys.sysRstN := false } := if_pos h

theorem thermalTrip_outside {sensor : Nat} {s : State} (h : s.sys.mode ≠ .reset) :
    thermalTrip sensor s = enterReset .fault { s with sys.thermal := true, flt := { s.flt with resetReq := true, atBoot := s.flt.atBoot ++ [(0x0703, sensor % 8)] } } := by
  rw [thermalTrip, if_neg h, raise_thermalTrip]

/-- Settles O37: each of the causes enters RESET, and the kinds differ in the energy counters alone. -/
theorem pinsPutTheDeviceInReset : Obligations.PinsPutTheDeviceInReset := by
  unfold Obligations.PinsPutTheDeviceInReset
  intro t sensor s u inReset
  have por (y : SysSt) (h : y.mode = u.sys.mode) : ResetFrom u (enterReset .por { u with sys := y }) :=
    resetFrom_enterReset (.inl rfl) u y u.flt h rfl rfl
  have sys (y : SysSt) (h : y.mode = u.sys.mode) : ResetFrom u (enterReset .sys { u with sys := y }) :=
    resetFrom_enterReset (.inr (.inl rfl)) u y u.flt h rfl rfl
  refine ⟨⟨_, exec_porNFall t s, por _ rfl, rfl, rfl⟩, ⟨_, exec_brownOut t s, por _ rfl, rfl, rfl⟩, ⟨_, exec_xtal25Stop t s, sys _ rfl, rfl, rfl⟩,
    fun hpin => ?sysRst, fun hmode => ?trip, fun hmode => ?again⟩
  case sysRst =>
    rw [exec_sysRstNFall, sysRstFall_high hpin]
    exact ⟨_, rfl, sys _ rfl, rfl, rfl⟩
  case trip =>
    rw [exec_thermalTrip, thermalTrip_outside hmode]
    exact ⟨_, rfl, resetFrom_enterReset (.inr (.inr rfl)) u _ _ rfl rfl rfl, rfl, rfl, rfl⟩
  case again => rw [exec_thermalTrip, thermalTrip, if_pos hmode]

end Sys2Proof.Machine
end

/-! The window, the ring tails and the event queue's rows (R25, R303, R336, R337, R349, R350, R352, R353). -/
section

namespace Sys2Proof.Machine

open Sys2Proof Sys2Proof.Safety

/-! ### The load area (R336, R337) -/

theorem hbmArea_load {a : Nat} (h : a < 67108864) : hbmArea a = some 0 := if_pos h

/-- No unit lays its data into the load area. -/
theorem unitByte_load (s : State) {a : Nat} (h : a < 67108864) : unitByte s a = none := by
  simp [unitByte, hbmArea_load h]

/-- The load area reads as it was written. -/
theorem viewByte_load (s : State) (i : Nat) {a : Nat} (h : a < 67108864) : viewByte s i a = hbmRead s a := by
  simp [viewByte, hbmArea_load h, unitByte_load s h]

theorem pokeByte_load (b : Byte) (s : State) {a : Nat} (h : a < 67108864) : pokeByte a b s = hbmWrite a [b] s := by
  simp [pokeByte, hbmArea_load h, unitByte_load s h]

/-- Bytes written one by one are the bytes written together. -/
theorem hbmWrite_cons (a : Nat) (b : Byte) (bytes : List Byte) (s : State) :
    hbmWrite (a + 1) bytes (hbmWrite a [b] s) = hbmWrite a (b :: bytes) s := rfl

theorem pokeBytes_load (a i : Nat) (bytes : List Byte) (s : State) (h : a + i + bytes.length ≤ 67108864) :
    (withIdx i bytes).foldl (fun s e => pokeByte ((a + e.1) % 2 ^ 34) e.2 s) s = hbmWrite (a + i) bytes s := by
  induction bytes generalizing i s with
  | nil => rfl
  | cons b bytes ih =>
    have hlen : a + (i + 1) + bytes.length ≤ 67108864 := by simpa [Nat.add_assoc, Nat.add_comm 1] using h
    have hmod : (a + i) % 2 ^ 34 = a + i := Nat.mod_eq_of_lt (by omega)
    rw [withIdx, List.foldl_cons, ih (i + 1) _ hlen, hmod, pokeByte_load b s (by omega)]
    exact hbmWrite_cons (a + i) b bytes s

/-- Outside SERVICE a write that ends within 64 MiB is taken whole (R336). -/
theorem bar2Write_load {o : Nat} {bytes : List Byte} {s : State} (h : winAddr s o + bytes.length ≤ 67108864) :
    bar2Write o bytes s = hbmWrite (winAddr s o) bytes (touchHbm s) := by
  have hfits : (s.sys.mode == .service || decide (winAddr s o + bytes.length ≤ 64 * 2 ^ 20)) = true := by simp [h]
  rw [bar2Write, if_pos hfits]
  exact pokeBytes_load (winAddr s o) 0 bytes _ h

/-- In SERVICE every byte goes where its address leads (R336). -/
theorem bar2Write_service {o : Nat} {bytes : List Byte} {s : State} (h : s.sys.mode = .service) :
    bar2Write o bytes s = (withIdx 0 bytes).foldl (fun v e => pokeByte ((winAddr s o + e.1) % 2 ^ 34) e.2 v) (touchHbm s) := by
  have hserv : (s.sys.mode == .service || decide (winAddr s o + bytes.length ≤ 64 * 2 ^ 20)) = true := by simp [h]
  rw [bar2Write, if_pos hserv]

/-- Beyond the load area a write outside SERVICE is discarded and counted (R336). -/
theorem bar2Write_discarded {o : Nat} {bytes : List Byte} {s : State} (hm : s.sys.mode ≠ .service) (h : 67108864 < winAddr s o + bytes.length) :
    bar2Write o bytes s = { s with host.winDiscard := satInc 32 s.host.winDiscard } := by
  have hout : ¬ (s.sys.mode == .service || decide (winAddr s o + bytes.length ≤ 64 * 2 ^ 20)) = true := by simp [hm, h]
  rw [bar2Write, if_neg hout]

/-! ### Streams -/

theorem streamOf_setStream_same {n : Nat} (x : Stream) {s : State} (h : n < s.dlv.streams.length) : streamOf (setStream n x s) n = x := by
  simp [streamOf, List.getD_eq_getElem?_getD, h]

@[simp] theorem setStream_setStream (n : Nat) (x y : Stream) (s : State) : setStream n y (setStream n x s) = setStream n y s := by
  simp [setStream]

/-- Two changes of one stream are one change. -/
theorem modStream_modStream {n : Nat} (f g : Stream → Stream) {s : State} (h : n < s.dlv.streams.length) :
    modStream n g (modStream n f s) = modStream n (fun x => g (f x)) s := by
  simp [modStream, streamOf_setStream_same _ h]

/-- A stream that has a ring is one of the device's. -/
theorem lt_streams_of_ringed {n : Nat} {s : State} (h : (streamOf s n).ringed = true) : n < s.dlv.streams.length := by
  rcases Nat.lt_or_ge n s.dlv.streams.length with hn | hn
  · exact hn
  · have hreset : streamOf s n = {} := by rw [streamOf, List.getD_eq_getElem?_getD, List.getElem?_eq_none hn, Option.getD_none]
    rw [hreset] at h
    cases h

/-! ### Ring tails (R303) -/

theorem tailWrite_good {n w : Nat} {s : State} (hr : (streamOf s n).ringed = true) (h : mdist 32 (streamOf s n).head (w % 2 ^ 32) ≤ (streamOf s n).ring.entries) :
    tailWrite n w s = modStream n (fun x => { x with tail := w % 2 ^ 32, ringErr := false }) s := by
  have hn := lt_streams_of_ringed hr
  unfold tailWrite
  extract_lets v x
  have hx : x = { streamOf s n with tail := w % 2 ^ 32 } := streamOf_setStream_same _ hn
  rw [hx]
  simp only [hr, Bool.not_true, Bool.false_eq_true, if_false, if_neg (Nat.not_lt.mpr h)]
  exact modStream_modStream _ _ hn

theorem tailWrite_bad {n w : Nat} {s : State} (hr : (streamOf s n).ringed = true) (h : (streamOf s n).ring.entries < mdist 32 (streamOf s n).head (w % 2 ^ 32))
    (he : (streamOf s n).ringErr = false) :
    tailWrite n w s = ringError n 0xFFFFFFFF (modStream n (fun x => { x with tail := w % 2 ^ 32 }) s) := by
  have hn := lt_streams_of_ringed hr
  unfold tailWrite
  extract_lets v x
  have hx : x = { streamOf s n with tail := w % 2 ^ 32 } := streamOf_setStream_same _ hn
  rw [hx]
  simp only [hr, he, Bool.not_true, Bool.false_eq_true, if_false, if_pos h]
  rfl

/-! ### The event queue (R349, R350, R352, R353) -/

theorem mdist_mod (n a b : Nat) : mdist n (a % 2 ^ n) b = mdist n a b := by simp [mdist]

theorem writeHead_beyond {h : Nat} {s : State} (hb : 2 ^ s.host.evq.log2 < mdist 32 h s.host.evq.tail) : writeHead h s = accessErr s := if_pos hb

/-- Every entry is consumed: the queue is armed (R353). -/
theorem writeHead_empty {h : Nat} {s : State} (h0 : mdist 32 h s.host.evq.tail = 0) :
    writeHead h s = { s with host.evq := { s.host.evq with head := h % 2 ^ 32, armed := true } } := by
  simp [writeHead, Evq.unread, -Nat.reducePow, mdist_mod, h0]

/-- Entries remain: VECTOR signals at once (R353). -/
theorem writeHead_unread {h : Nat} {s : State} (hb : mdist 32 h s.host.evq.tail ≤ 2 ^ s.host.evq.log2) (h0 : mdist 32 h s.host.evq.tail ≠ 0) :
    writeHead h s = signal s.host.evq.vector { s with host.evq := { s.host.evq with head := h % 2 ^ 32, armed := false } } := by
  simp [writeHead, Evq.unread, Nat.not_lt.mpr hb, -Nat.reducePow, mdist_mod, Nat.pos_of_ne_zero h0, signalEvq]

/-- Unmasking signals a pending vector while host writes run (R352). -/
theorem setMask_signals {v : Nat} {s : State} (hp : bit s.host.pba v = true) (hu : hostUp s = true) :
    setMask v false s = fire v { s with host.msix := tmod {} v (fun e => { e with ctrl := 0 }) s.host.msix, host.pba := setBit s.host.pba v false } := by
  have hu' : hostUp { s with host.msix := tmod {} v (fun e => { e with ctrl := b2n false }) s.host.msix } = true := hu
  simp only [setMask, Bool.not_false, hp, hu', Bool.and_self, if_true]
  rfl

theorem setMask_quiet {v : Nat} {s : State} (h : bit s.host.pba v = false ∨ hostUp s = false) :
    setMask v false s = { s with host.msix := tmod {} v (fun e => { e with ctrl := 0 }) s.host.msix } := by
  have h' : ¬ (bit s.host.pba v = true ∧ hostUp { s with host.msix := tmod {} v (fun e => { e with ctrl := b2n false }) s.host.msix } = true) := by
    rintro ⟨hp, hu⟩
    rcases h with h | h
    · simp [hp] at h
    · exact absurd (show hostUp s = true from hu) (by simp [h])
  simp only [setMask, Bool.not_false, Bool.true_and, Bool.and_eq_true, if_neg h']
  rfl

theorem drainOne_writes {e : Event} {rest : List Event} {s : State} (h : s.host.evq.hold = e :: rest) (hr : evqReady s = true) :
    drainOne s = writeEntry e { s with host.evq.hold := rest } := by
  simp [drainOne, h, hr]

theorem coalesceOver_signals {d : Nat} {rest : List Nat} {s : State} (h : s.host.evq.due = d :: rest) (hd : d ≤ s.now) :
    coalesceOver s = signalEvq { s with host.evq.due := rest } := by
  simp [coalesceOver, h, hd]

/-- Settles O42: each row is the effect of its access on the state at the instant of the access. -/
theorem windowRingAndQueueRowsAct : Obligations.WindowRingAndQueueRowsAct := by
  unfold Obligations.WindowRingAndQueueRowsAct
  intro t o n w bytes s u a q x hm
  refine ⟨fun h1 hs hl => ?load, fun h1 hs => ?service, fun h1 hs hl => ?discarded, ?read, fun i a ha => viewByte_load u i ha, fun hn hr => ⟨fun ht => ?good, fun ht he => ?bad⟩,
    fun _ h0 => ?empty, fun hb h0 => ?unread, fun hb => ?beyond, fun hn hp hu => ?signals, fun hn hq => ?quiet, fun e rest he hr => ?drain, fun d rest hd hle => ?due⟩
  case load => rw [exec_bar2Write _ _ _ _ (secondMaster_of_oneMaster h1), onBar_answers _ hm, bar2Write_load hl]; rfl
  case service => rw [exec_bar2Write _ _ _ _ (secondMaster_of_oneMaster h1), onBar_answers _ hm, bar2Write_service hs]; rfl
  case discarded => rw [exec_bar2Write _ _ _ _ (secondMaster_of_oneMaster h1), onBar_answers _ hm, bar2Write_discarded hs hl]
  case read => rw [exec_bar2Read, onBar_answers _ hm]; rfl
  case good => rw [exec_ringTailWrite, onBar_answers _ hm, if_pos hn, tailWrite_good (s := busMaster u) hr ht]; rfl
  case bad => rw [exec_ringTailWrite, onBar_answers _ hm, if_pos hn, tailWrite_bad (s := busMaster u) hr ht he]; rfl
  case empty => rw [exec_evqHeadWrite, onBar_answers _ hm, writeHead_empty h0]
  case unread => rw [exec_evqHeadWrite, onBar_answers _ hm, writeHead_unread hb h0]
  case beyond => rw [exec_evqHeadWrite, onBar_answers _ hm, writeHead_beyond hb, accessErr]
  case signals => rw [exec_msixUnmask, onBar_answers _ hm, if_pos hn, setMask_signals hp hu]; rfl
  case quiet => rw [exec_msixUnmask, onBar_answers _ hm, if_pos hn, setMask_quiet hq]; rfl
  case drain => rw [exec_eventWrite, drainOne_writes he hr]
  case due => rw [exec_coalesceTimer, coalesceOver_signals hd hle, signalEvq]

end Sys2Proof.Machine
end

/-! Bolts and codec jobs (R20, R284 to R289). -/
section

namespace Sys2Proof.Machine

open Sys2Proof Sys2Proof.Safety

/-! ### Dispatch of a bolt (R20, R284, R285) -/

/-- The stream with plane-row r replaced by p wherever it stands. -/
def replaceRow (r p : PlaneRow) (x : Stream) : Stream :=
  { x with work := x.work.map (fun w => match w with | .row o => if sameWork o r then .row p else w | w => w) }

/-- No buffer can take the next bolt of a live plane-row. -/
def boltBlocked (x : Stream) (r : PlaneRow) : Prop := r.dest = .live ∧ (x.ringErr = true ∨ liveFits x (boltReserve r r.sent) = false)

theorem boltBlocked_iff (x : Stream) (r : PlaneRow) :
    (decide (r.dest = .live) && (x.ringErr || !liveFits x (boltReserve r r.sent))) = true ↔ boltBlocked x r := by
  simp [boltBlocked]

theorem dispatchBolt_idle {n : Nat} {s : State} (h : rowToSend (streamOf s n) = none) : dispatchBolt n s = s := by
  simp [dispatchBolt, h]

/-- A live bolt that no buffer can take waits, and stalls its stream where no descriptor is left (log 55). -/
theorem dispatchBolt_blocked {n : Nat} {s : State} {r : PlaneRow} (h : rowToSend (streamOf s n) = some r) (hb : boltBlocked (streamOf s n) r) :
    dispatchBolt n s = if liveFull (streamOf s n) then closeDone n (stallStream n s) else s := by
  simp only [dispatchBolt, h]
  rw [if_pos ((boltBlocked_iff _ _).mpr hb)]

/-- A bolt that is coded goes to the coder of its column, in fallback where nine bolts wait there. -/
theorem dispatchBolt_coded {n : Nat} {s : State} {r : PlaneRow} (h : rowToSend (streamOf s n) = some r) (hb : ¬ boltBlocked (streamOf s n) r) (hc : r.coding ≠ 0) :
    let cod := r.sent % Nat.max 1 (boltColumns r.nc) % 2
    let sent := setStream n (replaceRow r { r with sent := r.sent + 1, flight := r.flight ++ [(r.sent, r.coding == 3 && decide (8 < codWaits s cod))] } (streamOf s n)) (touchHbm s)
    dispatchBolt n s = { sent with dlv := { sent.dlv with coders := nmod [] s.dlv.coders cod (fun q => q ++ [(n, (r.seq0 + r.sent) % 2 ^ 32)]) } } := by
  intro cod sent
  simp only [dispatchBolt, h]
  rw [if_neg (mt (boltBlocked_iff _ _).mp hb), if_neg hc]
  rfl

/-- A bolt that is not coded is packed at once. -/
theorem dispatchBolt_packed {n : Nat} {s : State} {r : PlaneRow} (h : rowToSend (streamOf s n) = some r) (hb : ¬ boltBlocked (streamOf s n) r) (hc : r.coding = 0) :
    let r' : PlaneRow := { r with sent := r.sent + 1 }
    dispatchBolt n s = closeDone n (release n (setStream n (finishBolt n r' r.sent false (replaceRow r r' (streamOf s n))) (touchHbm s))) := by
  intro r'
  simp only [dispatchBolt, h]
  rw [if_neg (mt (boltBlocked_iff _ _).mp hb), if_pos hc]
  rfl

/-! ### The end of a bolt's coding (R20) -/

/-- The bolt's place in its encoder is free again. -/
def freeEncoder (n seq : Nat) (s : State) : State := { s with dlv := { s.dlv with coders := s.dlv.coders.map (fun q => q.erase (n, seq)) } }

theorem boltCoded_waiting {n seq : Nat} {s : State} (h : inEncoder s n seq = false) : boltCoded n seq s = s := by
  simp [boltCoded, h]

/-- A bolt of a plane-row dropped since leaves nothing. -/
theorem boltCoded_dropped {n seq : Nat} {s : State} (h : inEncoder s n seq = true) (hw : (streamOf s n).work = []) : boltCoded n seq s = freeEncoder n seq s := by
  simp [boltCoded, h, hw, freeEncoder]

/-- A coded bolt joins its plane-row, and what is ready leaves in order. -/
theorem boltCoded_joins {n seq i : Nat} {fb : Bool} {s : State} {r : PlaneRow} (h : inEncoder s n seq = true) (hw : (streamOf s n).work = [.row r])
    (hf : r.flight.find? (fun e => (r.seq0 + e.1) % 2 ^ 32 == seq) = some (i, fb)) :
    boltCoded n seq s = closeDone n (release n (modStream n (finishBolt n r i fb) (freeEncoder n seq s))) := by
  simp only [boltCoded, h, hw, freeEncoder, List.findSome?_cons, hf, Option.map_some, Bool.not_true, Bool.false_eq_true, if_false]

/-! ### Codec jobs (R286 to R289) -/

theorem startJob_running {dec : Bool} {src tab : SourceData} {s : State} {j : Job} (h : jobAt s dec 1 = some j) : startJob dec src tab s = s := by
  simp [startJob, h]

/-- The oldest queued job of a direction starts on the live bank's tables of this instant (R286, R288). -/
theorem startJob_starts {dec : Bool} {src tab : SourceData} {s : State} {j : Job} (h1 : jobAt s dec 1 = none) (h0 : jobAt s dec 0 = some j) :
    startJob dec src tab s = workJob { j with source := src, tabs := tab, codes := s.banks.live.codes } s := by
  simp [startJob, h1, h0]

/-- A job works through its source, and takes the stack out of self-refresh where it reads or writes it (R25, R337). -/
theorem workJob_eq (j : Job) (s : State) :
    let c := jobCfg j.params
    let o := runJob s j c
    workJob j s = setJob { j with state := 1, seen := s.hbm, result := o.guard, output := o.output, bolts := o.bolts, bytesIn := o.used, maxErr := o.maxErr, failBolt := o.fail }
      (if c.srcKind = 1 ∨ c.dstKind = 1 ∨ c.tables = 2 then drewLoad (c.srcBytes + 256) s else s) := by
  simp [workJob, or_assoc]

theorem completeJob_none {dec : Bool} {s : State} (h : jobAt s dec 1 = none) : completeJob dec s = s := by
  simp [completeJob, h]

theorem completeJob_seen {dec : Bool} {s : State} {j : Job} (h : jobAt s dec 1 = some j) (hs : j.seen = s.hbm) : completeJob dec s = finishJob j s := by
  simp [completeJob, h, hs]

/-- Where the stack has changed since the start, the job may have read the new content (R337, log 73). -/
theorem completeJob_changed {dec : Bool} {s : State} {j k : Job} (h : jobAt s dec 1 = some j) (hs : j.seen ≠ s.hbm) (hk : jobAt (workJob j s) dec 1 = some k) :
    completeJob dec s = finishJob k (workJob j s) := by
  simp [completeJob, h, hs, hk]

theorem finishJob_failed {j : Job} {s : State} (h : j.result ≠ 0) : finishJob j s = failJob j.result j s := by
  simp [finishJob, h]

/-- A job that met no guard writes its bytes and completes (R289). -/
theorem finishJob_done {j : Job} {s : State} (h : j.result = 0) :
    finishJob j s = complete (fun p => p.src == j.src && p.seq == j.seq && p.opcode == 0x0702) 0 0 0
      (setJob { j with state := 2, bytesOut := j.output.length, output := [] } (jobWrite (jobCfg j.params) j.output s)) := by
  simp [finishJob, h]

theorem jobWrite_host {c : JobCfg} {b : List Byte} {s : State} (hc : c.dstKind = 0) (hu : hostUp s = true) (hb : b ≠ []) :
    jobWrite c b s = emit (.hostWrite c.dst b) s := by
  simp [jobWrite, hc, hu, hb]

theorem jobWrite_hbm {c : JobCfg} {b : List Byte} {s : State} (hc : c.dstKind = 1) (hb : b ≠ []) : jobWrite c b s = hbmWrite c.dst b s := by
  simp [jobWrite, hc, hb]

/-! ### The rows -/

/-- A row that names one of the eight streams acts on it, and any other changes nothing. -/
theorem run_onStream {n t : Nat} {s : State} (f : State → State) :
    (n < 8 → run t (fun s => if n < 8 then f s else s) s = .next (after t s (f (s.at t)))) ∧
    (8 ≤ n → run t (fun s => if n < 8 then f s else s) s = .next (after t s (s.at t))) :=
  ⟨fun h => by simp [run, h], fun h => by simp [run, Nat.not_lt.mpr h]⟩

theorem exec_boltDispatch_stream {t n : Nat} {s : State} (h : n < 8) : exec (.boltDispatch t n) s = .next (after t s (dispatchBolt n (s.at t))) :=
  (run_onStream _).1 h

theorem exec_boltCoded_stream {t n seq : Nat} {s : State} (h : n < 8) : exec (.boltCoded t n seq) s = .next (after t s (boltCoded n seq (s.at t))) :=
  (run_onStream _).1 h

theorem exec_boltDispatch_beyond {t n : Nat} {s : State} (h : 8 ≤ n) : exec (.boltDispatch t n) s = .next (after t s (s.at t)) := (run_onStream _).2 h

theorem exec_boltCoded_beyond {t n seq : Nat} {s : State} (h : 8 ≤ n) : exec (.boltCoded t n seq) s = .next (after t s (s.at t)) := (run_onStream _).2 h

/-- Settles O51: each row is its effect on the stream's plane-rows, the coders and the jobs at its instant. -/
theorem boltsAndJobsAreCoded : Obligations.BoltsAndJobsAreCoded := by
  unfold Obligations.BoltsAndJobsAreCoded
  intro t n seq i fb dec r j y src tab s u x put cod sent blocked freed mine upd c k o
  refine ⟨fun hn hw => ?idle, fun hn hw hb => ⟨fun hf => ?stall, fun hf => ?wait⟩, fun hn hw hb hc => ?coded, fun hn hw hb hc => ?packed, fun hn he hw hf => ?joins,
    fun hn he hw => ?dropped, fun he => ?waiting, fun hn => ⟨?noStream, ?noStream'⟩, fun h1 => ?running, fun h1 h0 => ?starts, fun h1 => ?none, fun h1 hs hr hc hu hb => ?toHost,
    fun h1 hs hr hc hb => ?toHbm, fun h1 hs hr => ?failed, fun h1 hs hk => ?changed⟩
  case idle => rw [exec_boltDispatch_stream hn, dispatchBolt_idle hw]
  case stall => rw [exec_boltDispatch_stream hn, dispatchBolt_blocked hw hb, if_pos hf]
  case wait => rw [exec_boltDispatch_stream hn, dispatchBolt_blocked hw hb, if_neg (ne_true_of_eq_false hf)]
  case coded => rw [exec_boltDispatch_stream hn, dispatchBolt_coded hw hb hc]; rfl
  case packed => rw [exec_boltDispatch_stream hn, dispatchBolt_packed hw hb hc]; rfl
  case joins => rw [exec_boltCoded_stream hn, boltCoded_joins he hw hf]; rfl
  case dropped => rw [exec_boltCoded_stream hn, boltCoded_dropped he hw]; rfl
  case waiting =>
    rcases Nat.lt_or_ge n 8 with hn | hn
    · rw [exec_boltCoded_stream hn, boltCoded_waiting he]
    · exact exec_boltCoded_beyond hn
  case noStream => rw [exec_boltDispatch_beyond hn]
  case noStream' => rw [exec_boltCoded_beyond hn]
  case running => rw [exec_codecJobStart, startJob_running h1]
  case starts => rw [exec_codecJobStart, startJob_starts h1 h0, workJob_eq]; rfl
  case none => rw [exec_codecJobComplete, completeJob_none h1]
  case toHost => rw [exec_codecJobComplete, completeJob_seen h1 hs, finishJob_done hr, jobWrite_host hc hu hb]; rfl
  case toHbm => rw [exec_codecJobComplete, completeJob_seen h1 hs, finishJob_done hr, jobWrite_hbm hc hb]; rfl
  case failed => rw [exec_codecJobComplete, completeJob_seen h1 hs, finishJob_failed hr]
  case changed => rw [exec_codecJobComplete, completeJob_changed h1 hs hk]

end Sys2Proof.Machine
end

/-! Memory errors, the debug port, energy and clocks (R22, R24, R25, R35, R524 to R527, R530, R532 to R534). -/
section

namespace Sys2Proof.Machine

open Sys2Proof Sys2Proof.Safety

/-- A choice on a condition, read off the condition that fails where it holds. -/
theorem ite_of_not_iff {α : Type} {p q : Prop} [Decidable p] [Decidable q] {x y : α} (h : ¬ p ↔ q) : (if p then x else y) = if q then y else x := by
  by_cases hp : p
  · rw [if_pos hp, if_neg (fun hq => h.mpr hq hp)]
  · rw [if_neg hp, if_pos (h.mp hp)]

/-! ### SRAM stores (R524 to R526) -/

/-- A corrected error enters the log: the fault state alone changes. -/
theorem corrected_frame (code res : Nat) (s : State) : ∃ f : FltSt, corrected code res s = { s with flt := f } := by
  unfold corrected
  extract_lets key last n
  split
  · exact ⟨_, rfl⟩
  · obtain ⟨f, hf⟩ := raiseWith_frame code res (faultData n []) 0 { s with flt.corrTime := tset 0 key (s.now + 1) s.flt.corrTime, flt.corrCount := tset 0 key 0 s.flt.corrCount }
    exact ⟨f, hf⟩

@[simp] theorem corrected_now (code res : Nat) (s : State) : (corrected code res s).now = s.now := by
  obtain ⟨f, hf⟩ := corrected_frame code res s
  rw [hf]

theorem sramError_beyond {store : Nat} (unit addr : Nat) (double : Bool) (s : State) (h : 6 ≤ store) : sramError store unit addr double s = s := if_pos h

theorem sramError_double {store : Nat} (unit addr : Nat) (s : State) (h : store ≤ 5) : sramError store unit addr true s = sramDouble store unit addr s := by
  simp [sramError, Nat.not_lt.mpr h]

theorem sramPlace_eq (store unit addr : Nat) : sramPlace store unit addr = (store * 256 + unit % 256) * 4294967296 + addr := rfl

/-- The first corrected error at an address in 24 h enters the log, and the second retires its row. -/
theorem sramError_corrected {store : Nat} (unit addr : Nat) (s : State) (h : store ≤ 5) :
    let place := (store * 256 + unit % 256) * 4294967296 + addr
    let last := tget 0 place s.mem.sramLast
    let told := corrected 0x0801 (sramUnit store unit addr) { s with mem := { s.mem with sramLast := tset 0 place (s.now + 1) s.mem.sramLast } }
    sramError store unit addr false s = if last = 0 ∨ last - 1 + 86400000000000 ≤ s.now then told else retireRow store unit addr told := by
  intro place last told
  have hnow : told.now = s.now := corrected_now _ _ _
  have hcase : sramError store unit addr false s = if (last != 0 && decide (told.now < last - 1 + 86400000000000)) = true then retireRow store unit addr told else told := by
    rw [sramError, if_neg (Nat.not_lt.mpr h), if_neg Bool.false_ne_true, sramCorrected, sramPlace_eq]
  have hfirst : ¬ (last != 0 && decide (s.now < last - 1 + 86400000000000)) = true ↔ last = 0 ∨ last - 1 + 86400000000000 ≤ s.now := by
    simp only [Bool.and_eq_true, bne_iff_ne, decide_eq_true_eq]
    omega
  rw [hcase, hnow, ite_of_not_iff hfirst]

/-! ### The HBM stack (R195, R525, R527) -/

theorem hbmArea_system {a : Nat} (h : a < 134217728) : hbmArea a = some 0 ∨ hbmArea a = some 1 := by
  rcases Nat.lt_or_ge a 67108864 with hl | hl
  · exact .inl (hbmArea_load hl)
  · exact .inr (by rw [hbmArea, if_neg (by omega), if_pos h])

theorem hbmArea_staging {a : Nat} (h1 : 134217728 ≤ a) (h2 : a < 805306368) : hbmArea a = some 2 := by
  rw [hbmArea, if_neg (by omega), if_neg (by omega), if_pos h2]

theorem hbmArea_stagger {a : Nat} (h1 : 805306368 ≤ a) (h2 : a < 2147483648) : hbmArea a = some 3 := by
  rw [hbmArea, if_neg (by omega), if_neg (by omega), if_neg (by omega), if_pos h2]

theorem hbmArea_ring {a : Nat} (h1 : 2147483648 ≤ a) (h2 : a < 17179869184) : hbmArea a = some 4 := by
  rw [hbmArea, if_neg (by omega), if_neg (by omega), if_neg (by omega), if_neg (by omega), if_pos h2]

theorem hbmArea_none {a : Nat} (h : 17179869184 ≤ a) : hbmArea a = none := by
  rw [hbmArea, if_neg (by omega), if_neg (by omega), if_neg (by omega), if_neg (by omega), if_neg (by omega)]

theorem hbmError_beyond {a : Nat} (double : Bool) (s : State) (h : 17179869184 ≤ a) : hbmError a double s = s := by
  simp [hbmError, hbmArea_none h]

/-- Below the end of the stack an address lies in one of its areas, and in the stagger store where Table 10.6 says so. -/
theorem hbmArea_some {a : Nat} (h : a < 17179869184) : ∃ area, hbmArea a = some area ∧ (area = 3 ↔ 805306368 ≤ a ∧ a < 2147483648) := by
  rcases Nat.lt_or_ge a 134217728 with h1 | h1
  · rcases hbmArea_system h1 with harea | harea <;> exact ⟨_, harea, by omega⟩
  rcases Nat.lt_or_ge a 805306368 with h2 | h2
  · exact ⟨_, hbmArea_staging h1 h2, by omega⟩
  rcases Nat.lt_or_ge a 2147483648 with h3 | h3
  · exact ⟨_, hbmArea_stagger h2 h3, by omega⟩
  · exact ⟨_, hbmArea_ring h3 h, by omega⟩

/-- A corrected error of the stack enters the log, and counts where it lies in the stagger store (R195, R524). -/
theorem hbmError_corrected {a : Nat} (s : State) (h : a < 17179869184) :
    hbmError a false s = corrected 0x0804 (a / 1073741824 % 16) (if 805306368 ≤ a ∧ a < 2147483648 then { s with aln := { s.aln with stCorr := satInc 32 s.aln.stCorr } } else s) := by
  obtain ⟨area, harea, h3⟩ := hbmArea_some h
  simp only [hbmError, harea, Bool.not_false, if_true, h3]
  rfl

theorem hbmError_system {a : Nat} (s : State) (h : a < 134217728) : hbmError a true s = hbmDouble a s := by
  rcases hbmArea_system h with harea | harea <;> simp [hbmError, harea]

theorem hbmError_staging {a : Nat} (s : State) (h1 : 134217728 ≤ a) (h2 : a < 805306368) :
    hbmError a true s = stagingLost (a - 134217728) (hbmDouble a s) := by
  simp [hbmError, hbmArea_staging h1 h2]

theorem hbmError_stagger {a : Nat} {s : State} {w : WinTpl} (h1 : 805306368 ≤ a) (h2 : a < 2147483648) (hw : (hbmDouble a s).aln.store[(a - 805306368) / 20480]? = some w) :
    hbmError a true s = staggerLost w.port w.slot w.line (hbmDouble a s) := by
  simp [hbmError, hbmArea_stagger h1 h2, hw]

theorem hbmError_ring {a : Nat} {s : State} {k : Nat × Item} (h1 : 2147483648 ≤ a) (h2 : a < 17179869184) (hk : itemAt (hbmDouble a s) (a - 2147483648) = some k) :
    hbmError a true s = loseItems 3 k.1 [] [k.2] (hbmDouble a s) := by
  simp [hbmError, hbmArea_ring h1 h2, hk]

/-! ### Scrubbing (R524, R525) -/

theorem scrubSram_corrected {f : ScrubFinding} (s : State) (h : f.double = false) : scrubSram f s = sramError f.store f.unit f.addr false s := by
  simp [scrubSram, h]

/-- A double error that a scrub finds in a shading record takes its replacement value at once, and counts at the record's next use. -/
theorem scrubSram_shade {f : ScrubFinding} (s : State) (hd : f.double = true) (h : f.store = 1) :
    let found := raise 0x0802 (sramUnit f.store f.unit f.addr) s
    scrubSram f s = retireRow 1 f.unit f.addr (shadeBad f.unit f.addr { found with mem := { found.mem with latentShade := found.mem.latentShade ++ [(b2n (f.unit == 1), f.addr)] } }) := by
  simp [scrubSram, hd, h]

/-- One in a polynomial set waits for the next exposure that is collapsed with it. -/
theorem scrubSram_poly {f : ScrubFinding} (s : State) (hd : f.double = true) (h : f.store = 2) :
    let found := raise 0x0802 (sramUnit f.store f.unit f.addr) s
    scrubSram f s = retireRow 2 f.unit f.addr { found with mem := { found.mem with latentPoly := found.mem.latentPoly ++ [f.addr % 256] } } := by
  simp [scrubSram, hd, h]

theorem scrubSram_coding {f : ScrubFinding} (s : State) (hd : f.double = true) (h : f.store = 4) :
    scrubSram f s = retireRow 4 f.unit f.addr (raise 0x0802 (sramUnit f.store f.unit f.addr) s) := by
  simp [scrubSram, hd, h]

theorem scrubDue_iff (period last now : Nat) : scrubDue period last now = true ↔ last = 0 ∨ last - 1 + period ≤ now := by
  simp [scrubDue]

/-- A scrub looks at the memories that are due: the SRAM stores every 10 s, and the system area of the stack every 60 s. -/
theorem scrub_eq (l : List ScrubFinding) (s : State) :
    let a := s.mem.scrubAt = 0 ∨ s.mem.scrubAt - 1 + 10000000000 ≤ s.now
    let b := s.mem.scrubHbmAt = 0 ∨ s.mem.scrubHbmAt - 1 + 60000000000 ≤ s.now
    let seen : State := { s with mem := { s.mem with scrubAt := if a then s.now + 1 else s.mem.scrubAt, scrubHbmAt := if b then s.now + 1 else s.mem.scrubHbmAt } }
    let stores := if a then (l.filter (fun f => f.store == 1 || f.store == 2 || f.store == 4)).foldl (fun e f => scrubSram f e) seen else seen
    scrub l s = if b then (l.filter (fun f => f.store == 6 && hbmArea f.addr == some 1)).foldl (fun e f => hbmError f.addr f.double e) stores else stores := by
  simp only [scrub, scrubPart, scrubDue_iff]

/-! ### The debug port (R530, R532 to R534) -/

theorem jtagUnlock_none {sig : List Byte} {s : State} (h : s.sec.nonce = none) : jtagUnlock sig s = s := by
  simp [jtagUnlock, h]

/-- An answer is judged against the one challenge presented, which it uses up (R533). -/
theorem jtagUnlock_answers {n : Nat} {sig : List Byte} {s : State} (h : s.sec.nonce = some n) :
    let used : State := { s with sec := { s.sec with nonce := none } }
    jtagUnlock sig s = if locked s = true ∨ unlockOk n sig = false then refuseAuth used
      else if 32 ≤ s.sec.opens ∨ s.sec.erasePending = true then used
      else evSecurity 1 0 { s with sec := { s.sec with nonce := none, opens := s.sec.opens + 1, erasePending := true, opener := 5, openerSeq := 0 } } := by
  intro used
  have hlocked : locked used = locked s := rfl
  simp only [jtagUnlock, h, hlocked, Bool.or_eq_true, Bool.not_eq_true', decide_eq_true_eq, beginOpen, used]

theorem jtagInstruction_refused {ir : Nat} {s : State} (h : 5 ≤ ir ∨ (ir = 3 ∧ s.sys.mode ≠ .reset)) : jtagInstruction ir s = s := by
  simp [jtagInstruction, h]

theorem jtagInstruction_silent {ir : Nat} {s : State} (h : ir = 0 ∨ ir = 2 ∨ (ir = 3 ∧ s.sys.mode = .reset)) :
    jtagInstruction ir s = { s with sec := { s.sec with jtagIr := ir } } := by
  rcases h with rfl | rfl | ⟨rfl, hm⟩ <;> simp [jtagInstruction, *]

/-- Nothing erases, or the erase has been completed. -/
theorem secretsErased_idle {s : State} (h : s.sec.erasePending = false ∨ s.sec.opener = 6) : secretsErased s = s := by
  simp [secretsErased, h]

/-- Events and faults leave the secrets and the spool alone. -/
theorem evSecurity_sec (kind count : Nat) (s : State) : (evSecurity kind count s).sec = s.sec := by
  obtain ⟨h, n, o, w⟩ := post_frame 14 0xFFFF (layout 16 [(0, 1, kind), (4, 4, count)]) s
  rw [evSecurity, w]

theorem evSecurity_spool (kind count : Nat) (s : State) : (evSecurity kind count s).spool = s.spool := by
  obtain ⟨h, n, o, w⟩ := post_frame 14 0xFFFF (layout 16 [(0, 1, kind), (4, 4, count)]) s
  rw [evSecurity, w]

theorem raise_sec (code res : Nat) (s : State) : (raise code res s).sec = s.sec := by
  obtain ⟨f, w⟩ := raise_frame code res s
  rw [w]

theorem raise_spool (code res : Nat) (s : State) : (raise code res s).spool = s.spool := by
  obtain ⟨f, w⟩ := raise_frame code res s
  rw [w]

/-- The secrets after the erase of R532. -/
def erasedSecrets (c : SecSt) : SecSt :=
  { c with stationKey := none, ownerToken := none, spoolWrap := none, identity := none, erased := true, noOwner := false, erasePending := false, opener := 6 }

/-- The state once the secrets are erased and the debug port is open, before the command completes (R532). -/
def portOpened (s : State) : State :=
  let e := evSecurity 2 0 (sealSpool { s with sec := erasedSecrets s.sec })
  evSecurity 3 0 (raise 0x0A01 0xFFFF { e with sec := { e.sec with debugOpen := true } })

theorem secretsErased_opens {s : State} (h : s.sec.erasePending = true) (ho : s.sec.opener ≠ 6) :
    secretsErased s = complete (fun p => p.opcode == 0x0D10 && p.src == s.sec.opener && p.seq == s.sec.openerSeq) 0 0 0 (portOpened s) := by
  simp only [secretsErased, h, ho, Bool.not_true, decide_false, Bool.or_self, Bool.false_eq_true, if_false]
  rfl

theorem portOpened_sec (s : State) : (portOpened s).sec = { erasedSecrets s.sec with debugOpen := true } := by
  simp only [portOpened, evSecurity_sec, raise_sec]
  rfl

theorem portOpened_spool (s : State) : (portOpened s).spool = (sealSpool s).spool := by
  simp only [portOpened, evSecurity_spool, raise_spool]
  rfl

theorem authLockoutEnd_none {s : State} (h : s.sec.lockUntil = none) : authLockoutEnd s = s := by
  simp [authLockoutEnd, h]

/-- The refusal period ends at its instant (R534). -/
theorem authLockoutEnd_some {w : Nat} {s : State} (h : s.sec.lockUntil = some w) :
    authLockoutEnd s = if w ≤ s.now then { s with sec := { s.sec with lockUntil := none, refusals := [] } } else s := by
  simp [authLockoutEnd, locked, h]

/-! ### Clocks and self-refresh (R22 to R25) -/

theorem clockRaise_eq (i level depth : Nat) (fresh : Bool) (s : State) :
    clockRaise i level depth fresh s = if clockRuns s i = true ∧ 0 < depth ∧ depth ≤ 2 * level ∧ (fresh = true ∨ heldFor s i 256 = true)
      then setStep i (Nat.min (s.clk.steps.getD i 0 + 1) 3) s else s := by
  simp [clockRaise, and_assoc]

theorem clockLower_eq (i idle : Nat) (s : State) :
    clockLower i idle s = if clockRuns s i = true ∧ 4096 ≤ idle ∧ heldFor s i 4096 = true then setStep i (s.clk.steps.getD i 0 - 1) s else s := by
  simp [clockLower, and_assoc]

theorem clockStop_eq (i idle : Nat) (s : State) :
    clockStop i idle s = if clockRuns s i = true ∧ s.clk.steps.getD i 0 = 0 ∧ mayStop s i = true ∧ holdsWork s i = false ∧ 256 ≤ idle ∧ heldFor s i 256 = true
      then { s with clk := { s.clk with stopped := s.clk.stopped.set i true } } else s := by
  simp [clockStop, and_assoc]

theorem selfRefresh_eq (s : State) :
    selfRefresh s = if hbmBusy s = false ∧ (s.sys.mode = .standby ∨ s.sys.mode = .ready ∨ s.sys.mode = .activate) ∧ s.clk.lastHbm + 100000 ≤ s.now
      then { s with clk := { s.clk with refresh := true } } else s := by
  have hacts : ¬ (hbmBusy s || !(s.sys.mode == .standby || s.sys.mode == .ready || s.sys.mode == .activate) || decide (s.now < s.clk.lastHbm + 100000)) = true ↔
      hbmBusy s = false ∧ (s.sys.mode = .standby ∨ s.sys.mode = .ready ∨ s.sys.mode = .activate) ∧ s.clk.lastHbm + 100000 ≤ s.now := by
    rw [Bool.not_eq_true]
    simp only [Bool.or_eq_false_iff, Bool.not_eq_false', Bool.or_eq_true, beq_iff_eq, decide_eq_false_iff_not, Nat.not_lt, and_assoc, or_assoc]
  rw [selfRefresh, ite_of_not_iff hacts]

/-- Settles O60: each row is its effect on the state at its instant. -/
theorem memoriesSecurityAndClocksAct : Obligations.MemoriesSecurityAndClocksAct := by
  unfold Obligations.MemoriesSecurityAndClocksAct
  intro t store unit addr i ir level depth idle w n d fresh sig l s u m key place last told hit wrong a b seen stores used step
  refine ⟨exec_sramError t store unit addr d s, sramError_beyond unit addr d u, sramError_corrected unit addr u, ?raw, ?shade, ?poly, ?line, ?coding, ?core,
    exec_hbmError t addr d s, hbmError_beyond d u, hbmError_corrected u, hbmError_system u, hbmError_staging u, fun k => hbmError_stagger, fun k => hbmError_ring,
    fun f => ⟨scrubSram_corrected u, fun hd h1 => ?scrubShade, fun hd h2 => ?scrubPoly, fun hd h4 => ?scrubCoding⟩, ?scrub, fun hn => ?noChallenge, fun hn => ?answer,
    fun hi => ?irRefused, fun hi => ?irSilent, exec_jtagInstruction t 1 s, exec_jtagInstruction t 4 s, fun hs => ?nothingErased, fun hp ho => ?erased, fun hl => ?noLock, fun hl => ?lock,
    ?tick, ?raise, ?lower, ?stop, ?restart, ?refresh⟩
  case raw | shade | poly | line | coding | core => rintro rfl; exact sramError_double unit addr u (by decide)
  case scrubShade => exact scrubSram_shade u hd h1
  case scrubPoly => exact scrubSram_poly u hd h2
  case scrubCoding => exact scrubSram_coding u hd h4
  case scrub => rw [exec_scrub, scrub_eq]
  case noChallenge => rw [exec_jtagUnlock, jtagUnlock_none hn]
  case answer => rw [exec_jtagUnlock, jtagUnlock_answers hn]
  case irRefused => rw [exec_jtagInstruction, jtagInstruction_refused hi]
  case irSilent => rw [exec_jtagInstruction, jtagInstruction_silent hi]
  case nothingErased => rw [exec_secretsErased, secretsErased_idle hs]
  case erased =>
    exact ⟨portOpened u, by rw [exec_secretsErased, secretsErased_opens hp ho], portOpened_sec u, portOpened_spool u⟩
  case noLock => rw [exec_authLockoutEnd, authLockoutEnd_none hl]
  case lock => rw [exec_authLockoutEnd, authLockoutEnd_some hl]
  case tick => exact exec_energyTick t s
  case raise => rw [exec_clockStepRaise, clockRaise_eq]
  case lower => rw [exec_clockStepLower, clockLower_eq]
  case stop => rw [exec_clockStop, clockStop_eq]
  case restart => exact exec_clockRestart t i s
  case refresh => rw [exec_hbmSelfRefresh, selfRefresh_eq]

end Sys2Proof.Machine
end

/-! The freeze in SPEC (R89 to R94): the line's ticket, its instant, and the slot it takes in the Gate. -/
section

namespace Sys2Proof.Machine

open Sys2Proof

/-! ### Which lines are frozen -/

/-- The ticket of a line at which no Datum is due changes nothing (R57, R63, R68). -/
theorem ticketLine_undue {n : Nat} {s : State} (hs : sessionDue s = false) (hm : modulusDue s n = false)
    (hd : ∀ d ∈ s.datum.list, d.passed = false → (n : Int) < datumLine s.tr d) : ticketLine n s = s := by
  have hnone : s.datum.list.find? (fun d => !d.passed && decide (datumLine s.tr d ≤ (n : Int))) = none := by
    rw [List.find?_eq_none]
    intro d hmem hdue
    simp only [Bool.and_eq_true, Bool.not_eq_true', decide_eq_true_eq] at hdue
    exact absurd (hd d hmem hdue.1) (Int.not_lt.mpr hdue.2)
  simp [ticketLine, hs, hm, hnone]

section

variable {tc : Int} {s : State}

/-- A line whose start lies beyond the horizon is not frozen yet (R89). -/
theorem freezeSpec_beyond (hc : crossing s.tr s.tr.nextK = some tc) (ht : ticketLine (s.tr.nextK + lookAhead s) s = s)
    (hout : inHorizon s.tr s.now (tc - (((predictLine s s.tr.nextK (gridPos s.tr s.tr.nextK)).2 / 2 : Nat) : Int)) = false) : freezeSpec s = s := by
  simp only [freezeSpec, hc, ht, hout, Bool.not_false, Bool.or_true, if_true, ite_self]

/-- In SPEC the next line is frozen once L_s reaches its start, the end of a diagnosis and the spacing to the last exposure (R90, R91, R92). -/
theorem freezeSpec_within (hm : mayFreeze s = true) (hr : s.tr.regime = .spec) (hc : crossing s.tr s.tr.nextK = some tc)
    (ht : ticketLine (s.tr.nextK + lookAhead s) s = s)
    (hx : ∀ x, s.tr.lastStart = some x → Nat.max (x + 8333) (s.tr.lastEnd + 500) ≤ s.now + leadTime s) :
    let p := predictLine s s.tr.nextK (gridPos s.tr s.tr.nextK)
    let ts0 := (tc - ((p.2 / 2 : Nat) : Int)).toNat
    ts0 ≤ s.now + leadTime s → s.tr.diagEnd ≤ s.now + leadTime s → inHorizon s.tr s.now (tc - ((p.2 / 2 : Nat) : Int)) = true →
    freezeSpec s = releaseAll (judgeKnown s.tr (freezeLine s.tr.nextK ts0 p.2 p.1 false s)) := by
  intro p ts0 h0 hd hin
  have hspec : (!(mayFreeze s && s.tr.regime == .spec)) = false := by simp [hm, hr]
  have hstart (spacing : Nat) (h : spacing ≤ s.now + leadTime s) :
      (decide (s.now + leadTime s < Nat.max (Nat.max ts0 s.tr.diagEnd) spacing) || !inHorizon s.tr s.now (tc - ((p.2 / 2 : Nat) : Int))) = false := by
    simp only [hin, Bool.not_true, Bool.or_false, decide_eq_false_iff_not, Nat.not_lt]
    exact Nat.max_le.mpr ⟨Nat.max_le.mpr ⟨h0, hd⟩, h⟩
  simp only [freezeSpec, hspec, hc, ht, Bool.false_eq_true, if_false]
  cases hl : s.tr.lastStart with
  | none => exact if_neg (ne_true_of_eq_false (hstart 0 (Nat.zero_le _)))
  | some x => exact if_neg (ne_true_of_eq_false (hstart _ (hx x hl)))

end

/-! ### The parts of a freeze beside its slot -/

/-- What the slot of a line is built from and placed in: the time base, the Gate, the next index and the next exposure number. -/
def gateView (s : State) : Nat × List Slot × Nat × Nat := (s.now, s.gate, s.tr.nextK, s.tr.expoNo)

theorem gateView_iff {s e : State} : gateView e = gateView s ↔ e.now = s.now ∧ e.gate = s.gate ∧ e.tr.nextK = s.tr.nextK ∧ e.tr.expoNo = s.tr.expoNo := by
  simp only [gateView, Prod.mk.injEq]

/-- A fold of effects that leave a part of the state alone leaves it alone. -/
theorem foldl_keeps {σ α β : Type} {view : σ → β} {f : σ → α → σ} (h : ∀ x a, view (f x a) = view x) (l : List α) (x : σ) :
    view (l.foldl f x) = view x := by
  induction l generalizing x with
  | nil => rfl
  | cons a l ih => rw [List.foldl_cons, ih, h]

theorem gateView_decayBar (s : State) : gateView (decayBar s) = gateView s := by
  unfold decayBar
  split <;> rfl

/-- L_s is of the ports (R90), which the bar term leaves alone. -/
theorem leadTime_decayBar (s : State) : leadTime (decayBar s) = leadTime s := by
  unfold decayBar
  split <;> rfl

theorem decayBar_gate (s : State) : (decayBar s).gate = s.gate := (gateView_iff.mp (gateView_decayBar s)).2.1

theorem gateView_postLimited (interval type source kind : Nat) (p : List Byte) (s : State) :
    gateView (postLimited interval type source kind p s) = gateView s := by
  obtain ⟨h, n, o, w⟩ := postLimited_frame interval type source kind p s
  rw [w]
  rfl

theorem gateView_evAux (kind c : Nat) (s : State) : gateView (evAux kind c s) = gateView s := gateView_postLimited ..

/-- The temperature of a port counts and tells, and freezes nothing (R169). -/
theorem gateView_portTemp (p : Nat) (s : State) : gateView (portTemp p s).2 = gateView s := by
  unfold portTemp
  extract_lets b hold sets n told src counted
  have htold : gateView (if told then counted else evAux 7 b.source counted) = gateView s := by
    split
    · rfl
    · exact gateView_evAux 7 b.source counted
  split
  · rfl
  · split
    · rfl
    · extract_lets t
      split
      · split <;> rfl
      · exact htold

/-- The temperatures of all ports, gathered port by port. -/
theorem gateView_portTemps {l : List Nat} {f : Tbl Int × State → Nat → Tbl Int × State} (h : ∀ x p, (f x p).2 = (portTemp p x.2).2) (x : Tbl Int × State) :
    gateView (l.foldl f x).2 = gateView x.2 :=
  foldl_keeps (view := fun x : Tbl Int × State => gateView x.2) (fun x p => by rw [h, gateView_portTemp]) l x

theorem gateView_countAbsent (ts : List Tpl) (s : State) : gateView (ts.foldl (fun s t => if t.absent then portCount t.port 2 s else s) s) = gateView s := by
  refine foldl_keeps (fun s t => ?_) ts s
  split <;> rfl

theorem gateView_takeTargets (b : Bank) (ts : Nat) (s : State) : gateView (takeTargets b ts s) = gateView s := by
  refine (foldl_keeps (view := gateView) (fun s i => ?_) _ _).trans rfl
  dsimp only
  split
  · rfl
  · split <;> rfl

theorem gateView_lampFreeze (b : Bank) (expo ts te : Nat) (s : State) : gateView (lampFreeze b expo ts te s) = gateView s := by
  unfold lampFreeze
  extract_lets gone swap taken expos
  show gateView taken = gateView s
  unfold taken
  split
  · exact gateView_takeTargets b ts s
  · rfl

/-! ### The slot of a line -/

/-- With a free slot, the line of a freeze in SPEC enters the Gate with the next exposure number and a start that L_s reaches, and the index moves on (R90, R94, R108). -/
theorem freezeLine_room {k ts0 e rid : Nat} {s : State} (hroom : s.gate.length < 8) :
    ∃ (w : State) (g : Slot), gateView w = gateView s ∧
      freezeLine k ts0 e rid false s = consumeLine k { w with gate := w.gate ++ [g], tr.lastStart := some g.ts, tr.lastEnd := g.ts + e } ∧
      g.line = k ∧ g.expo = s.tr.expoNo ∧ g.freeze = s.now ∧ g.e = e ∧ g.rid = rid ∧ g.verdict = none ∧ s.now + leadTime s ≤ g.ts := by
  have hdecayed : gateView (decayBar s) = gateView s := gateView_decayBar s
  have hfree : ¬ 8 ≤ (decayBar s).gate.length := by
    rw [decayBar_gate]
    omega
  unfold freezeLine
  extract_lets decayed ts1 ts counted tp tpls ports
  have hcounted : gateView counted = gateView s := by
    rw [← hdecayed]
    unfold counted
    split <;> rfl
  rw [if_neg hfree]
  generalize hfold : List.foldl _ ([], counted) (enabledPorts counted) = r
  have htold : gateView r.2 = gateView s := by
    rw [← hfold, gateView_portTemps (fun _ _ => rfl), hcounted]
  obtain ⟨temps, told⟩ := r
  dsimp -zeta only
  extract_lets x absent g pulsed
  have habsent : gateView absent = gateView s := (gateView_countAbsent tpls told).trans htold
  have hpulsed : gateView pulsed = gateView s := (gateView_lampFreeze _ _ _ _ absent).trans habsent
  obtain ⟨hnow, -, -, hexpo⟩ := gateView_iff.mp habsent
  have hreached : s.now + leadTime s ≤ ts := by
    rw [← (gateView_iff.mp hdecayed).1, ← leadTime_decayBar s]
    exact Nat.le_max_right ts1 _
  exact ⟨pulsed, g, hpulsed, rfl, rfl, hexpo, hnow, rfl, rfl, rfl, hreached⟩

/-! ### The line that finds no slot -/

@[simp] theorem consumeLine_gate (k : Nat) (s : State) : (consumeLine k s).gate = s.gate := rfl
@[simp] theorem consumeLine_aln (k : Nat) (s : State) : (consumeLine k s).aln = s.aln := rfl
@[simp] theorem consumeLine_nextK (k : Nat) (s : State) : (consumeLine k s).tr.nextK = k + 1 := rfl
@[simp] theorem trCount_gate (i n : Nat) (s : State) : (trCount i n s).gate = s.gate := rfl
@[simp] theorem trCount_aln (i n : Nat) (s : State) : (trCount i n s).aln = s.aln := rfl

/-- The retired mask of a line is latched without the Gate (R18, R152). -/
@[simp] theorem latchMask_gate (k : Nat) (s : State) : (latchMask k s).2.gate = s.gate := by
  unfold latchMask
  extract_lets back cleared
  refine foldl_keeps (view := State.gate) (fun s p => ?_) back s
  rfl

@[simp] theorem synthLine_gate (k m : Nat) (edges : Option Nat × Option Nat) (t : Nat) (undiag stale : Bool) (lost : List Nat) (s : State) :
    (synthLine k m edges t undiag stale lost s).gate = s.gate := by
  unfold synthLine
  dsimp only
  split <;> rfl

@[simp] theorem synthLine_squashed (k m : Nat) (edges : Option Nat × Option Nat) (t : Nat) (undiag stale : Bool) (lost : List Nat) (s : State) :
    (synthLine k m edges t undiag stale lost s).aln.squashed = (k, lost) :: s.aln.squashed := by
  unfold synthLine
  dsimp only
  split <;> rfl

/-- With eight exposures in flight the line is squashed and takes no slot, and the index moves on (R93). -/
theorem gateFull_squashes (k : Nat) (s : State) :
    (gateFull k s).gate = s.gate ∧ (gateFull k s).tr.nextK = k + 1 ∧ (gateFull k s).aln.squashed.head?.map Prod.fst = some k := by
  simp [gateFull]

theorem freezeLine_full {k ts0 e rid : Nat} {uncentred : Bool} {s : State} (hfull : 8 ≤ s.gate.length) :
    freezeLine k ts0 e rid uncentred s = gateFull k (decayBar s) := by
  have hdecayed : 8 ≤ (decayBar s).gate.length := by rwa [decayBar_gate]
  unfold freezeLine
  extract_lets
  rw [if_pos hdecayed]

/-- Settles O46: the freeze takes its start, its slot and its index from the state before it, as no ticket at the line changes that state. -/
theorem freezeTakesTheNextLine : Obligations.FreezeTakesTheNextLine := by
  unfold Obligations.FreezeTakesTheNextLine
  intro t tc s u k n p ts0 hm hr hc hs hmod hd hx h0 hdiag
  have ht : ticketLine n u = u := ticketLine_undue hs hmod hd
  refine ⟨fun hin => ?within, fun hout => ?beyond, fun hroom => ?room, fun hfull => ?full⟩
  case within => rw [exec_freeze, freezeSpec_within hm hr hc ht hx h0 hdiag hin]
  case beyond => rw [exec_freeze, freezeSpec_beyond hc ht hout]
  case room =>
    obtain ⟨w, g, hw, hline, hk, hexpo, hfreeze, he, hrid, hverdict, hts⟩ := freezeLine_room (k := k) (ts0 := ts0) (e := p.2) (rid := p.1) hroom
    obtain ⟨-, hgate, -, hno⟩ := gateView_iff.mp hw
    refine ⟨g, ?_, hk, hexpo, hfreeze, he, hrid, hverdict, hts, ?_, ?_⟩ <;> rw [hline]
    · exact congrArg (· ++ [g]) hgate
    · rfl
    · exact congrArg (fun x => (x + 1) % 2 ^ 32) hno
  case full => exact ⟨_, freezeLine_full hfull, decayBar_gate u ▸ gateFull_squashes k (decayBar u)⟩

end Sys2Proof.Machine
end

/-! The status commands (chapter 11): each answers with the bytes that its row gives, and acts on nothing. -/
section

namespace Sys2Proof.Machine

open Sys2Proof Sys2Proof.Safety

/-! ### Lengths of the data -/

/-- A table of entries of n bytes each. -/
theorem flatMap_length {α : Type} {f : α → List Byte} {n : Nat} (h : ∀ a, (f a).length = n) (l : List α) : (l.flatMap f).length = n * l.length := by
  induction l with
  | nil => rfl
  | cons a l ih => rw [List.flatMap_cons, List.length_append, h, ih, List.length_cons, Nat.mul_succ, Nat.add_comm]

/-- A layout, then a table of entries of m bytes each. -/
theorem layout_table_length {α : Type} {f : α → List Byte} {m : Nat} (h : ∀ a, (f a).length = m) (n : Nat) (fs : List (Nat × Nat × Nat)) (l : List α) :
    (layout n fs ++ l.flatMap f).length = n + m * l.length := by
  rw [List.length_append, layout_length, flatMap_length h]

theorem compBytes_length (c : Comp) : (compBytes c).length = 8 := by
  simp [compBytes]

theorem logBytes_length (e : LogEntry) : (logBytes e).length = 32 := by
  simp [logBytes]

theorem strStat_length (s : State) (i : Nat) : (strStat s i).length = 16 := layout_length _ _

theorem statusCommon_length (s : State) (k : Nat) : (statusCommon s k).length = 24 := layout_length _ _

theorem statusShading_length (s : State) : (statusShading s).length = 2104 := by
  simp [statusShading]

/-! ### What each status command reports -/

/-- The command passes its own checks, gives n bytes of data and acts on nothing. -/
def Reports (k : Cmd) (r : Req) (s : State) (n : Nat) : Prop := ∃ data : List Byte, data.length = n ∧ k.run r s = .ok { data := data }

section

variable {r : Req} {s : State}

theorem devInfo_reports : Reports cmdDevInfo r s 56 := ⟨_, layout_table_length (fun _ => compBytes_length _) .., rfl⟩

theorem modeGet_reports : Reports cmdModeGet r s 16 := ⟨_, layout_length .., rfl⟩

theorem faultLog_reports :
    Reports cmdFaultLog r s (8 + 32 * ((s.flt.log.filter (fun e => decide (r.u32 0 ≤ e.number))).take (r.u16 4)).length) :=
  ⟨_, layout_table_length logBytes_length .., rfl⟩

theorem updStatus_reports : Reports cmdUpdStatus r s 64 := by
  refine ⟨_, layout_table_length (m := 8) (fun c => ?_) .., rfl⟩
  split <;> simp

theorem portStat_reports (hp : r.u8 0 < 32) (hclear : r.isClear = false) : Reports cmdPortStat r s 80 := by
  have hport : ¬ 32 ≤ r.u8 0 := by omega
  refine ⟨_, ?_, (if_neg hport).trans (by rw [hclear]; rfl)⟩
  exact layout_table_length (fun _ => leBytes_length 4 _) ..

theorem posRead_reports : Reports cmdPosRead r s 160 := ⟨_, layout_table_length (fun _ => leBytes_length 4 _) .., rfl⟩

/-- The records of SHADE_READ FORM 0 (R165). -/
theorem shadeRead_reports (hform : r.u8 0 ≠ 1) (hrange : r.u32 4 + r.u32 8 ≤ 655360) : Reports cmdShadeRead r s (8 + 8 * r.u32 8) := by
  have hinside : ¬ 655360 < r.u32 4 + r.u32 8 := by omega
  refine ⟨_, ?_, (if_neg hform).trans (if_neg hinside)⟩
  rw [layout_table_length (fun _ => leBytes_length 8 _), List.length_range]

/-- CAL_STATUS of SHADING (R257). -/
theorem calStatus_reports (hkind : r.u8 0 = 0) : Reports cmdCalStatus r s 2128 := by
  have hk : kindOf r = 0 := by simp [kindOf, Req.enum, hkind]
  refine ⟨_, ?_, rfl⟩
  rw [hk, List.length_append, statusCommon_length, statusOwn, if_pos rfl, statusShading_length]

/-- The stream form of CODEC_JOB_STAT (R293). -/
theorem codecJobStat_reports (hform : r.u8 0 = 1) (hn : r.u8 1 < 8) (hclear : r.isClear = false) : Reports cmdCodecJobStat r s 40 := by
  have hstream : ¬ 8 ≤ r.u8 1 := by omega
  exact ⟨_, layout_length .., (if_pos hform).trans ((if_neg hstream).trans (by rw [hclear]; rfl))⟩

theorem spoolStat_reports (hn : r.u8 0 < 8) : Reports cmdSpoolStat r s 184 := by
  have hstream : ¬ (8 ≤ r.u8 0 && r.u8 0 != 0xFF) = true := by simp; omega
  exact ⟨spoolStat (r.u8 0) s, layout_length _ _, if_neg hstream⟩

theorem lampStat_reports (hrange : r.u16 0 + r.u16 2 ≤ 512) : Reports cmdLampStat r s (16 + 16 * r.u16 2) := by
  have hinside : ¬ 512 < r.u16 0 + r.u16 2 := by omega
  refine ⟨_, ?_, if_neg hinside⟩
  rw [layout_table_length (fun j => strStat_length s _), List.length_range]

theorem axisStat_reports (hn : r.u8 0 < 4) : Reports cmdAxisStat r s 32 := by
  have haxis : ¬ 4 ≤ r.u8 0 := by omega
  exact ⟨_, layout_length .., if_neg haxis⟩

theorem auxRead_reports : Reports cmdAuxRead r s (8 + 8 * (maskIdx 16 (r.u16 0)).length) := by
  refine ⟨_, ?_, rfl⟩
  rw [List.length_append, leBytes_length, flatMap_length (n := 8) (fun c => by simp)]

end

/-! ### A report as the answer of its row -/

theorem fixedLen_eq_none {n : Nat} {r : Req} (h : r.length = n) : fixedLen n r = none := if_pos h

/-- A count within its bounds has the LENGTH that it requires (R358). -/
theorem countLen_eq_none {n m size want : Nat} {r : Req} (h1 : 1 ≤ n) (hm : n ≤ m) (h : r.length = want) : countLen n m size want r = none := by
  have hbounds : ¬ (n = 0 || m < n) = true := by simp; omega
  rw [countLen, if_neg hbounds, fixedLen_eq_none h]

/-- A command of R52 is legal in the modes of ALL, and in RECOVERY from a mailbox. -/
theorem legal_basic {k : Cmd} {src : Nat} {s : State} (hk : k.inRec = true) (hall : k.modes = Mode.all) (h : servesBasic src s = true) :
    legal k false src s.sys.mode = true := by
  simp only [servesBasic, Bool.or_eq_true, Bool.and_eq_true, beq_iff_eq] at h
  rcases h with h | ⟨hrec, hsrc⟩
  · exact legal_all h (hall ▸ h)
  · simp [legal, hrec, hk, hsrc]

/-- A row whose command reports answers OK with that data, and changes nothing but its mailbox. -/
theorem exec_reports {c : Instr} {s : State} {src op len n : Nat} {k : Cmd} (h : holds op len src (s.at c.time) = true)
    (hc : rowCmd c = some (src, k)) (ho : k.opcode = op) (hread : k.readLen = none)
    (hl : (latchedReq (s.at c.time) src).length = len → k.len (latchedReq (s.at c.time) src) = none)
    (hm : legal k false src (s.at c.time).sys.mode = true) (hk : Reports k (latchedReq (s.at c.time) src) (s.at c.time) n) :
    ∃ data : List Byte, data.length = n ∧ exec c s = .next (after c.time s (answered src data (s.at c.time))) := by
  obtain ⟨data, hn, hrun⟩ := hk
  have hform : (k.readLen.isSome && (latchedReq (s.at c.time) src).isRead) = false := by simp [hread]
  exact ⟨data, hn, exec_done (d := { data := data }) hc h ho hform hl hm hrun rfl rfl⟩

/-- Settles O14: each row holds a request of its LENGTH in a legal mode, whose command reports. -/
theorem reportsChangeNothing : Obligations.ReportsChangeNothing := by
  unfold Obligations.ReportsChangeNothing
  intro t src s u r reports
  refine ⟨fun h hb => ?devInfo, fun h hb => ?modeGet, fun h hb h1 hmax => ?faultLog, fun h hb => ?updStatus, fun ha =>
    ⟨fun h hp hclear => ?portStat, fun h => ?posRead, fun h hform h1 hmax hrange => ?shadeRead, fun h hkind => ?calStatus, fun h hform hn hclear => ?codecJobStat,
      fun h hn => ?spoolStat, fun h h1 hmax hrange => ?lampStat, fun h hn => ?axisStat, fun h => ?auxRead⟩⟩
  case devInfo => exact exec_reports h rfl rfl rfl fixedLen_eq_none (legal_basic rfl rfl hb) devInfo_reports
  case modeGet => exact exec_reports h rfl rfl rfl fixedLen_eq_none (legal_basic rfl rfl hb) modeGet_reports
  case faultLog => exact exec_reports h rfl rfl rfl (countLen_eq_none h1 hmax) (legal_basic rfl rfl hb) faultLog_reports
  case updStatus => exact exec_reports h rfl rfl rfl fixedLen_eq_none (legal_basic rfl rfl hb) updStatus_reports
  case portStat => exact exec_reports h rfl rfl rfl fixedLen_eq_none (legal_all ha ha) (portStat_reports hp hclear)
  case posRead => exact exec_reports h rfl rfl rfl fixedLen_eq_none (legal_all ha ha) posRead_reports
  case shadeRead =>
    exact exec_reports h rfl rfl rfl (fun hl => (if_neg hform).trans (countLen_eq_none h1 hmax hl)) (legal_all ha ha) (shadeRead_reports hform hrange)
  case calStatus => exact exec_reports h rfl rfl rfl fixedLen_eq_none (legal_all ha ha) (calStatus_reports hkind)
  case codecJobStat => exact exec_reports h rfl rfl rfl fixedLen_eq_none (legal_all ha ha) (codecJobStat_reports hform hn hclear)
  case spoolStat => exact exec_reports h rfl rfl rfl fixedLen_eq_none (legal_all ha ha) (spoolStat_reports hn)
  case lampStat => exact exec_reports h rfl rfl rfl (countLen_eq_none h1 hmax) (legal_all ha ha) (lampStat_reports hrange)
  case axisStat => exact exec_reports h rfl rfl rfl fixedLen_eq_none (legal_all ha ha) (axisStat_reports hn)
  case auxRead => exact exec_reports h rfl rfl rfl fixedLen_eq_none (legal_all ha ha) auxRead_reports

end Sys2Proof.Machine
end

/-! Sensor ports (chapter 4): reading a port back after a change, and the requests that act on one port. -/
section

namespace Sys2Proof.Machine

open Sys2Proof Sys2Proof.Safety

/-! ### One port of the list -/

/-- A port that differs from the reset port in some respect is one of the device's. -/
theorem lt_ports_of {α : Type} (f : Port → α) {p : Nat} {s : State} (h : f (portOf s p) ≠ f {}) : p < s.ports.list.length := by
  refine Nat.lt_of_not_le fun hn => h ?_
  rw [portOf, List.getD_eq_getElem?_getD, List.getElem?_eq_none hn, Option.getD_none]

theorem portOf_setPort_same {p : Nat} (x : Port) {s : State} (h : p < s.ports.list.length) : portOf (setPort p x s) p = x := by
  simp [portOf, List.getD_eq_getElem?_getD, h]

theorem portOf_modPort_same {p : Nat} (f : Port → Port) {s : State} (h : p < s.ports.list.length) : portOf (modPort p f s) p = f (portOf s p) :=
  portOf_setPort_same _ h

@[simp] theorem setPort_setPort (p : Nat) (x y : Port) (s : State) : setPort p y (setPort p x s) = setPort p y s := by
  simp [setPort]

/-- Two changes of one port are one change. -/
theorem modPort_modPort {p : Nat} (f g : Port → Port) {s : State} (h : p < s.ports.list.length) :
    modPort p g (modPort p f s) = modPort p (fun x => g (f x)) s := by
  simp [modPort, portOf_setPort_same _ h]

/-- A change of one port writes the port list and nothing else. -/
theorem modPort_eq (p : Nat) (f : Port → Port) (s : State) : modPort p f s = { s with ports := { s.ports with list := s.ports.list.set p (f (portOf s p)) } } := rfl

/-! ### Requests that act on one port -/

@[simp] theorem answered_ports (src : Nat) (d : List Byte) (s : State) : (answered src d s).ports = s.ports := by
  obtain ⟨h, o, e⟩ := answered_frame src d s
  rw [e]

@[simp] theorem accepted_ports (src res : Nat) (d : List Byte) (s : State) : (accepted src res d s).ports = s.ports := by
  obtain ⟨h, o, e⟩ := accepted_frame src res d s
  rw [e]

@[simp] theorem answered_sys (src : Nat) (d : List Byte) (s : State) : (answered src d s).sys = s.sys := by
  obtain ⟨h, o, e⟩ := answered_frame src d s
  rw [e]

@[simp] theorem accepted_sys (src res : Nat) (d : List Byte) (s : State) : (accepted src res d s).sys = s.sys := by
  obtain ⟨h, o, e⟩ := accepted_frame src res d s
  rw [e]

@[simp] theorem answered_px (src : Nat) (d : List Byte) (s : State) : (answered src d s).px = s.px := by
  obtain ⟨h, o, e⟩ := answered_frame src d s
  rw [e]

@[simp] theorem answered_free (src : Nat) (d : List Byte) (s : State) : (answered src d s).free = s.free := by
  obtain ⟨h, o, e⟩ := answered_frame src d s
  rw [e]

theorem modPort_congr {p : Nat} (f : Port → Port) {s u : State} (h : s.ports = u.ports) :
    modPort p f s = { s with ports := { u.ports with list := u.ports.list.set p (f (portOf u p)) } } := by
  rw [modPort_eq, portOf, h, portOf]

/-- A command row of ALL whose request passes its checks and is done at once answers OK with its data, and then acts. -/
theorem exec_acts {c : Instr} {s : State} {src op len : Nat} {k : Cmd} {data : List Byte} {act : State → State} (h : holds op len src (s.at c.time) = true)
    (hc : rowCmd c = some (src, k)) (ho : k.opcode = op) (hread : (k.readLen.isSome && (latchedReq (s.at c.time) src).isRead) = false)
    (hl : (latchedReq (s.at c.time) src).length = len → k.len (latchedReq (s.at c.time) src) = none) (hall : (s.at c.time).sys.mode.all = true) (hmodes : k.modes = Mode.all)
    (hk : k.run (latchedReq (s.at c.time) src) (s.at c.time) = .ok { data := data, act := act }) :
    exec c s = .next (after c.time s (act (answered src data (s.at c.time)))) :=
  exec_done (d := { data := data, act := act }) hc h ho hread hl (legal_all hall (hmodes ▸ hall)) hk rfl rfl

/-! ### The reads that clear (R154, R190, R291, R293) -/

section

variable {r : Req} {s : State}

theorem portStat_clears (hp : r.u8 0 < 32) (hclear : r.isClear = true) :
    ∃ data : List Byte, data.length = 80 ∧ cmdPortStat.run r s = .ok { data := data, act := modPort (r.u8 0) (fun x => { x with counters := List.replicate 16 0 }) } := by
  have hport : ¬ 32 ≤ r.u8 0 := by omega
  refine ⟨_, ?_, (if_neg hport).trans (by rw [hclear]; rfl)⟩
  exact layout_table_length (fun _ => leBytes_length 4 _) ..

/-- SHADE_READ FORM 1 clears the correction counters where CLEAR asks for it (R190). -/
theorem shadeRead_counters (hform : r.u8 0 = 1) (hp : r.u8 1 < 32) :
    cmdShadeRead.run r s = .ok { data := correctionBytes s (r.u8 1), act := fun s => if r.isClear then { s with px.counters := List.replicate 9 0 } else s } :=
  (if_pos hform).trans (if_neg (by omega))

/-- The stream form of CODEC_JOB_STAT with CLEAR (R293). -/
theorem codecJobStat_clears (hform : r.u8 0 = 1) (hn : r.u8 1 < 8) (hclear : r.isClear = true) :
    ∃ data : List Byte, data.length = 40 ∧ cmdCodecJobStat.run r s = .ok { data := data, act := modStream (r.u8 1) (fun x => { x with coding := [0, 0, 0, 0, 0, 0, 0] }) } := by
  have hstream : ¬ 8 ≤ r.u8 1 := by omega
  exact ⟨_, layout_length .., (if_pos hform).trans ((if_neg hstream).trans (by rw [hclear]; rfl))⟩

theorem jobStat_length (s : State) (id : Nat) : (jobStat s id).length = 32 := by
  unfold jobStat
  split <;> exact layout_length _ _

/-- The job form of CODEC_JOB_STAT draws the values that the manual leaves open (R291, log 27). -/
theorem codecJobStat_draws (hform : r.u8 0 ≠ 1) :
    cmdCodecJobStat.run r s = .ok { data := jobStat s (r.u16 2), act := fun s => { s with free := s.free + 4 } } := if_neg hform

end

/-- Settles O36: each row is done at once, and the answer leaves alone the counters that its effect clears. -/
theorem clearingReadsClearTheirCounters : Obligations.ClearingReadsClearTheirCounters := by
  unfold Obligations.ClearingReadsClearTheirCounters
  intro t src s u r hall
  refine ⟨fun h hp hclear => ?portStat, fun h hform hp => ?shadeRead, fun h hform hn hclear => ?stream, fun h hform => ?job⟩
  case portStat =>
    obtain ⟨data, hlen, hrun⟩ := portStat_clears (s := u) hp hclear
    refine ⟨data, hlen, (exec_acts h rfl rfl rfl fixedLen_eq_none hall rfl hrun).trans ?_⟩
    rw [modPort_congr _ (answered_ports src data _)]
    rfl
  case shadeRead =>
    refine ⟨correctionBytes u (r.u8 1), (exec_acts h rfl rfl rfl (fun hl => (if_pos hform).trans (fixedLen_eq_none hl)) hall rfl (shadeRead_counters hform hp)).trans ?_⟩
    simp only [answered_px]
    rfl
  case stream =>
    obtain ⟨data, hlen, hrun⟩ := codecJobStat_clears (s := u) hform hn hclear
    exact ⟨data, hlen, exec_acts h rfl rfl rfl fixedLen_eq_none hall rfl hrun⟩
  case job =>
    refine ⟨jobStat u (r.u16 2), jobStat_length _ _, (exec_acts h rfl rfl rfl fixedLen_eq_none hall rfl (codecJobStat_draws hform)).trans ?_⟩
    simp only [answered_free]
    rfl

end Sys2Proof.Machine
end

/-! PORT_CFG (R118, R119, R347, R364). -/
section

namespace Sys2Proof.Machine

open Sys2Proof Sys2Proof.Safety

/-! ### The settings that a request asks for -/

/-- Two settings that agree but for FILL (R119, log 84). -/
theorem eq_but_fill_iff (c x : PortCfg) : { c with fill := 0 } = { x with fill := 0 } ↔ { c with fill := x.fill } = x := by
  cases c
  cases x
  simp

theorem portCfgOf_enable_zero {r : Req} : (portCfgOf r).enable = 0 ↔ r.u8 1 = 0 := by
  show min (r.u8 1) 1 = 0 ↔ _
  omega

theorem portCfgOf_enable_one {r : Req} : (portCfgOf r).enable = 1 ↔ 1 ≤ r.u8 1 := by
  show min (r.u8 1) 1 = 1 ↔ _
  omega

theorem lanesOn_iff (m : Mode) : lanesOn m = true ↔ m ∈ [.ready, .service, .hold] := by
  simp [lanesOn, or_assoc]

/-- A port trains anew where it is enabled and not retired, its lanes are on or it is trained already, and more than FILL changes (R119, R364). -/
theorem cfgTrains_iff {s : State} {p : Nat} {c : PortCfg} : cfgTrains s p c = true ↔
    c.enable = 1 ∧ (portOf s p).state ≠ .retired ∧ (s.sys.mode ∈ [.ready, .service, .hold] ∨ (portOf s p).state ≠ .off) ∧ { c with fill := (portOf s p).cfg.fill } ≠ (portOf s p).cfg := by
  simp only [cfgTrains, Bool.and_eq_true, Bool.or_eq_true, beq_iff_eq, bne_iff_ne, lanesOn_iff, Ne, eq_but_fill_iff, and_assoc]

theorem cfgTrains_congr {p : Nat} {c : PortCfg} {s u : State} (hp : s.ports = u.ports) (hy : s.sys = u.sys) : cfgTrains s p c = cfgTrains u p c := by
  rw [cfgTrains, portOf, hp, hy, cfgTrains, portOf]

/-! ### The settings in force -/

section

variable {key p : Nat} {c : PortCfg} {s : State}

theorem applyPortCfg_keeps (ht : cfgTrains s p c = false) (he : (portOf s p).cfg.enable ≠ 1 ∨ c.enable ≠ 0) :
    applyPortCfg key p c s = modPort p (fun x => { x with cfg := c }) s := by
  have hstays : ¬ ((portOf s p).cfg.enable = 1 && c.enable = 0) = true := by
    rw [Bool.and_eq_true, decide_eq_true_eq, decide_eq_true_eq]
    rintro ⟨hwas, hoff⟩
    exact he.elim (fun h => h hwas) (fun h => h hoff)
  simp only [applyPortCfg, ht, Bool.false_eq_true, if_false, if_neg hstays]

theorem applyPortCfg_trains (ht : cfgTrains s p c = true) :
    applyPortCfg key p c s =
      startTraining p { modPort p (fun x => { x with cfg := c }) s with ports.trains := s.ports.trains ++ [{ key := key, op := 0x0201, mask := 2 ^ p, left := 2 ^ p }] } := by
  simp only [applyPortCfg, ht, if_true]
  rfl

theorem applyPortCfg_disables (hwas : (portOf s p).cfg.enable = 1) (hoff : c.enable = 0) :
    applyPortCfg key p c s = disablePort p (modPort p (fun x => { x with cfg := c }) s) := by
  have ht : cfgTrains s p c = false := by simp [cfgTrains, hoff]
  simp [applyPortCfg, ht, hwas, hoff]

end

/-! ### The checks of the request -/

/-- The settings may change: while a session captures or replays, FILL alone (R119). -/
def cfgAllowed (s : State) (p : Nat) (c : PortCfg) : Prop :=
  { c with fill := (portOf s p).cfg.fill } = (portOf s p).cfg ∨ (s.sys.mode.cap = false ∧ s.sys.mode ≠ .replay)

theorem cfgAllowed_iff {s : State} {p : Nat} {c : PortCfg} :
    ((s.sys.mode.cap || s.sys.mode == .replay) && { c with fill := 0 } != { (portOf s p).cfg with fill := 0 }) = false ↔ cfgAllowed s p c := by
  simp only [cfgAllowed, Bool.and_eq_false_iff, Bool.or_eq_false_iff, bne_eq_false_iff_eq, beq_eq_false_iff_ne, eq_but_fill_iff]
  exact or_comm

section

variable {r : Req} {s : State} (hp : r.u8 0 < 32) (hroom : baselineOver (fun q => if q = r.u8 0 then portCfgOf r else (portOf s q).cfg) s.banks.staged.base = false)

include hp in
theorem portCfg_wrongMode (h : ¬ cfgAllowed s (r.u8 0) (portCfgOf r)) : cmdPortCfg.run r s = .error (.wrongMode s.sys.mode 0x0A) := by
  have hport : ¬ 32 ≤ r.u8 0 := by omega
  rw [← cfgAllowed_iff, Bool.not_eq_false] at h
  exact (if_neg hport).trans (if_pos h)

include hp hroom

/-- A request that no other check turns away is judged by the tables alone. -/
theorem portCfg_judged (h : cfgAllowed s (r.u8 0) (portCfgOf r)) :
    cmdPortCfg.run r s = match takenPast s (modPort (r.u8 0) (fun x => { x with cfg := portCfgOf r }) s) with
      | some code => .error (.tableFull code)
      | none => .ok { accepted := if cfgTrains s (r.u8 0) (portCfgOf r) then some (r.u8 0) else none, act := applyPortCfg (reqKey r) (r.u8 0) (portCfgOf r) } := by
  have hport : ¬ 32 ≤ r.u8 0 := by omega
  exact (if_neg hport).trans ((if_neg (by rw [cfgAllowed_iff.mpr h]; exact Bool.false_ne_true)).trans ((if_neg (by rw [hroom]; exact Bool.false_ne_true)).trans rfl))

theorem portCfg_tableFull {k : Nat} (h : cfgAllowed s (r.u8 0) (portCfgOf r)) (hk : takenPast s (modPort (r.u8 0) (fun x => { x with cfg := portCfgOf r }) s) = some k) :
    cmdPortCfg.run r s = .error (.tableFull k) := by
  rw [portCfg_judged hp hroom h, hk]

theorem portCfg_settles (h : cfgAllowed s (r.u8 0) (portCfgOf r)) (hk : takenPast s (modPort (r.u8 0) (fun x => { x with cfg := portCfgOf r }) s) = none)
    (ht : cfgTrains s (r.u8 0) (portCfgOf r) = false) : cmdPortCfg.run r s = .ok { act := applyPortCfg (reqKey r) (r.u8 0) (portCfgOf r) } := by
  rw [portCfg_judged hp hroom h, hk, ht]
  rfl

theorem portCfg_waits (h : cfgAllowed s (r.u8 0) (portCfgOf r)) (hk : takenPast s (modPort (r.u8 0) (fun x => { x with cfg := portCfgOf r }) s) = none)
    (ht : cfgTrains s (r.u8 0) (portCfgOf r) = true) : cmdPortCfg.run r s = .ok { accepted := some (r.u8 0), act := applyPortCfg (reqKey r) (r.u8 0) (portCfgOf r) } := by
  rw [portCfg_judged hp hroom h, hk, ht]
  rfl

end

/-! ### The row -/

/-- A whole request of PORT_CFG that is not its read form. -/
theorem portCfg_form {src : Nat} {s : State} (ha : asks 0x0201 20 src s = true) :
    holds 0x0201 20 src s = true ∧ (cmdPortCfg.readLen.isSome && (latchedReq s src).isRead) = false := by
  obtain ⟨hh, hread⟩ := asks_iff.mp ha
  exact ⟨hh, by rw [hread, Bool.and_false]⟩

section

variable {t src : Nat} {s : State} (ha : asks 0x0201 20 src (s.at t) = true) (hall : (s.at t).sys.mode.all = true)

include ha hall

theorem exec_portCfg_refused {e : Err} (h : cmdPortCfg.run (latchedReq (s.at t) src) (s.at t) = .error e) :
    exec (.portCfg t src) s = .next (after t s (turnedAway src e (s.at t))) := by
  obtain ⟨hh, hform⟩ := portCfg_form ha
  exact exec_refused (c := .portCfg t src) rfl hh rfl hform fixedLen_eq_none (legal_all hall hall) h

theorem exec_portCfg_answered {act : State → State} (h : cmdPortCfg.run (latchedReq (s.at t) src) (s.at t) = .ok { act := act }) :
    exec (.portCfg t src) s = .next (after t s (act (answered src [] (s.at t)))) := by
  obtain ⟨hh, hform⟩ := portCfg_form ha
  exact exec_acts (c := .portCfg t src) hh rfl rfl hform fixedLen_eq_none hall rfl h

theorem exec_portCfg_accepted {res : Nat} {act : State → State} (hroom : hasRoomFor src (s.at t) = true)
    (h : cmdPortCfg.run (latchedReq (s.at t) src) (s.at t) = .ok { accepted := some res, act := act }) :
    exec (.portCfg t src) s = .next (after t s (act (accepted src res [] (s.at t)))) := by
  obtain ⟨hh, hform⟩ := portCfg_form ha
  exact exec_accepted (c := .portCfg t src) (d := { accepted := some res, act := act }) rfl hh rfl hform fixedLen_eq_none (legal_all hall hall) h rfl hroom

end

/-- Settings that train no port and disable none, once the request is answered, are in force and change nothing else. -/
theorem applyPortCfg_answered {key p src : Nat} {c : PortCfg} {u : State} (ht : cfgTrains u p c = false) (he : (portOf u p).cfg.enable ≠ 1 ∨ c.enable ≠ 0) :
    applyPortCfg key p c (answered src [] u) = { answered src [] u with ports := { u.ports with list := u.ports.list.set p { portOf u p with cfg := c } } } := by
  have hport : portOf (answered src [] u) p = portOf u p := by rw [portOf, answered_ports, portOf]
  rw [applyPortCfg_keeps ((cfgTrains_congr (answered_ports ..) (answered_sys ..)).trans ht) (hport.symm ▸ he), modPort_congr _ (answered_ports ..)]

/-- Settles O23: the checks of the request in their order, then whether the port trains, is disabled, or takes its settings alone. -/
theorem portCfgActsOnItsPort : Obligations.PortCfgActsOnItsPort := by
  unfold Obligations.PortCfgActsOnItsPort
  intro t src s u r c x ha hall hp hbase
  refine ⟨fun k hk hallowed => ?full, fun hne hcap => ?captures, fun hfits => ⟨fun hfill => ?fill, fun hne hcap hrep hquiet hstays => ?set, fun hne hcap hrep hlanes hon hret hroom => ?trains,
    fun hcap hrep hwas hoff => ?disabled⟩⟩
  case full => exact exec_portCfg_refused ha hall (portCfg_tableFull hp hbase hallowed hk)
  case captures =>
    refine exec_portCfg_refused ha hall (portCfg_wrongMode hp ?_)
    rintro (h | ⟨hcap', hrep⟩)
    · exact hne h
    · exact hcap.elim (fun h => Bool.false_ne_true (hcap'.symm.trans h)) hrep
  case fill =>
    have ht : cfgTrains u (r.u8 0) c = false := Bool.eq_false_iff.mpr fun h => (cfgTrains_iff.mp h).2.2.2 hfill
    have henable : c.enable = x.cfg.enable := (congrArg PortCfg.enable hfill :)
    have hc : c = { x.cfg with fill := r.u16 0x0E } := congrArg (fun k : PortCfg => { k with fill := r.u16 0x0E }) hfill
    have hkept : x.cfg.enable ≠ 1 ∨ c.enable ≠ 0 := by omega
    rw [exec_portCfg_answered ha hall (portCfg_settles hp hbase (.inl hfill) hfits ht), applyPortCfg_answered ht hkept]
    exact congrArg (fun k => Host.Outcome.next (after t s { answered src [] u with ports := { u.ports with list := u.ports.list.set (r.u8 0) { x with cfg := k } } })) hc
  case set =>
    have ht : cfgTrains u (r.u8 0) c = false := by
      refine Bool.eq_false_iff.mpr fun h => ?_
      obtain ⟨hon, hret, hlanes, -⟩ := cfgTrains_iff.mp h
      rcases hquiet with ⟨hoff, hstate⟩ | hzero | hretired
      · exact hlanes.elim hoff fun h => h hstate
      · have hdisabled : c.enable = 0 := portCfgOf_enable_zero.mpr hzero
        omega
      · exact hret hretired
    have hkept : x.cfg.enable ≠ 1 ∨ c.enable ≠ 0 := by
      refine hstays.imp (by omega) fun h => ?_
      have henabled : c.enable = 1 := portCfgOf_enable_one.mpr h
      omega
    rw [exec_portCfg_answered ha hall (portCfg_settles hp hbase (.inr ⟨hcap, hrep⟩) hfits ht), applyPortCfg_answered ht hkept]
  case trains =>
    have ht : cfgTrains u (r.u8 0) c = true := cfgTrains_iff.mpr ⟨portCfgOf_enable_one.mpr hon, hret, hlanes, hne⟩
    rw [exec_portCfg_accepted ha hall hroom (portCfg_waits hp hbase (.inr ⟨hcap, hrep⟩) hfits ht),
      applyPortCfg_trains ((cfgTrains_congr (accepted_ports ..) (accepted_sys ..)).trans ht), modPort_congr _ (accepted_ports ..), accepted_ports]
    rfl
  case disabled =>
    have hzero : c.enable = 0 := portCfgOf_enable_zero.mpr hoff
    have ht : cfgTrains u (r.u8 0) c = false := by simp [cfgTrains, hzero]
    have hport : portOf (answered src [] u) (r.u8 0) = x := by rw [portOf, answered_ports, ← portOf]
    rw [exec_portCfg_answered ha hall (portCfg_settles hp hbase (.inr ⟨hcap, hrep⟩) hfits ht), applyPortCfg_disables (hport.symm ▸ hwas) hzero, modPort_congr _ (answered_ports ..)]

end Sys2Proof.Machine
end

/-! Blocks, rows and packets of a port (R125 to R134, R146). -/
section

namespace Sys2Proof.Machine

open Sys2Proof

/-! ### Block lock (R129) -/

/-- One more invalid header among the last 64. -/
theorem ones_push_one (n b : Nat) : ones (n + 1) ((2 * b + 1) % 2 ^ (n + 1)) = ones n b + 1 := by
  have hfirst : ((2 * b + 1) % 2 ^ (n + 1)).testBit 0 = true := by simp
  have hrest : ∀ i ∈ List.range n, ((2 * b + 1) % 2 ^ (n + 1)).testBit (i + 1) = b.testBit i := by
    intro i hi
    have hhalf : (2 * b + 1) / 2 = b := by omega
    rw [Nat.testBit_mod_two_pow, Nat.testBit_add_one, hhalf, decide_eq_true (Nat.succ_lt_succ (List.mem_range.mp hi)), Bool.true_and]
  simp only [ones, bit, List.range_succ_eq_map, List.filter_cons, hfirst, if_true, List.filter_map, List.length_cons, List.length_map]
  exact congrArg (fun l => List.length l + 1) (List.filter_congr hrest)

/-- A locked ball that hears an invalid header stays locked below 16 of 64. -/
theorem headIn_locked_invalid {b : BallRx} {h : Nat} (hl : b.locked = true) (h1 : h ≠ 1) (h2 : h ≠ 2) : (headIn b h).locked = decide (ones 63 b.bad < 15) := by
  have hvalid : (h == headControl || h == headData) = false := by simp [headControl, headData, h1, h2]
  have hbad := ones_push_one 63 b.bad
  simp only [headIn, hvalid, hl, if_true, Bool.false_eq_true, if_false, Bool.false_or, hbad, decide_eq_decide]
  omega

/-- A ball out of lock gains it with the 64th valid header in a row. -/
theorem headIn_unlocked_valid {b : BallRx} {h : Nat} (hl : b.locked = false) (hv : h = 1 ∨ h = 2) : (headIn b h).locked = decide (63 ≤ b.good) := by
  have hvalid : (h == headControl || h == headData) = true := by simpa [headControl, headData] using hv
  have hgood : min (b.good + 1) 64 = 64 ↔ 63 ≤ b.good := by omega
  simp only [headIn, hvalid, hl, Bool.false_eq_true, if_false, if_true]
  split
  · next h => exact (decide_eq_true (hgood.mp h)).symm
  · next h => exact (decide_eq_false (mt hgood.mpr h)).symm

/-! ### Blocks at the balls (R125, R129) -/

/-- The balls of a port after one block at each. -/
def ballsAfter (x : Port) (raws : List Nat) : List BallRx := (List.range 4).map (fun i => ballIn x.rx.aligned (x.rx.balls.getD i {}) (raws.getD i 0))

/-- The port with its balls as just heard, and the instants at which they lost lock (R149). -/
def withBalls (p : Nat) (balls : List BallRx) (s : State) : State :=
  modPort p (fun x => { x with rx := { x.rx with balls := balls }, lock := lockStamps s.now x.lock balls }) s

section

variable {p : Nat} {s : State}

theorem lt_ports_of_lanesLive (h : lanesLive (portOf s p) = true) : p < s.ports.list.length :=
  lt_ports_of lanesLive (by rw [h]; decide)

theorem lt_ports_of_aligned (h : (portOf s p).rx.aligned = true) : p < s.ports.list.length :=
  lt_ports_of (fun x => x.rx.aligned) (by rw [h]; decide)

theorem periodIn_dead {raws : List Nat} (h : lanesLive (portOf s p) = false) : periodIn p raws s = s := by
  simp [periodIn, h]

/-- A period at live lanes: a lane that loses lock is a block error (R134), then the lanes are aligned and their rows taken. -/
theorem periodIn_live {raws : List Nat} (h : lanesLive (portOf s p) = true) :
    periodIn p raws s = drainRows p 64 (tryAlign p
      (if lostLock (portOf s p).rx.balls (ballsAfter (portOf s p) raws) then errorEvent p 6 (withBalls p (ballsAfter (portOf s p) raws) s) else withBalls p (ballsAfter (portOf s p) raws) s)) :=
  if_neg (by simp [h])

theorem tryAlign_aligned (h : (portOf s p).rx.aligned = true) : tryAlign p s = s := by
  simp [tryAlign, h]

theorem drainRows_row {n : Nat} {row : List (Nat × Nat)} {rest : List BallRx} (h : (portOf s p).rx.aligned = true)
    (hrow : popRow (portOf s p).laneOrder (portOf s p).polarity (portOf s p).rx.balls = some (row, rest)) :
    drainRows p (n + 1) s = drainRows p n (rowIn p row (modRx p (fun r => { r with balls := rest }) s)) := by
  simp [drainRows, h, hrow]

theorem headersIn_dead {ball : Nat} {heads : List Nat} (h : lanesLive (portOf s p) = false) : headersIn p ball heads s = s := by
  simp [headersIn, h]

theorem headersIn_live {ball : Nat} {heads : List Nat} (h : lanesLive (portOf s p) = true) :
    headersIn p ball heads s =
      if lostLock (portOf s p).rx.balls ((portOf s p).rx.balls.set ball (heads.foldl headIn ((portOf s p).rx.balls.getD ball {})))
      then errorEvent p 6 (withBalls p ((portOf s p).rx.balls.set ball (heads.foldl headIn ((portOf s p).rx.balls.getD ball {}))) s)
      else withBalls p ((portOf s p).rx.balls.set ball (heads.foldl headIn ((portOf s p).rx.balls.getD ball {}))) s :=
  if_neg (by simp [h])

/-! ### Rows (R126 to R129) -/

theorem modRx_modRx (f g : PortRx → PortRx) (h : p < s.ports.list.length) : modRx p g (modRx p f s) = modRx p (fun r => g (f r)) s :=
  modPort_modPort _ _ h

/-- Without a training the rows of aligned lanes are those of RUN. -/
theorem rowIn_run {row : List (Nat × Nat)} (ht : (portOf s p).trainer = none) (ha : (portOf s p).rx.aligned = true) : rowIn p row s = runRow p (rowKind row) s := by
  simp [rowIn, ht, ha]

/-- The port that has counted one more row. -/
def countRow (p : Nat) (s : State) : State := modRx p (fun r => { r with since := r.since + 1 }) s

theorem runRow_mixed : runRow p .mixed s = errorEvent p 6 (countRow p s) := rfl

theorem runRow_words (ws : List Word64) : runRow p (.words ws) s = packetRow p ws (countRow p s) := rfl

/-- An idle row abandons the words of an open packet (log 53). -/
theorem runRow_idle (h : p < s.ports.list.length) : runRow p .idle s = modRx p (fun r => { r with since := r.since + 1, words := [] }) s :=
  modRx_modRx (fun r => { r with since := r.since + 1 }) (fun r => { r with words := [] }) h

/-- An alignment row in its place carries one number and is the 1024th. -/
theorem runRow_align {nos : List Nat} (h : p < s.ports.list.length) :
    runRow p (.align nos) s =
      if (∀ a ∈ nos, a = nos.headD 0) ∧ (portOf s p).rx.since = 1023 then modRx p (fun r => { r with since := 0, last := nos.headD 0 }) s
      else errorEvent p 7 (modRx p (fun r => { r with since := 0, last := nos.headD 0 }) s) := by
  have hone : modRx p (fun r => { r with since := 0, last := nos.headD 0 }) (countRow p s) = modRx p (fun r => { r with since := 0, last := nos.headD 0 }) s := modRx_modRx _ _ h
  refine Eq.trans (ite_congr (propext ?_) (fun _ => hone) (fun _ => congrArg (errorEvent p 7) hone)) rfl
  simp

/-! ### What the start of a packet leaves of its port (R18, R158) -/

/-- What a change of one port keeps of every port. -/
theorem portOf_modPort_keeps {α : Type} {g : Port → α} {f : Port → Port} (hf : ∀ x, g (f x) = g x) (p q : Nat) (s : State) :
    g (portOf (modPort q f s) p) = g (portOf s p) := by
  by_cases hq : q < s.ports.list.length
  · by_cases hqp : q = p
    · subst hqp
      rw [portOf_modPort_same f hq, hf]
    · simp [portOf, modPort, List.getD_eq_getElem?_getD, List.getElem?_set_ne hqp]
  · simp [portOf, modPort, List.set_eq_of_length_le (Nat.le_of_not_lt hq)]

theorem latchMask_cfg (k p : Nat) (s : State) : (portOf (latchMask k s).2 p).cfg = (portOf s p).cfg := by
  unfold latchMask
  extract_lets back cleared
  refine foldl_keeps (view := fun s => (portOf s p).cfg) (fun s q => ?_) back s
  exact portOf_modPort_keeps (g := Port.cfg) (by intro x; rfl) p q { s with ports.retired := setBit s.ports.retired q false }

theorem enterGate_cfg (i p : Nat) (s : State) : (portOf (enterGate i s) p).cfg = (portOf s p).cfg := by
  unfold enterGate
  split
  · rfl
  · next g _ =>
    split
    · rfl
    · exact latchMask_cfg g.line p s

theorem putTpl_ports (i : Nat) (t : Tpl) (s : State) : (putTpl i t s).ports = s.ports := by
  unfold putTpl
  split <;> rfl

/-- The line that enters the Gate changes no settings of a port. -/
theorem beginPacket_cfg (i p : Nat) (t : Tpl) (s : State) : (portOf (beginPacket i t s) p).cfg = (portOf s p).cfg := by
  unfold beginPacket
  extract_lets b t'
  rw [enterGate_cfg, portOf, putTpl_ports, ← portOf]

/-! ### Words of a packet (R130 to R134) -/

/-- The port with the words of one more row. -/
def holdWords (p : Nat) (ws : List Word64) (s : State) : State := modRx p (fun r => { r with words := (portOf s p).rx.words ++ ws }) s

/-- A header that is the first row of its exposure's packet brings the line to the Gate. -/
theorem opens_iff {c : PortCfg} {g : Slot} {t : Tpl} {k : Packet} :
    (k.sync == 0x4C1EB7A5 && k.tag == g.expo % 65536) = true ↔ headError c g t k = 0 ∨ headError c g t k = 3 := by
  unfold headError
  by_cases hsync : k.sync = 0x4C1EB7A5 <;> by_cases htag : k.tag = g.expo % 65536 <;> by_cases hfits : packetFits c t k <;> simp [hsync, htag, hfits]

theorem nextTpl_modRx (p q : Nat) (f : PortRx → PortRx) (s : State) : nextTpl (modRx p f s) q = nextTpl s q := rfl

theorem packetRow_untrained {ws : List Word64} (h : (portOf s p).state ≠ .ready) : packetRow p ws s = s :=
  if_pos (by simpa using h)

theorem packetRow_unowed {ws : List Word64} (h : (portOf s p).state = .ready) (hn : nextTpl s p = none) :
    packetRow p ws s = errorEvent p 4 (holdWords p ws s) := by
  unfold packetRow
  rw [if_neg (by simp [h])]
  simp only [nextTpl_modRx, hn]
  rfl

section

variable {ws : List Word64} {i : Nat} {g : Slot} {tp : Tpl} (h : (portOf s p).state = .ready) (hn : nextTpl s p = some (i, g, tp))

include h hn

/-- The first row of a packet, judged by its header. -/
theorem packetRow_first (hw : ((portOf s p).rx.words ++ ws).length = 4) {k : Packet} (hk : k = parsePacket ((portOf s p).rx.words ++ ws))
    (hlong : headError (portOf s p).cfg g tp k = 0 → 4 < packetWords k) :
    packetRow p ws s =
      if headError (portOf s p).cfg g tp k = 0 then beginPacket i tp (holdWords p ws s)
      else if headError (portOf s p).cfg g tp k = 3 then errorEvent p 3 (beginPacket i tp (holdWords p ws s))
      else errorEvent p (headError (portOf s p).cfg g tp k) (holdWords p ws s) := by
  have hopen : (k.sync == 0x4C1EB7A5 && k.tag == g.expo % 65536) = true ↔ headError (portOf s p).cfg g tp k = 0 ∨ headError (portOf s p).cfg g tp k = 3 := opens_iff
  have hheld : modRx p (fun r => { r with words := (portOf s p).rx.words ++ ws }) s = holdWords p ws s := rfl
  have hnext : nextTpl (holdWords p ws s) p = some (i, g, tp) := hn
  have hcfg : (portOf (holdWords p ws s) p).cfg = (portOf s p).cfg := portOf_modPort_keeps (g := Port.cfg) (by intro x; rfl) p p s
  have hbegun : (portOf (beginPacket i tp (holdWords p ws s)) p).cfg = (portOf s p).cfg := (beginPacket_cfg ..).trans hcfg
  unfold packetRow
  rw [if_neg (by simp [h])]
  simp only [hheld, hnext, ← hk, hw, decide_true, Bool.true_and, if_true]
  by_cases ho : (k.sync == 0x4C1EB7A5 && k.tag == g.expo % 65536) = true
  · simp only [if_pos ho, hbegun]
    rcases hopen.mp ho with he | he
    · simp [he, hlong he]
    · simp [he]
  · obtain ⟨h0, h3⟩ := not_or.mp (mt hopen.mpr ho)
    simp only [if_neg ho, hcfg]
    simp [h0, h3]

/-- A later row of a packet: the packet goes on, or its CRC decides. -/
theorem packetRow_later (hw : 4 < ((portOf s p).rx.words ++ ws).length) {k : Packet} (hk : k = parsePacket ((portOf s p).rx.words ++ ws)) :
    packetRow p ws s =
      if ((portOf s p).rx.words ++ ws).length < packetWords k then holdWords p ws s
      else if k.crcOk then takePacket i tp k (modRx p (fun r => { r with words := [] }) (holdWords p ws s))
      else errorEvent p 1 (modRx p (fun r => { r with words := [] }) (holdWords p ws s)) := by
  have h4 : ((portOf s p).rx.words ++ ws).length ≠ 4 := by omega
  unfold packetRow
  rw [if_neg (by simp [h])]
  simp only [nextTpl_modRx, hn, if_neg h4, decide_eq_false h4, Bool.false_and, Bool.false_eq_true, if_false, bne_self_eq_false, ← hk]
  refine ite_congr rfl (fun _ => rfl) (fun _ => ?_)
  cases k.crcOk <;> rfl

end

/-! ### Late lines and ports out of RUN (R134, R146) -/

theorem lateError_due {i : Nat} {g : Slot} (ho : oldestOwed s p = some (i, g)) (hd : g.ts + g.e + 32000 ≤ s.now) : lateError p s = errorEvent p 5 s := by
  have hlate : ¬ s.now < g.ts + g.e + 32000 := by omega
  simp only [lateError, ho, if_neg hlate]

theorem lateError_early {i : Nat} {g : Slot} (ho : oldestOwed s p = some (i, g)) (hd : s.now < g.ts + g.e + 32000) : lateError p s = s := by
  simp only [lateError, ho, if_pos hd]

/-- A port that is neither trained nor in an error event has no packet errors. -/
theorem errorEvent_untrained {e : Nat} (hs : (portOf s p).state ≠ .ready) (hr : (portOf s p).state ≠ .retraining) : errorEvent p e s = s := by
  unfold errorEvent
  extract_lets x
  exact (if_neg (by simpa using hr)).trans (if_pos (by simpa using hs))

end

/-- Settles O48: blocks make rows, and each row, each packet and each ball is judged by its own lemma above. -/
theorem packetsJoinOrFail : Obligations.PacketsJoinOrFail := by
  unfold Obligations.PacketsJoinOrFail
  intro t p lane idles i h raws heads nos blocks row rest ws c g tp s u x balls put got heard sensed k held done
  refine ⟨rfl, rfl, periodIn_dead, fun hl hlost => ?lost, fun hl hlost ha hrow => ?row, rowIn_run, fun ha => ⟨runRow_idle (lt_ports_of_aligned ha), runRow_mixed, runRow_words ws, ?inPlace, ?misplaced⟩,
    packetRow_untrained, packetRow_unowed, fun hs hn hw h0 hlong => ?opens, fun hs hn hw hbad => ?strange, fun hs hn hw h3 => ?unfit, fun hs hn hw hshort => ?goesOn, fun hs hn hw hwhole => ?whole,
    fun hl => ?silent, fun hl => ?heard, headIn_locked_invalid, headIn_unlocked_valid, fun ho hd => ?late, fun ho hd => ?early, fun e => errorEvent_untrained⟩
  case lost => exact (periodIn_live hl).trans (congrArg (fun e => drainRows p 64 (tryAlign p e)) (if_pos hlost))
  case row =>
    have hp : p < u.ports.list.length := lt_ports_of_lanesLive hl
    have hgot : portOf got p = { x with rx := { x.rx with balls := balls }, lock := lockStamps u.now x.lock balls } := portOf_modPort_same _ hp
    have haligned : (portOf got p).rx.aligned = true := by rw [hgot]; exact ha
    have hkept : periodIn p raws u = drainRows p 64 (tryAlign p got) :=
      (periodIn_live hl).trans (congrArg (fun e => drainRows p 64 (tryAlign p e)) (if_neg (Bool.eq_false_iff.mp hlost)))
    rw [hkept, tryAlign_aligned haligned]
    exact drainRows_row haligned (by rw [hgot]; exact hrow)
  case inPlace =>
    intro hsame hplace
    exact (runRow_align (lt_ports_of_aligned ha)).trans (if_pos ⟨hsame, hplace⟩)
  case misplaced =>
    intro hwrong
    refine (runRow_align (lt_ports_of_aligned ha)).trans (if_neg fun hin => ?_)
    obtain ⟨hsame, hplace⟩ := hin
    rcases hwrong with ⟨a, hmem, hne⟩ | hne
    · exact hne (hsame a hmem)
    · exact hne hplace
  case opens => exact (packetRow_first hs hn hw rfl fun _ => hlong).trans (if_pos h0)
  case strange =>
    have h0 : headError x.cfg g tp k ≠ 0 := by omega
    have h3 : headError x.cfg g tp k ≠ 3 := by omega
    exact (packetRow_first hs hn hw rfl fun h => absurd h h0).trans ((if_neg h0).trans (if_neg h3))
  case unfit =>
    have h0 : headError x.cfg g tp k ≠ 0 := by omega
    exact (packetRow_first hs hn hw rfl fun h => absurd h h0).trans ((if_neg h0).trans (if_pos h3))
  case goesOn => exact (packetRow_later hs hn hw rfl).trans (if_pos hshort)
  case whole => exact (packetRow_later hs hn hw rfl).trans (if_neg (Nat.not_lt.mpr hwhole))
  case silent => rw [exec_blockLockLoss, headersIn_dead hl]
  case heard =>
    rw [exec_blockLockLoss, headersIn_live hl]
    rfl
  case late => rw [exec_lateError, lateError_due ho hd]
  case early => rw [exec_lateError, lateError_early ho hd]

end Sys2Proof.Machine
end

/-! Ends of trainings and retrains, and the control lane (R136 to R139, R143 to R145, R149). -/
section

namespace Sys2Proof.Machine

open Sys2Proof

/-! ### The cells of a frame (R136) -/

/-- The half cells of one bit. -/
def cellOf (v : Bool) : List Bool := if v then [false, true] else [true, false]

theorem manchester_eq (bs : List Byte) : manchester bs = (wireBits bs).flatMap cellOf := by
  rw [wireBits, List.flatMap_assoc]
  simp only [List.flatMap_map]
  rfl

theorem cellBits_cells (l : List Bool) : cellBits (l.flatMap cellOf) = some l := by
  induction l with
  | nil => rfl
  | cons v l ih => cases v <;> simp [cellOf, cellBits, ih]

theorem wireBits_cons (b : Byte) (bs : List Byte) : wireBits (b :: bs) = (List.range 8).map (fun i => b.getLsbD i) ++ wireBits bs := rfl

theorem wireBits_length (bs : List Byte) : (wireBits bs).length = 8 * bs.length := by
  induction bs with
  | nil => rfl
  | cons b bs ih =>
    simp only [wireBits_cons, List.length_append, List.length_map, List.length_range, List.length_cons, ih]
    omega

/-- A byte is the sum of its bits. -/
theorem byte_of_bits (b : Byte) : BitVec.ofNat 8 (sumN ((List.range 8).map (fun j => if b.getLsbD j then 2 ^ j else 0))) = b := by
  revert b
  decide +kernel

theorem bytesOfBits_wireBits (bs : List Byte) : bytesOfBits bs.length (wireBits bs) = bs := by
  induction bs with
  | nil => rfl
  | cons b bs ih =>
    have hlow : ∀ j ∈ List.range 8, (wireBits (b :: bs)).getD (8 * 0 + j) false = b.getLsbD j := by
      intro j hj
      have h8 : j < 8 := List.mem_range.mp hj
      simp [wireBits_cons, List.getD_eq_getElem?_getD, List.getElem?_append, h8]
    have hhigh : ∀ i j, (wireBits (b :: bs)).getD (8 * (i + 1) + j) false = (wireBits bs).getD (8 * i + j) false := by
      intro i j
      have hindex : 8 * (i + 1) + j = 8 + (8 * i + j) := by omega
      rw [hindex, wireBits_cons, List.getD_eq_getElem?_getD, List.getElem?_append_right (by simp)]
      simp [List.getD_eq_getElem?_getD]
    rw [bytesOfBits, List.length_cons, List.range_succ_eq_map (n := bs.length), List.map_cons, List.map_map]
    refine congr (congrArg List.cons ?_) ?_
    · rw [List.map_congr_left (fun j hj => by rw [hlow j hj])]
      exact byte_of_bits b
    · refine Eq.trans (List.map_congr_left fun i _ => ?_) ih
      simp only [Function.comp_apply, Nat.succ_eq_add_one, hhigh]

/-- The cells of a frame give its bytes back (R136). -/
theorem frameBytes_ctlFrame (body : List Byte) : frameBytes (ctlFrame body) = some (body ++ [BitVec.ofNat 8 (crc8 body)]) := by
  have hbits : cellBits (ctlFrame body) = some (wireBits (0x55 :: 0xD5 :: (body ++ [BitVec.ofNat 8 (crc8 body)]))) := by
    rw [ctlFrame, manchester_eq, cellBits_cells]
    rfl
  have hbytes := bytesOfBits_wireBits (0x55 :: 0xD5 :: (body ++ [BitVec.ofNat 8 (crc8 body)]))
  rw [frameBytes, hbits]
  simp only [wireBits_length, Nat.mul_div_cancel_left _ (show 0 < 8 by decide), hbytes]
  simp

section

variable {p : Nat} {s : State}

/-! ### How a training stands at its row (R143, R145) -/

theorem trainResult_true {r : Trainer} : trainResult s r = some true ↔ r.step = .done := by
  by_cases hd : r.step = .done <;> simp [trainResult, hd]

theorem trainResult_false {r : Trainer} : trainResult s r = some false ↔ r.step ≠ .done ∧ (r.step = .failed ∨ trainLimit s r ≤ s.now) := by
  by_cases hd : r.step = .done <;> simp [trainResult, hd, Decidable.or_iff_not_imp_left]

/-- No training of the port has ended as its row tells. -/
theorem overs_go_on {ok : Bool} {order pol : Nat} {skew : List Int} (h : ∀ r, (portOf s p).trainer = some r → trainResult s r ≠ some ok) :
    trainingOver p ok s = s ∧ retrainOver p ok order pol skew s = s := by
  unfold trainingOver retrainOver
  cases ht : (portOf s p).trainer with
  | none => exact ⟨rfl, by simp [ht]⟩
  | some r => simp [ht, h r ht]

theorem retrainOver_unlike {order pol : Nat} {skew : List Int} (h : ((portOf s p).laneOrder, (portOf s p).polarity, (portOf s p).skew) ≠ (order, pol, skew)) :
    retrainOver p true order pol skew s = s := by
  have hne : ((portOf s p).laneOrder == order && (portOf s p).polarity == pol && (portOf s p).skew == skew) = false := by
    simpa [and_assoc] using h
  unfold retrainOver
  extract_lets x
  split
  · rfl
  · exact if_neg (by simp [x, hne])

theorem trainingOver_ended {ok : Bool} {r : Trainer} (ht : (portOf s p).trainer = some r) (hr : trainResult s r = some ok) :
    trainingOver p ok s = trainEnd p ok r.answers s := by
  simp only [trainingOver, ht, if_pos hr]

theorem retrainOver_done {r : Trainer} (ht : (portOf s p).trainer = some r) (hr : trainResult s r = some true) :
    retrainOver p true (portOf s p).laneOrder (portOf s p).polarity (portOf s p).skew s = retrainEnd p true s := by
  simp [retrainOver, ht, hr]

theorem retrainOver_failed {order pol : Nat} {skew : List Int} {r : Trainer} (ht : (portOf s p).trainer = some r) (hr : trainResult s r = some false) :
    retrainOver p false order pol skew s = retrainEnd p false s := by
  simp [retrainOver, ht, hr]

/-! ### The end of a training (R143, R144, R150) -/

/-- A training of a port that is not readmitted makes it ready. -/
theorem trainEnd_ready {ans : List Nat} (hs : (portOf s p).state = .training) (hr : (portOf s p).readmit = 0) :
    trainEnd p true ans s = trainingDone p true 0 (clearFaults 0x0102 (modPort p (fun x => { x with state := .ready, event := false, fails := 0, trainer := none, tileId := ans.getD 0 0, declared := ans.getD 4 0 % 8192, tTile := if x.cfg.tTile = 0xFFFF then ans.getD 4 0 % 8192 else x.cfg.tTile, lock := [0, 0, 0, 0] }) s)) := by
  simp [trainEnd, hs, hr]

/-- A training that fails retires its port with the cause that its answers give. -/
theorem trainEnd_retires {ans : List Nat} {cause : Nat} (hs : (portOf s p).state = .training) (hr : (portOf s p).readmit = 0)
    (hc : cause = if 6 ≤ ans.length && !configFits (portOf s p).cfg ans then 0x13 else 0x14) :
    trainEnd p false ans s = trainingDone p false cause (retirePort p cause (modPort p (fun x => { x with readmit := 0, readmitAt := none }) s)) := by
  simp [trainEnd, hs, hr, hc]

/-! ### The end of a retrain (R145, R149) -/

theorem retrainEnd_ready (hs : (portOf s p).state = .retraining) :
    retrainEnd p true s = portCount p 11 (modPort p (fun x => { x with state := .ready, event := false, fails := 0, trainer := none, lock := [0, 0, 0, 0] }) s) := by
  simp [retrainEnd, hs]

/-- The port that has counted one more failed retrain. -/
def failRetrain (p : Nat) (s : State) : State := portCount p 12 (modPort p (fun x => { x with fails := x.fails + 1, failAt := s.now, trainer := none }) s)

theorem failRetrain_fails (h : p < s.ports.list.length) : (portOf (failRetrain p s) p).fails = (portOf s p).fails + 1 :=
  (portOf_modPort_keeps (g := Port.fails) (by intro x; rfl) p p _).trans (congrArg Port.fails (portOf_modPort_same _ h))

/-- The third failed retrain in a row retires its port. -/
theorem retrainEnd_failed (hs : (portOf s p).state = .retraining) :
    retrainEnd p false s = if 2 ≤ (portOf s p).fails then retirePort p 0x11 (failRetrain p s) else failRetrain p s := by
  have hp : p < s.ports.list.length := lt_ports_of Port.state (by rw [hs]; decide)
  have hthird : 3 ≤ (portOf (failRetrain p s) p).fails ↔ 2 ≤ (portOf s p).fails := by
    rw [failRetrain_fails hp]
    omega
  unfold retrainEnd
  rw [if_neg (by simp [hs]), if_neg Bool.false_ne_true]
  exact ite_congr (propext hthird) (fun _ => rfl) (fun _ => rfl)

theorem retrainRetry_starts (hs : (portOf s p).state = .retraining) (ht : (portOf s p).trainer = none) (hf : 0 < (portOf s p).fails) (hd : (portOf s p).failAt + 100000 ≤ s.now) :
    retrainRetry p s = beginTrainer true p s := by
  simp [retrainRetry, hs, ht, hf, hd]

theorem retrainRetry_early (h : s.now < (portOf s p).failAt + 100000) : retrainRetry p s = s := by
  simp [retrainRetry, Nat.not_le.mpr h]

theorem lockLoss_retires {lane : Nat} (hs : (portOf s p).state = .ready ∨ (portOf s p).state = .retraining) (hv : (portOf s p).lock.getD lane 0 ≠ 0)
    (hd : (portOf s p).lock.getD lane 0 - 1 + 10000000 < s.now) : lockLoss p lane s = retirePort p 0x12 s :=
  if_pos (by simpa only [Bool.and_eq_true, Bool.or_eq_true, beq_iff_eq, bne_iff_ne, decide_eq_true_eq] using ⟨⟨hs, hv⟩, hd⟩)

theorem lockLoss_early {lane : Nat} (h : s.now ≤ (portOf s p).lock.getD lane 0 - 1 + 10000000) : lockLoss p lane s = s :=
  if_neg (by simp only [Bool.and_eq_true, decide_eq_true_eq]; omega)

/-! ### Register transactions (R137 to R139) -/

theorem ctlTransaction_closed {write : Bool} {addr data : Nat} (h : ctlFree s p = false) : ctlTransaction p write addr data s = s := by
  simp [ctlTransaction, h]

theorem ctlTransaction_starts {write : Bool} {addr data : Nat} (h : ctlFree s p = true) (ha : (portOf s p).again = none) (hs : (portOf s p).state = .ready) (hb : addr < 0x1000) :
    ctlTransaction p write addr data s = startTx p { write := write, addr := addr, data := data, tries := 0, start := s.now } s := by
  simp [ctlTransaction, h, ha, hs, hb]

theorem ctlTransaction_repeats {write : Bool} {addr data : Nat} {y : CtlTx} (h : ctlFree s p = true) (ha : (portOf s p).again = some y) :
    ctlTransaction p write addr data s = startTx p y (modPort p (fun x => { x with again := none }) s) := by
  simp [ctlTransaction, h, ha]

/-- The first cell of a transaction that waited to be repeated. -/
theorem startTx_again {y : CtlTx} (h : p < s.ports.list.length) :
    startTx p y (modPort p (fun x => { x with again := none }) s) =
      emit (.ctl p (if y.write then writeFrame y.addr y.data else readFrame y.addr)) (modPort p (fun x => { x with again := none, tx := some { y with start := Nat.max s.now x.expoEnd } }) s) :=
  congrArg (emit _) (modPort_modPort (fun x => { x with again := none }) (fun x => { x with tx := some { y with start := Nat.max s.now x.expoEnd } }) h)

/-- The port whose transaction has ended. -/
def endTx (p : Nat) (s : State) : State := modPort p (fun y => { y with tx := none }) s

section

variable {c : CtlTx} (hx : (portOf s p).tx = some c) (ht : (portOf s p).trainer = none)

include hx

theorem lt_ports_of_tx : p < s.ports.list.length := lt_ports_of Port.tx (by rw [hx]; exact Option.some_ne_none c)

include ht

/-- A good reply ends the transaction, and what waits on the lane follows. -/
theorem ctlReply_good {levels : List Bool} {w st : Nat} (hr : (frameBytes levels).bind (replyOf c) = some (w, st)) :
    ctlReply p levels s = afterTx p (modPort p (fun y => { y with tx := none, tileId := if st = 0 && !c.write && c.addr == 0 then w else y.tileId }) s) := by
  have hnone : (portOf (modPort p (fun y => { y with tx := none, tileId := if st = 0 && !c.write && c.addr == 0 then w else y.tileId }) s) p).trainer = none :=
    (portOf_modPort_keeps (g := Port.trainer) (by intro x; rfl) p p s).trans ht
  simp only [ctlReply, hx, hr, hnone]

/-- A lost reply is followed by a repeat, twice. -/
theorem ctlLost_repeats (h2 : c.tries < 2) :
    ctlLost p s = afterTx p (modPort p (fun y => { y with tx := none, again := some (y.again.getD { c with tries := c.tries + 1 }) }) s) := by
  have hnone : (portOf (endTx p s) p).trainer = none := (portOf_modPort_keeps (g := Port.trainer) (by intro x; rfl) p p s).trans ht
  have hboth : modPort p (fun y => { y with again := some (y.again.getD { c with tries := c.tries + 1 }) }) (endTx p s)
      = modPort p (fun y => { y with tx := none, again := some (y.again.getD { c with tries := c.tries + 1 }) }) s := modPort_modPort _ _ (lt_ports_of_tx hx)
  rw [← hboth]
  rw [endTx] at hnone
  simp only [ctlLost, hx, hnone, if_pos h2, endTx]

/-- The third lost reply is a CTL error (R134). -/
theorem ctlLost_fails (h2 : 2 ≤ c.tries) : ctlLost p s = errorEvent p 8 (afterTx p (endTx p s)) := by
  have hnone : (portOf (endTx p s) p).trainer = none := (portOf_modPort_keeps (g := Port.trainer) (by intro x; rfl) p p s).trans ht
  rw [endTx] at hnone
  simp only [ctlLost, hx, hnone, if_neg (Nat.not_lt.mpr h2), endTx]

end

theorem ctlReply_bad {c : CtlTx} {levels : List Bool} (hx : (portOf s p).tx = some c) (hr : (frameBytes levels).bind (replyOf c) = none) : ctlReply p levels s = ctlLost p s := by
  simp only [ctlReply, hx, hr]

theorem ctlTimeout_early {c : CtlTx} (hx : (portOf s p).tx = some c) (h : s.now < replyLimit c) : ctlTimeout p s = s := by
  simp only [ctlTimeout, hx, if_pos h]

theorem ctlTimeout_lost {c : CtlTx} (hx : (portOf s p).tx = some c) (h : replyLimit c ≤ s.now) : ctlTimeout p s = ctlLost p s := by
  simp only [ctlTimeout, hx, if_neg (Nat.not_lt.mpr h)]

end

/-- Settles O49: how the training stands decides its end, the free window the start of a transaction, and the reply its end. -/
theorem trainingAndControlLaneAct : Obligations.TrainingAndControlLaneAct := by
  unfold Obligations.TrainingAndControlLaneAct
  intro t p lane write ok order pol skew addr data w st levels body r x c y s u put frame bad ended going hx
  subst hx
  have hover : (∀ q, (portOf u p).trainer = some q → trainResult u q ≠ some ok) →
      exec (.trainingComplete t p ok) s = .next (after t s u) ∧ exec (.retrainComplete t p ok order pol skew) s = .next (after t s u) := by
    intro h
    obtain ⟨htraining, hretrain⟩ := overs_go_on (order := order) (pol := pol) (skew := skew) h
    exact ⟨by rw [exec_trainingComplete, htraining], by rw [exec_retrainComplete, hretrain]⟩
  have hgoing : going → trainResult u r ≠ some ok := by
    rintro ⟨hd, hf, hlim⟩ hres
    cases ok with
    | true => exact hd (trainResult_true.mp hres)
    | false => exact (trainResult_false.mp hres).2.elim hf (Nat.not_le.mpr hlim)
  refine ⟨fun h => hover fun q hq => ?none, fun ht h => hover fun q hq => ?other, fun h => ?unlike, fun hs hr ht hd => ?trained, fun hs hr ht he => ?untrained, fun hs ht hd => ?retrained,
    fun hs ht he hf => ?failed, fun hs ht he hf => ?third, fun hs ht hf hd => ?retry, fun h => ?retryEarly, fun hs hv hd => ?lockLost, fun h => ?lockEarly, fun h => ?closed, fun h ha hs hb => ?starts,
    fun h ha => ?again, fun hx ht hr => ?good, fun hx ht hr h2 => ?bad, fun hx h => ?waits, fun hx ht h2 h => ?lost, fun hx ht h2 h => ?ctlError, frameBytes_ctlFrame body⟩
  case none =>
    rcases h with h | ⟨h, hg⟩
    · exact absurd (hq.symm.trans h) (Option.some_ne_none q)
    · exact Option.some.inj (h.symm.trans hq) ▸ hgoing hg
  case other =>
    obtain rfl : r = q := Option.some.inj (ht.symm.trans hq)
    cases ok with
    | true => exact fun hres => h (trainResult_true.mp hres)
    | false => exact h.elim (fun hd hres => (trainResult_false.mp hres).1 hd) hgoing
  case unlike => rw [exec_retrainComplete, retrainOver_unlike h]
  case trained =>
    rw [exec_trainingComplete, trainingOver_ended ht (trainResult_true.mpr hd), trainEnd_ready hs hr]
    rfl
  case untrained =>
    rw [exec_trainingComplete, trainingOver_ended ht (trainResult_false.mpr he), trainEnd_retires hs hr rfl]
    rfl
  case retrained =>
    rw [exec_retrainComplete, retrainOver_done ht (trainResult_true.mpr hd), retrainEnd_ready hs]
    rfl
  case failed =>
    rw [exec_retrainComplete, retrainOver_failed ht (trainResult_false.mpr he), retrainEnd_failed hs, if_neg (Nat.not_le.mpr hf)]
    rfl
  case third =>
    rw [exec_retrainComplete, retrainOver_failed ht (trainResult_false.mpr he), retrainEnd_failed hs, if_pos hf]
    rfl
  case retry => rw [exec_retrainRetry, retrainRetry_starts hs ht hf hd]
  case retryEarly => rw [exec_retrainRetry, retrainRetry_early h]
  case lockLost => rw [exec_lockLoss, lockLoss_retires hs hv hd]
  case lockEarly => rw [exec_lockLoss, lockLoss_early h]
  case closed => rw [exec_ctlTransaction, ctlTransaction_closed h]
  case starts =>
    rw [exec_ctlTransaction, ctlTransaction_starts h ha hs hb]
    rfl
  case again =>
    have hp : p < u.ports.list.length := lt_ports_of Port.again (by rw [ha]; exact Option.some_ne_none y)
    rw [exec_ctlTransaction, ctlTransaction_repeats h ha, startTx_again hp]
    rfl
  case good =>
    rw [exec_ctlReply, ctlReply_good hx ht hr]
    rfl
  case bad =>
    rw [exec_ctlReply, ctlReply_bad hx hr, ctlLost_repeats hx ht h2]
    rfl
  case waits => rw [exec_ctlReplyLost, ctlTimeout_early hx h]
  case lost =>
    rw [exec_ctlReplyLost, ctlTimeout_lost hx h, ctlLost_repeats hx ht h2]
    rfl
  case ctlError =>
    rw [exec_ctlReplyLost, ctlTimeout_lost hx h, ctlLost_fails hx ht h2]
    rfl

end Sys2Proof.Machine
end

/-! Running white and output lines (R180, R184, R194 to R196, R251). -/
section

namespace Sys2Proof.Machine

open Sys2Proof

/-! ### Block ends of running white (R184, R251) -/

/-- The running-white term of a side and plane slot. -/
def rwSlot (side q : Nat) (s : State) : RwState := s.px.rw.getD (4 * side + q) {}

/-- W × RW_REF ÷ mean, which a block of mean m calls for (R184). -/
def rwWanted (r : RwState) (m : Int) : Int := rnd ((r.w : Int) * r.ref) (if m < 1 then 1 else m)

/-- The change of W towards it, at most RW_STEP either way (R184). -/
def rwChange (c : SvCfg) (r : RwState) (m : Int) : Int := clampI (rwWanted r m - (r.w : Int)) (-(c.rwStep : Int)) (c.rwStep : Int)

/-- W after a block of mean m (R184). -/
def rwNext (c : SvCfg) (r : RwState) (m : Int) : Nat := ((r.w : Int) + rwChange c r m).toNat

/-- The row names no side and plane slot, or running white does not operate (R180). -/
def rwIdle (side q : Nat) (s : State) : Bool := decide (2 ≤ side) || decide (4 ≤ q) || !(decide (s.sys.mode = .inline) || decide (s.sys.mode = .proof))

/-- W would leave the range of RW_MIN and RW_MAX (R251). -/
def rwBeyond (c : SvCfg) (w : Int) : Bool := decide (w < (c.rwMin : Int)) || decide ((c.rwMax : Int) < w)

theorem rwBeyond_iff {c : SvCfg} {w : Int} : rwBeyond c w = true ↔ w < (c.rwMin : Int) ∨ (c.rwMax : Int) < w := by simp [rwBeyond]

/-- The counters of chapter 5 after one more of each of l. -/
def pxCounted (l : List Nat) (s : State) : List Nat := l.foldl (fun a k => nmod 0 a k (satInc 32)) s.px.counters

/-- A complete block is taken: the term becomes r, and the counters l count. -/
def rwTook (side q : Nat) (l : List Nat) (r : RwState) (s : State) : State :=
  { s with px := { s.px with counters := pxCounted l s, rw := s.px.rw.set (4 * side + q) r } }

/-- One more of counter k of chapter 5. -/
def pxCount (k : Nat) (s : State) : State := { s with px := { s.px with counters := nmod 0 s.px.counters k (satInc 32) } }

/-- A complete block is taken, and W becomes w. -/
def rwMoveTo (side q : Nat) (more : List (Nat × Int)) (w : Nat) (s : State) : State :=
  { s with px := { s.px with rw := nmod {} s.px.rw (4 * side + q) (fun r => { r with ready := more, w := w }) } }

/-- A block of mean m has moved W: the generation rises where W changes (R158), and a change that RW_STEP cut is counted (R184). -/
def rwMoved (side q : Nat) (more : List (Nat × Int)) (m : Int) (s : State) : State :=
  let r := rwSlot side q s
  let w := rwNext s.banks.live.sv r m
  let counted := pxCount 4 s
  let moved := rwMoveTo side q more w (if w = r.w then counted else keepRw counted)
  let raised := if w = r.w then moved else bumpGen q moved
  let told := if rwChange s.banks.live.sv r m = rwWanted r m - (r.w : Int) then raised else pxCount 5 raised
  { told with cal := { told.cal with rwRejecting := false } }

section

variable (side q : Nat) (more : List (Nat × Int)) (m : Int) (s : State)

@[simp] theorem pxCount_px (k : Nat) : (pxCount k s).px = { s.px with counters := nmod 0 s.px.counters k (satInc 32) } := rfl
@[simp] theorem pxCount_banks (k : Nat) : (pxCount k s).banks = s.banks := rfl
@[simp] theorem rwMoveTo_px (w : Nat) : (rwMoveTo side q more w s).px = { s.px with rw := nmod {} s.px.rw (4 * side + q) (fun r => { r with ready := more, w := w }) } := rfl
@[simp] theorem rwMoveTo_banks (w : Nat) : (rwMoveTo side q more w s).banks = s.banks := rfl
@[simp] theorem keepRw_px : (keepRw s).px = { s.px with rwWas := (rwSeen s).1, genWas := (rwSeen s).2, rwT := some s.now } := rfl
@[simp] theorem keepRw_banks : (keepRw s).banks = s.banks := rfl
@[simp] theorem bumpGen_px : (bumpGen q s).px = { s.px with rwGen := nmod 0 s.px.rwGen q (wrapInc 8) } := rfl
@[simp] theorem bumpGen_banks : (bumpGen q s).banks = s.banks := rfl

theorem rwMoved_rw : (rwMoved side q more m s).px.rw = s.px.rw.set (4 * side + q) { rwSlot side q s with ready := more, w := rwNext s.banks.live.sv (rwSlot side q s) m } := by
  simp [rwMoved, apply_ite State.px, apply_ite PxSt.rw, nmod, rwSlot]

theorem rwMoved_rwGen : (rwMoved side q more m s).px.rwGen =
    if rwNext s.banks.live.sv (rwSlot side q s) m = (rwSlot side q s).w then s.px.rwGen else nmod 0 s.px.rwGen q (wrapInc 8) := by
  simp [rwMoved, apply_ite State.px, apply_ite PxSt.rwGen]

theorem rwMoved_counters : (rwMoved side q more m s).px.counters =
    if rwChange s.banks.live.sv (rwSlot side q s) m = rwWanted (rwSlot side q s) m - ((rwSlot side q s).w : Int) then pxCounted [4] s else pxCounted [4, 5] s := by
  simp [rwMoved, apply_ite State.px, apply_ite PxSt.counters, pxCounted]

theorem rwMoved_banks : (rwMoved side q more m s).banks = s.banks := by
  simp [rwMoved, apply_ite State.banks]

end

section

variable {side q n : Nat} {sum : Int} {more : List (Nat × Int)} {s : State}

theorem rwBlock_noBlock (h : (rwSlot side q s).ready = []) : rwBlock side q s = s := by
  unfold rwBlock
  extract_lets c i r
  rw [show r.ready = [] from h]

theorem rwBlock_otherMode (h : ¬ (s.sys.mode = .inline ∨ s.sys.mode = .proof)) : rwBlock side q s = s := by
  have hidle : rwIdle side q s = true := by simpa [rwIdle] using Or.inr h
  unfold rwBlock
  extract_lets c i r
  cases r.ready with
  | nil => rfl
  | cons b rest => exact if_pos hidle

section

variable (hside : side < 2) (hq : q < 4) (hon : s.sys.mode = .inline ∨ s.sys.mode = .proof) (hr : (rwSlot side q s).ready = (n, sum) :: more)
include hside hq hon

theorem rwIdle_false : ¬ rwIdle side q s = true := by
  have hslot : (decide (2 ≤ side) || decide (4 ≤ q)) = false := by
    rw [decide_eq_false (Nat.not_le.mpr hside), decide_eq_false (Nat.not_le.mpr hq)]
    rfl
  have hmode : (decide (s.sys.mode = .inline) || decide (s.sys.mode = .proof)) = true := by
    rw [Bool.or_eq_true, decide_eq_true_eq, decide_eq_true_eq]
    exact hon
  rw [rwIdle, hslot, hmode]
  exact Bool.false_ne_true

include hr

/-- The first block, or the one after a re-reference, sets RW_REF. -/
theorem rwBlock_references (href : (rwSlot side q s).ref = 0 ∨ (rwSlot side q s).reref = true) :
    rwBlock side q s = { rwTook side q [4, 7] { rwSlot side q s with ready := more, ref := rnd sum n, reref := false } s with cal := { s.cal with rwRejecting := false } } := by
  have hfirst : (decide ((rwSlot side q s).ref = 0) || (rwSlot side q s).reref) = true := by simpa using href
  unfold rwBlock
  extract_lets c i r
  rw [show r.ready = (n, sum) :: more from hr]
  exact (if_neg (rwIdle_false hside hq hon)).trans (if_pos hfirst)

/-- A later block is rejected where it calls for a W out of range (R251), and else moves W and reports (R184). -/
theorem rwBlock_later (href : (rwSlot side q s).ref ≠ 0) (hreref : (rwSlot side q s).reref = false) :
    rwBlock side q s =
      if rwBeyond s.banks.live.sv (rwWanted (rwSlot side q s) (rnd sum n)) then rwRejected side q (rwTook side q [4, 6] { rwSlot side q s with ready := more } s)
      else calDone 2 0 0 side q 255 0 (calResult 2 0 0 (rwMoved side q more (rnd sum n) s)) := by
  have hlater : ¬ (decide ((rwSlot side q s).ref = 0) || (rwSlot side q s).reref) = true := by simp [href, hreref]
  unfold rwBlock
  extract_lets c i r
  rw [show r.ready = (n, sum) :: more from hr]
  exact (if_neg (rwIdle_false hside hq hon)).trans (if_neg hlater)

end

end

/-! ### Stored lines and output lines (R194, R196) -/

section

variable {s : State} {l : GridLine} {rest : List GridLine}

/-- Lines that the session has put out, or does not put out (R105), no longer wait. -/
def forgetPassed (s : State) : State := { s with aln := { s.aln with lines := s.aln.lines.filter (fun l => decide (s.dlv.nextOut ≤ l.line)) } }

/-- A stored line whose exposure is over enters the window. -/
theorem mem_win_returnStored (w : WinTpl) (s : State) : w ∈ (returnStored s).aln.win ↔ w ∈ s.aln.win ∨ (w ∈ s.aln.store ∧ exposureOver s w.due = true) := by
  unfold returnStored
  split
  next hempty => simp [List.isEmpty_iff.mp hempty]
  next => simp

/-- Any other stays in the store. -/
theorem mem_store_returnStored (w : WinTpl) (s : State) : w ∈ (returnStored s).aln.store ↔ w ∈ s.aln.store ∧ exposureOver s w.due = false := by
  unfold returnStored
  split
  next hempty => simp [List.isEmpty_iff.mp hempty]
  next => simp

theorem returnStored_lines (s : State) : (returnStored s).aln.lines = s.aln.lines := by
  unfold returnStored
  split <;> rfl

theorem outputLine_none (h : (forgetPassed s).aln.lines = []) : outputLine s = returnStored (forgetPassed s) := by
  have hlines : (returnStored (forgetPassed s)).aln.lines = [] := (returnStored_lines _).trans h
  unfold outputLine
  extract_lets old v
  rw [show v.aln.lines = [] from hlines]
  rfl

/-- A line that lacks a candidate is not put out yet. -/
theorem outputLine_waits (h : (forgetPassed s).aln.lines = l :: rest) (hready : lineReady (returnStored (forgetPassed s)) l.line = false) :
    outputLine s = returnStored (forgetPassed s) := by
  have hlines : (returnStored (forgetPassed s)).aln.lines = l :: rest := (returnStored_lines _).trans h
  have hwait : (!lineReady (returnStored (forgetPassed s)) l.line) = true := by rw [hready]; rfl
  unfold outputLine
  extract_lets old v
  rw [show v.aln.lines = l :: rest from hlines]
  exact if_pos hwait

theorem outputLine_emits {d : Datum} (h : (forgetPassed s).aln.lines = l :: rest) (hready : lineReady (returnStored (forgetPassed s)) l.line = true)
    (hd : datumById (returnStored (forgetPassed s)) l.rid = some d) :
    outputLine s = emitLine l d { returnStored (forgetPassed s) with aln := { (returnStored (forgetPassed s)).aln with lines := rest } } := by
  have hlines : (returnStored (forgetPassed s)).aln.lines = l :: rest := (returnStored_lines _).trans h
  have hgo : ¬ (!lineReady (returnStored (forgetPassed s)) l.line) = true := by rw [hready]; exact Bool.false_ne_true
  unfold outputLine
  extract_lets old v
  rw [show v.aln.lines = l :: rest from hlines]
  refine (if_neg hgo).trans ?_
  rw [show datumById v l.rid = some d from hd]
  rfl

theorem emitLine_nextOut (l : GridLine) (d : Datum) (s : State) : (emitLine l d s).dlv.nextOut = l.line + 1 := rfl

/-! ### Errors of the stagger store and remapped rows (R195) -/

variable {p q k row : Nat}

theorem staggerLost_absent (h : ∀ w ∈ s.aln.store, w.port = p → w.slot = q → w.line = k → w.absent = true) : staggerLost p q k s = s := by
  refine if_neg (fun hany => ?_)
  obtain ⟨w, hw, hthis⟩ := List.any_eq_true.mp hany
  simp only [Bool.and_eq_true, beq_iff_eq, Bool.not_eq_true'] at hthis
  obtain ⟨⟨⟨hp, hq⟩, hk⟩, hpresent⟩ := hthis
  exact Bool.false_ne_true (hpresent.symm.trans (h w hw hp hq hk))

theorem staggerLost_present (h : ∃ w ∈ s.aln.store, w.port = p ∧ w.slot = q ∧ w.line = k ∧ w.absent = false) :
    staggerLost p q k s = { s with aln := { s.aln with store := s.aln.store.map (fun w => if w.port == p && w.slot == q && w.line == k then { w with absent := true, y := [] } else w), stDbe := satInc 32 s.aln.stDbe } } := by
  obtain ⟨w, hw, hp, hq, hk, hpresent⟩ := h
  exact if_pos (List.any_eq_true.mpr ⟨w, hw, by simp [hp, hq, hk, hpresent]⟩)

theorem rowRemap_moves (hex : row ∈ s.mem.excluded) (hring : row * 4096 < 0x80000000) (hnew : row ∉ s.mem.moved) :
    rowRemap row s = { s with mem := { s.mem with moved := s.mem.moved ++ [row], remapped := s.mem.remapped + 1 } } :=
  if_pos (by simp [hex, hring, hnew])

theorem rowRemap_keeps (h : row ∉ s.mem.excluded ∨ 0x80000000 ≤ row * 4096 ∨ row ∈ s.mem.moved) : rowRemap row s = s := by
  refine if_neg (fun hall => ?_)
  simp only [Bool.and_eq_true, Bool.not_eq_true', decide_eq_true_eq, List.contains_eq_mem, decide_eq_false_iff_not] at hall
  obtain ⟨⟨hex, hring⟩, hnew⟩ := hall
  rcases h with h | h | h
  · exact h hex
  · exact Nat.not_lt.mpr h hring
  · exact hnew h

end

/-- Settles O50: a block end is its case of the term's block, and an output line its case of the lines that wait. -/
theorem runningWhiteAndOutputLines : Obligations.RunningWhiteAndOutputLines := by
  unfold Obligations.RunningWhiteAndOutputLines
  refine ⟨?white, ?lines⟩
  case white =>
    intro t side q n sum more s u c i r m wt step counts on hside hq
    refine ⟨fun h => ?rests, fun hon hr href => ?references, fun hon hr href hreref hout => ?rejects, fun hon hr href hreref hmin hmax => ?moves⟩
    case rests =>
      rw [exec_runningWhiteBlock]
      rcases h with h | h
      · rw [rwBlock_noBlock h]
      · rw [rwBlock_otherMode h]
    case references =>
      rw [exec_runningWhiteBlock, rwBlock_references hside hq hon hr href]
      rfl
    case rejects =>
      have hbeyond : rwBeyond u.banks.live.sv (rwWanted (rwSlot side q u) (rnd sum n)) = true := rwBeyond_iff.mpr hout
      rw [exec_runningWhiteBlock, rwBlock_later hside hq hon hr href hreref, if_pos hbeyond]
      rfl
    case moves =>
      have hwithin : ¬ rwBeyond u.banks.live.sv (rwWanted (rwSlot side q u) (rnd sum n)) = true :=
        fun h => (rwBeyond_iff.mp h).elim (Int.not_lt.mpr hmin) (Int.not_lt.mpr hmax)
      refine ⟨rwMoved side q more m u, ?_, rwMoved_rw side q more m u, rwMoved_rwGen side q more m u, rwMoved_counters side q more m u, rwMoved_banks side q more m u⟩
      rw [exec_runningWhiteBlock, rwBlock_later hside hq hon hr href hreref, if_neg hwithin]
  case lines =>
    intro t p q k row l rest d s u lines v
    refine ⟨fun w => ⟨mem_win_returnStored w (forgetPassed u), mem_store_returnStored w (forgetPassed u)⟩, fun h => ?none, fun h hready => ?waits, fun h hready hd => ⟨?emits, emitLine_nextOut l d _⟩,
      ⟨staggerLost p q k u, exec_staggerDbe .., staggerLost_absent, staggerLost_present⟩, fun hex hring hnew => ?remaps, fun h => ?keeps⟩
    case none =>
      rw [exec_outputLine, outputLine_none h]
      rfl
    case waits =>
      rw [exec_outputLine, outputLine_waits h hready]
      rfl
    case emits =>
      rw [exec_outputLine, outputLine_emits h hready hd]
      rfl
    case remaps => rw [exec_hbmRowRemap, rowRemap_moves hex hring hnew]
    case keeps => rw [exec_hbmRowRemap, rowRemap_keeps h]

end Sys2Proof.Machine
end

/-! The settings of the calibration limits and of the lamps (R235, R370, R394, R396, R411). -/
section

namespace Sys2Proof.Machine

open Sys2Proof Sys2Proof.Safety

@[simp] theorem answered_cal (src : Nat) (d : List Byte) (s : State) : (answered src d s).cal = s.cal := by
  obtain ⟨h, o, e⟩ := answered_frame src d s
  rw [e]

@[simp] theorem answered_lamp (src : Nat) (d : List Byte) (s : State) : (answered src d s).lamp = s.lamp := by
  obtain ⟨h, o, e⟩ := answered_frame src d s
  rw [e]

@[simp] theorem answered_flt (src : Nat) (d : List Byte) (s : State) : (answered src d s).flt = s.flt := by
  obtain ⟨h, o, e⟩ := answered_frame src d s
  rw [e]

/-- A command row that is not its read form, is legal, passes its checks and is done at once answers OK, and then acts. -/
theorem exec_settles {c : Instr} {s u e : State} {src op len : Nat} {k : Cmd} {act : State → State} (hu : s.at c.time = u) (ha : asks op len src u = true)
    (hc : rowCmd c = some (src, k)) (ho : k.opcode = op) (hl : k.len = fixedLen len) (hall : u.sys.mode.all = true) (hm : k.modes u.sys.mode = true)
    (hk : k.run (latchedReq u src) u = .ok { act := act }) (he : act (answered src [] u) = e) : exec c s = .next (after c.time s e) := by
  subst hu he
  obtain ⟨hh, hread⟩ := asks_iff.mp ha
  exact exec_done (d := { act := act }) hc hh ho (by rw [hread, Bool.and_false]) (hl ▸ fixedLen_eq_none) (legal_all hall hm) hk rfl rfl

/-! ### Strings and slices -/

/-- One change of a run of strings writes their records and nothing else. -/
theorem foldl_modStr (f : LampStr → LampStr) (i : Nat → Nat) (l : List Nat) (s : State) :
    l.foldl (fun s j => modStr (i j) f s) s =
      { s with lamp := { s.lamp with strs := l.foldl (fun m j => tset {} (i j) (f (tget {} (i j) m)) m) s.lamp.strs } } := by
  induction l generalizing s with
  | nil => rfl
  | cons j l ih => exact ih _

/-- The slices of a group that are enabled owe their GROUP_MAP, and nothing else changes (R411). -/
theorem foldl_mapDue (l : List Nat) (s : State) :
    l.foldl (fun s n => if (lampSlice s n).enable = 1 then modSlice n (fun a => { a with mapDue := true }) s else s) s =
      { s with lamp := { s.lamp with slices := l.foldl (fun m n => if (tget {} n m).enable = 1 then tset {} n { tget {} n m with mapDue := true } m else m) s.lamp.slices } } := by
  induction l generalizing s with
  | nil => rfl
  | cons n l ih =>
    rw [List.foldl_cons, List.foldl_cons, ih, lampSlice]
    split <;> rfl

/-! ### LAMP_CURVE (R394) -/

/-- A curve that needs no table, for one string in the PWM mode that it has: the string alone takes its new settings, and its last curve acts until the next round. -/
theorem applyCurve_one {r : Req} {s : State} (hn : r.u16 2 = 1) (hcurve : r.u8 4 < 2) (hpwm : (lampStr s (r.u16 0)).pwm = r.enum 5 2 0) :
    applyCurve r s = modStr (r.u16 0) (fun x => { x with curve := r.u8 4, gamma := clampN (r.u16 6) 16384 49152, fadeMs := Nat.min (r.u32 8) 65000, table := [], tableAt := r.u32 0x0C, before := some (x.before.getD (x.curve, x.gamma, x.table)) }) s := by
  have hform : r.enum 4 3 0 = r.u8 4 := if_pos (by omega)
  have htable : r.u8 4 ≠ 2 := by omega
  simp [applyCurve, hn, hform, htable, ← hpwm, modStr]

/-! ### LAMP_MAP (R370, R411) -/

/-- What a LAMP_MAP leaves alone: the groups that are off, the safety groups, and every fault but the open strings'. -/
def MapKeeps (u e : State) : Prop :=
  e.lamp.off = u.lamp.off ∧ e.lamp.safety = u.lamp.safety ∧ ∀ n, n ≠ 0x0301 → ∀ x, faultActive e n x = faultActive u n x

theorem faultActive_clearFault_other {code res n x : Nat} (h : n ≠ code) (s : State) : faultActive (clearFault code res s) n x = faultActive s n x := by
  simp only [faultActive, clearFault, List.any_filter]
  refine congrArg (s.flt.active.any ·) (funext fun a => ?_)
  by_cases ha : a.code = n <;> simp [ha, h]

theorem applyMap_keeps (n enable : Nat) (es : List (Nat × Nat × Nat)) (u : State) : MapKeeps u (applyMap n enable es u) := by
  have hstrings : MapKeeps u ((List.range 8).foldl (fun s k =>
      let e := es.getD k (255, 255, 254)
      clearFault 0x0301 (8 * n + k)
        (modStr (8 * n + k) (fun t => { t with slot := e.1, group := e.2.1, temp := e.2.2, latched := false, retired := false, retryAt := none, retried := 0, faults := 0 }) s)) u) := by
    refine List.foldlRecOn _ _ ⟨rfl, rfl, fun _ _ _ => rfl⟩ ?_
    rintro s ⟨hoff, hsafety, hfaults⟩ k -
    exact ⟨hoff, hsafety, fun m hm x => (faultActive_clearFault_other hm _).trans (hfaults m hm x)⟩
  unfold applyMap
  split
  · exact hstrings
  · exact hstrings

theorem mapEntries_any_bad {r : Req} (h : ∀ k, k < 8 → r.u8 (5 + 4 * k) < 8 ∨ r.u8 (5 + 4 * k) = 255) :
    (mapEntries r).any (fun e => decide (8 ≤ e.2.1) && e.2.1 != 255) = false := by
  simp only [mapEntries, List.any_map, List.any_eq_false, List.mem_range]
  intro k hk
  have hgroup : r.u8 (4 + 4 * k + 1) < 8 ∨ r.u8 (4 + 4 * k + 1) = 255 := by
    rw [show 4 + 4 * k + 1 = 5 + 4 * k by omega]
    exact h k hk
  simp only [Function.comp_apply, Bool.and_eq_true, decide_eq_true_eq, bne_iff_ne]
  omega

/-! ### The checks of the requests -/

section

variable {r : Req} {s : State}

theorem lampCurve_judged (hrange : r.u16 0 + r.u16 2 ≤ 512) (harea : r.u8 4 ≠ 2 ∨ r.u32 0x0C + 2048 ≤ 64 * 2 ^ 20) :
    cmdLampCurve.run r s = .ok { act := applyCurve r } := by
  have hout : ¬ 512 < r.u16 0 + r.u16 2 := by omega
  have hok : ¬ (decide (r.enum 4 3 0 = 2) && !areaOk (r.u32 0x0C) 2048 1) = true := by
    rcases harea with h | h
    · have hform : r.enum 4 3 0 ≠ 2 := by
        unfold Req.enum
        split <;> omega
      simp [hform]
    · have hfits : areaOk (r.u32 0x0C) 2048 1 = true := by simp only [areaOk, Nat.mod_one, beq_self_eq_true, decide_eq_true h, Bool.and_self]
      simp [hfits]
  exact (if_neg hout).trans (if_neg hok)

theorem lampDerate_judged (hrange : r.u16 0 + r.u16 2 ≤ 512) :
    cmdLampDerate.run r s = .ok { act := fun s => (List.range (r.u16 2)).foldl (fun s j => modStr (r.u16 0 + j) (fun x => { x with knee := (derateTemps r).1, floorT := (derateTemps r).2.1, offT := (derateTemps r).2.2.1, onT := (derateTemps r).2.2.2, floor := r.u16 0x0C }) s) s } :=
  if_neg (by omega)

theorem lampGroup_judged (hg : r.u8 0 < 8) :
    cmdLampGroup.run r s = .ok { act := fun s =>
      let s := { s with lamp.safety := setBit s.lamp.safety (r.u8 0) (r.flag 1 == 1) }
      (((groupStrings s (r.u8 0)).map (fun i => i / 8)).eraseDups).foldl (fun s n => if (lampSlice s n).enable = 1 then modSlice n (fun a => { a with mapDue := true }) s else s) s } :=
  if_neg (by omega)

theorem lampMap_judged (hn : r.u8 0 < 64) (hgroups : ∀ k, k < 8 → r.u8 (5 + 4 * k) < 8 ∨ r.u8 (5 + 4 * k) = 255) :
    cmdLampMap.run r s = .ok { act := applyMap (r.u8 0) (r.flag 1) (mapEntries r) } := by
  have hslice : ¬ 64 ≤ r.u8 0 := by omega
  exact (if_neg hslice).trans (if_neg (Bool.not_eq_true _ ▸ mapEntries_any_bad hgroups))

end

/-- Settles O20: each row passes its checks, and the answer leaves alone the settings that it then writes. -/
theorem lampSettingsActAtOnce : Obligations.LampSettingsActAtOnce := by
  unfold Obligations.LampSettingsActAtOnce
  intro t src s u r hall
  refine ⟨fun ha => ?limits, fun ha hrange harea => ?curve, fun ha hi hn hform hpwm => ?oneCurve, fun ha hrange => ?derate, fun ha hquiet hg => ?group, fun ha hquiet hn hgroups => ?map⟩
  case limits =>
    refine exec_settles (c := .calLimits t src) (u := u) rfl ha rfl rfl rfl hall hall rfl ?_
    simp only [answered_cal]
    rfl
  case curve => exact exec_settles (c := .lampCurve t src) (u := u) rfl ha rfl rfl rfl hall hall (lampCurve_judged hrange harea) rfl
  case oneCurve =>
    have hrange : r.u16 0 + r.u16 2 ≤ 512 := by omega
    have hstr : lampStr (answered src [] u) (r.u16 0) = lampStr u (r.u16 0) := by rw [lampStr, answered_lamp, lampStr]
    refine exec_settles (c := .lampCurve t src) (u := u) rfl ha rfl rfl rfl hall hall (lampCurve_judged hrange (.inl (Nat.ne_of_lt hform))) ((applyCurve_one hn hform (hstr ▸ hpwm)).trans ?_)
    rw [modStr, hstr, answered_lamp]
  case derate =>
    refine exec_settles (c := .lampDerate t src) (u := u) rfl ha rfl rfl rfl hall hall (lampDerate_judged hrange) ((foldl_modStr ..).trans ?_)
    rw [answered_lamp]
  case group =>
    refine exec_settles (c := .lampGroup t src) (u := u) rfl ha rfl rfl rfl hall hquiet (lampGroup_judged hg) ((foldl_mapDue ..).trans ?_)
    simp only [answered_lamp, groupStrings]
    rfl
  case map =>
    obtain ⟨hoff, hsafety, hfaults⟩ := applyMap_keeps (r.u8 0) (r.flag 1) (mapEntries r) (answered src [] u)
    refine ⟨_, exec_settles (c := .lampMap t src) (u := u) rfl ha rfl rfl rfl hall hquiet (lampMap_judged hn hgroups) rfl, rfl, hoff.trans ?_, hsafety.trans ?_, fun n h1 _ _ x => (hfaults n h1 x).trans ?_⟩
    · rw [answered_lamp]
    · rw [answered_lamp]
    · rw [faultActive, answered_flt, faultActive]

end Sys2Proof.Machine
end

/-! Calibration runs and their results (R184, R249, R250, R257): a complete block that awaits its end at CAL_RUN, and a string that is retired between its measurement and the lamp result. -/
section

namespace Sys2Proof.Machine

open Sys2Proof Sys2Proof.Safety

/-! ### Complete blocks at CAL_RUN of RUNNING_WHITE (R184, R250) -/

/-- The complete blocks of side 0, plane slot 0 that still wait for their end. -/
def blocksWaiting : Host.Outcome State Fault Refusal → List (Nat × Int)
  | .next n => (n.px.rw.getD 0 {}).ready
  | _ => []

/-- CAL_RUN of RUNNING_WHITE for plane slot 0 waits at MB0 in INLINE, while one complete block of side 0 waits for its end. -/
def blockAwaitsEnd : State :=
  { State.reset with
    sys := { mode := .inline, service := true, porN := true }
    host.mbs := State.reset.host.mbs.set 0 { state := .busy, latched := { opcode := 0x0601, flags := 0, length := 8, params := [2, 0, 0, 0, 1, 0, 0, 0] } }
    host.order := [0]
    px.rw := State.reset.px.rw.set 0 { ready := [(128, 65536)] } }

/-- The model discards the complete block with the open one. -/
theorem calRun_discards_block : blocksWaiting (exec (.calRun 0 0) blockAwaitsEnd) = [] := by decide +kernel

/-- Refutes O30: CAL_RUN of RUNNING_WHITE discards the complete blocks whose end is still to come, which the statement leaves in place beside the open one. -/
theorem not_calRunStartsItsKind : ¬ Obligations.CalRunStartsItsKind := by
  unfold Obligations.CalRunStartsItsKind
  intro h
  obtain ⟨-, -, hwhite, -⟩ := h 0 0 blockAwaitsEnd (by decide)
  have hrun := hwhite (by decide +kernel) (by decide +kernel) (.inl rfl)
  have hkept := calRun_discards_block
  rw [hrun] at hkept
  exact absurd hkept (by decide +kernel)

/-! ### The strings that a lamp result skips (R249, R257) -/

/-- The strings that CAL_STATUS lists as skipped. -/
def stringsSkipped : Host.Outcome State Fault Refusal → List Nat
  | .next n => n.cal.lampSkipped
  | _ => []

/-- A lamp run that has measured string 5 and comes to its result. -/
def measuredRun : CalRun := { kind := 1, phase := .compute, dones := [({ string := 5 }, { string := 512 })] }

/-- The run's result is to be computed in BENCH, where string 5 has been retired since. -/
def retiredSince : State :=
  { State.reset with
    sys := { mode := .bench, service := true, porN := true }
    cal.run := some measuredRun
    lamp.strs := [(5, { slot := 0, retired := true })] }

/-- The model lists the string that it has measured and now skips. -/
theorem lampResult_lists_retired : stringsSkipped (exec (.lampResult 0) retiredSince) = [5] := by decide +kernel

/-- Refutes O57: a lamp result lists a string that was measured and is skipped by the time of the result, which the statement leaves out. -/
theorem not_calibrationResultsComplete : ¬ Obligations.CalibrationResultsComplete := by
  unfold Obligations.CalibrationResultsComplete
  intro h
  obtain ⟨-, -, -, -, -, hlamp⟩ := h 0 measuredRun retiredSince
  obtain ⟨-, hpending, -⟩ := hlamp rfl rfl rfl rfl
  have hrun := hpending (by decide +kernel) rfl
  have hlisted := lampResult_lists_retired
  rw [hrun] at hlisted
  exact absurd hlisted (by decide +kernel)

end Sys2Proof.Machine
end

/-! Conversions of the auxiliary converters, and what the calibration of a converter leaves of it (R252 to R256, R453, R459, R461, R471, R472). -/
section

namespace Sys2Proof.Machine

open Sys2Proof

/-! ### The instant of a publication -/

/-- Changes of channels write their records and nothing else. -/
theorem foldl_modAux_frame (f : State → Nat → AuxCh → AuxCh) (l : List Nat) (s : State) :
    ∃ chs, l.foldl (fun s c => modAux c (f s c) s) s = { s with aux := { s.aux with chs := chs } } :=
  List.foldlRecOn l _ (motive := fun e => ∃ chs, e = { s with aux := { s.aux with chs := chs } }) ⟨_, rfl⟩
    fun _ ⟨_, he⟩ _ _ => ⟨_, by rw [he]; rfl⟩

theorem foldl_modAux_now {f : State → Nat → AuxCh → AuxCh} {l : List Nat} {s : State} : (l.foldl (fun s c => modAux c (f s c) s) s).now = s.now := by
  obtain ⟨chs, e⟩ := foldl_modAux_frame f l s
  rw [e]

theorem now_ite {p : Prop} [Decidable p] {a b s : State} (ha : a.now = s.now) (hb : b.now = s.now) : (if p then a else b).now = s.now := by
  split <;> assumption

@[simp] theorem evAux_now (kind c : Nat) (s : State) : (evAux kind c s).now = s.now := by
  obtain ⟨h, n, o, e⟩ := postLimited_frame 100000000 11 c kind (layout 16 [(0, 1, kind), (4, 4, ofS 32 (auxCh s c).value), (8, 2, auxStatus (auxCh s c))]) s
  rw [evAux, e]

@[simp] theorem ampReset_now (m tStart : Nat) (s : State) : (ampReset m tStart s).now = s.now := by
  unfold ampReset
  extract_lets a
  split
  · rfl
  · exact now_ite rfl foldl_modAux_now

@[simp] theorem cainX_now (m tStart : Nat) (code : Int) (s : State) : (cainX m tStart code s).2.now = s.now := by
  unfold cainX
  extract_lets a x term y
  split
  · rfl
  · split <;> rfl

@[simp] theorem auxEvents_now (c : Nat) (old : AuxCh) (s : State) : (auxEvents c old s).now = s.now := by
  unfold auxEvents
  extract_lets a newOpen newOvr cleared keep kept overrange stepped settled
  have hover : overrange.now = s.now := now_ite (evAux_now ..) (now_ite (evAux_now ..) rfl)
  have hstep : stepped.now = s.now := now_ite ((evAux_now ..).trans hover) hover
  have hsettled : settled.now = s.now := now_ite ((evAux_now ..).trans hstep) hstep
  exact now_ite hsettled hsettled

@[simp] theorem publish_now (c : Nat) (raw : Int) (tStart : Nat) (s : State) : (publish c raw tStart s).now = s.now := by
  unfold publish
  extract_lets cain m reset a x full code clamped r w cc
  have hreset : reset.now = s.now := now_ite (ampReset_now ..) rfl
  have hread : (if cain then cainX m tStart cc reset else (normX x false 0 cc, reset)).2.now = s.now := by
    split
    · exact (cainX_now ..).trans hreset
    · exact hreset
  generalize (if cain then cainX m tStart cc reset else (normX x false 0 cc, reset)) = result at hread ⊢
  split
  next xv read =>
  extract_lets marked quiet y
  have hmarked : marked.now = s.now := now_ite (foldl_modAux_now.trans hread) hread
  refine now_ite hmarked ?_
  split
  exact (auxEvents_now ..).trans (now_ite (foldl_modAux_now.trans hmarked) hmarked)

/-! ### Conversions of AD0 and AD1 (R453, R461) -/

section

variable {x id c settle : Nat} {raw sec : Int} {s : State}

theorem readyAt_first (hfirst : (auxConv s x).converted = false) (hj : s.aux.joint ≠ some x) :
    readyAt s x c settle = (auxConv s x).tMux + settleOf s x settle + filterLatency (auxCh s c).cfg := by
  simp [readyAt, hfirst, hj]

theorem deltaSigma_unvisited (h : visitNow s x = none) : deltaSigma x raw sec s = s := by
  simp [deltaSigma, h]

theorem deltaSigma_unsettled (h : visitNow s x = some (id, c, settle)) (hearly : s.now < readyAt s x c settle) : deltaSigma x raw sec s = s := by
  rw [deltaSigma, h]
  exact if_pos (by simp [hearly])

/-- The state once a conversion of channel c by x has its result: it is published, and x records the end of its conversion. -/
def converted (x c : Nat) (raw : Int) (s : State) : State :=
  let p := publish c raw (s.now - filterLatency (auxCh s c).cfg) s
  modConv x (fun v => { v with lastConv := s.now, converted := true, lastOvr := decide (raw < -8388608) || decide (8388608 ≤ raw) || ((auxCh p c).ovr && (auxCh p c).tEnd == some p.now) }) p

/-- A conversion outside of a check that ends its settled visit is published, and the multiplexer moves on, or the only channel converts again (R453). -/
theorem deltaSigma_settled (h : visitNow s x = some (id, c, settle)) (hon : anaOn s.sys.mode = true) (hx : x < 2) (hrun : (auxConv s x).running = none)
    (hend : (auxConv s x).ending = none) (hj : s.aux.joint = none) (hshared : sharedCh s ≠ some c) (hready : readyAt s x c settle ≤ s.now) :
    deltaSigma x raw sec s =
      if oneChannel (visits s x) then beginJoint x (modConv x (fun v => { v with muxWas := v.mux }) (converted x c raw s)) else switchTo x (visitAfter (visits s x) id) (converted x c raw s) := by
  rw [deltaSigma, h]
  refine (if_neg (by simp [hon, hrun, hend, hj, hx, hready])).trans ?_
  extract_lets full clamp check aux told pub done left
  have htold : told = s := if_pos (bne_iff_ne.mpr hshared)
  have hcheck : check = false := by simp [check, hj]
  have hleft : left = done := if_neg (by simp [hcheck])
  have hdone : done = converted x c raw s := by
    simp only [done, pub, htold, converted, publish_now]
    rfl
  rw [hleft, hdone]

end

/-! ### The slots of AD2 (R459) -/

@[simp] theorem slotUsed_now (use : Ad2Use) (s : State) : (slotUsed use s).now = s.now := by cases use <;> rfl

@[simp] theorem slotUsed_slotAt (use : Ad2Use) (s : State) : (slotUsed use s).aux.slotAt = slotIndex s + 1 := by cases use <;> rfl

/-- A slot that has been used converts nothing more. -/
theorem ad2Ends_slotUsed (use other : Ad2Use) (s : State) : ad2Ends other (slotUsed use s) = false := by
  have hindex : slotIndex (slotUsed use s) = slotIndex s := by rw [slotIndex, slotUsed_now, slotIndex]
  have hused : decide ((slotUsed use s).aux.slotAt ≤ slotIndex (slotUsed use s)) = false := by
    rw [slotUsed_slotAt, hindex]
    exact decide_eq_false (Nat.not_succ_le_self _)
  rw [ad2Ends.eq_def, hused, Bool.and_false, Bool.false_and]

/-- The use that a slot of AD2 goes to, in the order of R459; every range of a calibration stands for the first. -/
def slotOwner (s : State) : Option Ad2Use :=
  if vibSlot s then some .vibration
  else if calSlot s then some (.calibration 0)
  else match supplyDue s, houseDue s with
    | some n, _ => some (.supply n)
    | none, some n => some (if n < 8 then .dieTemp n else .rail (n - 8))
    | none, none => (nextAd2 s).map .channel

/-- A use whose conversion ends is the one that the slot goes to. -/
theorem slotOwner_of_ends {use : Ad2Use} {s : State} (h : ad2Ends use s = true) :
    slotOwner s = some use ∨ slotOwner s = some (.calibration 0) ∧ ∃ i, use = .calibration i := by
  cases use <;> simp only [ad2Ends, Bool.and_eq_true, Bool.not_eq_true', beq_iff_eq] at h
  case vibration =>
    obtain ⟨-, hvib⟩ := h
    exact .inl (if_pos hvib)
  case calibration i =>
    obtain ⟨-, ⟨hvib, hcal⟩, -⟩ := h
    exact .inr ⟨by simp [slotOwner, hvib, hcal], i, rfl⟩
  case supply n =>
    obtain ⟨-, ⟨hvib, hcal⟩, hdue⟩ := h
    exact .inl (by simp [slotOwner, hvib, hcal, hdue])
  case dieTemp n =>
    obtain ⟨-, ⟨⟨⟨hvib, hcal⟩, hsupply⟩, hn⟩, hdue⟩ := h
    exact .inl (by simp [slotOwner, hvib, hcal, hsupply, hdue, of_decide_eq_true hn])
  case rail n =>
    obtain ⟨-, ⟨⟨hvib, hcal⟩, hsupply⟩, hdue⟩ := h
    exact .inl (by simp [slotOwner, hvib, hcal, hsupply, hdue])
  case channel c =>
    obtain ⟨-, ⟨⟨⟨⟨hvib, hcal⟩, hsupply⟩, hhouse⟩, hnext⟩, -⟩ := h
    exact .inl (by simp [slotOwner, hvib, hcal, hsupply, hhouse, hnext])

/-- Two uses whose conversion ends in one slot are one, or both belong to the self-calibration. -/
theorem ad2Ends_unique {use other : Ad2Use} {s : State} (h : ad2Ends use s = true) (h' : ad2Ends other s = true) :
    use = other ∨ ∃ i j, use = .calibration i ∧ other = .calibration j := by
  rcases slotOwner_of_ends h with hu | ⟨hu, i, rfl⟩ <;> rcases slotOwner_of_ends h' with ho | ⟨ho, j, rfl⟩
  · exact .inl (Option.some.inj (hu.symm.trans ho))
  · exact .inr ⟨0, j, Option.some.inj (hu.symm.trans ho), rfl⟩
  · exact .inr ⟨i, 0, rfl, Option.some.inj (ho.symm.trans hu)⟩
  · exact .inr ⟨i, j, rfl, rfl⟩

/-! ### What the end of a self-calibration leaves of a converter (R253, R255) -/

/-- The converters there are, the calibration that x runs, its coefficients and its refusals. -/
def convView (x : Nat) (s : State) : Nat × Option (List Nat) × Tbl RangeCoef × Nat :=
  (s.aux.convs.length, (auxConv s x).running, (auxConv s x).coefs, (auxConv s x).refusals)

@[simp] theorem convView_emit (x : Nat) (o : Out) (s : State) : convView x (emit o s) = convView x s := rfl

@[simp] theorem convView_clearFault (x code res : Nat) (s : State) : convView x (clearFault code res s) = convView x s := rfl

@[simp] theorem convView_calResult (x kind status checks : Nat) (s : State) : convView x (calResult kind status checks s) = convView x s := rfl

theorem auxConv_modConv_same {x : Nat} (f : Converter → Converter) {s : State} (h : x < s.aux.convs.length) : auxConv (modConv x f s) x = f (auxConv s x) := by
  simp [auxConv, modConv, nmod, List.getD_eq_getElem?_getD, h]

theorem auxConv_modConv_other {x y : Nat} (f : Converter → Converter) {s : State} (h : x ≠ y ∨ s.aux.convs.length ≤ x) : auxConv (modConv y f s) x = auxConv s x := by
  rcases h with h | h
  · simp [auxConv, modConv, nmod, List.getD_eq_getElem?_getD, List.getElem?_set_ne h.symm]
  · simp [auxConv, modConv, nmod, List.getD_eq_getElem?_getD, h]

theorem convView_modConv_same {x : Nat} (f : Converter → Converter) {s : State} (h : x < s.aux.convs.length) :
    convView x (modConv x f s) = (s.aux.convs.length, (f (auxConv s x)).running, (f (auxConv s x)).coefs, (f (auxConv s x)).refusals) := by
  rw [convView, auxConv_modConv_same f h]
  simp [nmod]

/-- A change of a converter that leaves its calibration alone. -/
theorem convView_modConv {x y : Nat} {f : Converter → Converter} {s : State}
    (hf : ∀ k, (f k).running = k.running ∧ (f k).coefs = k.coefs ∧ (f k).refusals = k.refusals) : convView x (modConv y f s) = convView x s := by
  obtain ⟨hrun, hcoefs, hrefusals⟩ := hf (auxConv s y)
  by_cases hxy : x = y ∧ x < s.aux.convs.length
  · obtain ⟨rfl, hx⟩ := hxy
    rw [convView_modConv_same f hx, hrun, hcoefs, hrefusals, convView]
  · rw [convView, auxConv_modConv_other f (by omega), convView]
    simp [nmod]

theorem convView_ite {x : Nat} {p : Prop} [Decidable p] {a b s : State} (ha : convView x a = convView x s) (hb : convView x b = convView x s) :
    convView x (if p then a else b) = convView x s := by
  split <;> assumption

theorem convView_foldl_modAux {x : Nat} {f : State → Nat → AuxCh → AuxCh} {l : List Nat} {s : State} :
    convView x (l.foldl (fun s c => modAux c (f s c) s) s) = convView x s := by
  obtain ⟨chs, e⟩ := foldl_modAux_frame f l s
  rw [e]
  rfl

@[simp] theorem convView_setMux (x y : Nat) (m : MuxSet) (s : State) : convView x (setMux y m s) = convView x s :=
  convView_modConv fun _ => ⟨rfl, rfl, rfl⟩

@[simp] theorem convView_muxOff (x y : Nat) (s : State) : convView x (muxOff y s) = convView x s :=
  convView_ite rfl (convView_setMux ..)

@[simp] theorem convView_placeMux (x y : Nat) (s : State) : convView x (placeMux y s) = convView x s := by
  have hplaced : convView x (modConv y (fun k => { k with tMux := s.now, converted := false }) s) = convView x s := convView_modConv fun _ => ⟨rfl, rfl, rfl⟩
  unfold placeMux
  extract_lets placed
  split
  · exact (convView_setMux ..).trans hplaced
  · exact (convView_muxOff ..).trans hplaced

@[simp] theorem convView_leaveJoint (x : Nat) (s : State) : convView x (leaveJoint s) = convView x s := by
  unfold leaveJoint
  split
  · exact convView_placeMux ..
  · rfl

@[simp] theorem convView_beginJoint (x p : Nat) (s : State) : convView x (beginJoint p s) = convView x s := by
  unfold beginJoint
  split
  · extract_lets started both aux
    have hstarted : convView x started = convView x s := convView_modConv fun _ => ⟨rfl, rfl, rfl⟩
    have hboth : convView x both = convView x started := convView_modConv fun _ => ⟨rfl, rfl, rfl⟩
    exact (convView_setMux ..).trans (hboth.trans hstarted)
  · rfl

@[simp] theorem convView_switchTo (x y : Nat) (v : Option Nat) (s : State) : convView x (switchTo y v s) = convView x s := by
  have hmoved : convView x (modConv y (fun k => { k with visit := v, ending := none }) s) = convView x s := convView_modConv fun _ => ⟨rfl, rfl, rfl⟩
  unfold switchTo
  extract_lets moved
  split
  · refine convView_ite ?_ hmoved
    rw [convView_beginJoint, convView_placeMux, convView_leaveJoint, hmoved]
  · rw [convView_beginJoint, convView_placeMux, hmoved]

/-! ### Self-calibrations (R252 to R256) -/

section

variable {x : Nat} {s : State}

theorem lt_convs_of_running {used : List Nat} (h : (auxConv s x).running = some used) : x < s.aux.convs.length := by
  refine Nat.lt_of_not_le fun hx => ?_
  simp [auxConv, List.getD_eq_getElem?_getD, hx] at h

theorem endSelfCal_idle {ranges : List CalRange} (h : (auxConv s x).running = none) : endSelfCal x ranges s = s := by
  rw [endSelfCal, h]

/-- A range whose conversions are missing holds the calibration up. -/
theorem endSelfCal_waits {used : List Nat} {ranges : List CalRange} (h : (auxConv s x).running = some used) (hmiss : ∃ i ∈ used, ∀ r ∈ ranges, r.range ≠ i) :
    endSelfCal x ranges s = s := by
  obtain ⟨i, hi, hnone⟩ := hmiss
  rw [endSelfCal, h]
  refine if_pos (Nat.ne_of_lt (List.length_filterMap_lt_length_iff_exists.mpr ⟨i, hi, ?_⟩))
  simpa [List.find?_eq_none] using fun r hr hri => absurd hri (hnone r hr)

/-- The conversions of the one range that x calibrates end its calibration; an accepted one puts its coefficients in force and forgets the refusals. -/
theorem endSelfCal_one {r : CalRange} (h : (auxConv s x).running = some [r.range]) (hzero : r.zero.length = 16) (href : r.ref.length = 16) :
    let z := rangeChecks (auxConv s x).limits x r
    ∃ e : State, endSelfCal x [r] s = kickSelfCal (completeAll (ofOpRes 0x0601 (3 + x)) (if z.1 = 0 then 0 else 0x20) z.1 (evCalDone (3 + x) (if z.1 = 0 then 0 else 0x20) z.1 0 0 0 0 0 0 0 e)) ∧
      (z.1 = 0 → convView x e = (s.aux.convs.length, none, tset {} r.range z.2 (auxConv s x).coefs, 0)) := by
  intro z
  have hfound : [r.range].filterMap (fun i => [r].find? (fun r => r.range == i && r.zero.length == 16 && r.ref.length == 16)) = [r] := by simp [hzero, href]
  obtain ⟨ended, hended⟩ : ∃ ended, endSelfCal x [r] s = ended := ⟨_, rfl⟩
  rw [hended]
  rw [endSelfCal, h] at hended
  replace hended := hended.symm.trans (if_neg (by rw [hfound]; exact not_not_intro rfl))
  rw [hfound] at hended
  extract_lets res checks chans freed held moved old ramped aux shared taken returned bad cal listed refused outcome told at hended
  have hchecks : checks = z.1 := Nat.zero_or _
  rw [← hchecks]
  refine ⟨outcome, hended, fun hok => ?_⟩
  have hfreed : convView x freed = (s.aux.convs.length, none, (auxConv s x).coefs, (auxConv s x).refusals) := convView_modConv_same _ (lt_convs_of_running h)
  have hheld : convView x held = convView x freed := convView_ite rfl convView_foldl_modAux
  have hmoved : convView x moved = convView x held := convView_ite rfl (convView_switchTo ..)
  have hramped : convView x ramped = convView x moved := convView_foldl_modAux
  have hshared : convView x shared = convView x ramped := by
    simp only [shared]
    split
    · exact convView_ite rfl rfl
    · rfl
  clear_value shared
  obtain ⟨hlen, hrun, hcoefs, -⟩ : shared.aux.convs.length = s.aux.convs.length ∧ (auxConv shared x).running = none ∧ (auxConv shared x).coefs = (auxConv s x).coefs ∧
      (auxConv shared x).refusals = (auxConv s x).refusals := by
    simpa only [convView, Prod.mk.injEq] using ((hshared.trans hramped).trans (hmoved.trans hheld)).trans hfreed
  have htaken : convView x taken = (s.aux.convs.length, none, tset {} r.range z.2 (auxConv s x).coefs, 0) := by
    rw [convView_modConv_same _ (hlen ▸ lt_convs_of_running h), hlen, hrun, hcoefs]
    rfl
  calc convView x outcome = convView x (calResult (3 + x) 0 0 returned) := congrArg (convView x) (if_pos hok)
    _ = convView x returned := convView_calResult ..
    _ = convView x taken := convView_ite (convView_modConv fun _ => ⟨rfl, rfl, rfl⟩) rfl
    _ = _ := htaken

/-- A converter that is due while it runs no calibration asks for one; AD1 leaves the first turn to AD0 (R253). -/
theorem selfCalDue_asks (hon : anaOn s.sys.mode = true) (hx : x < 3) (hdue : autoDue s x = true) (hrun : (auxConv s x).running = none) (hne : x ≠ 1) :
    selfCalDue x s = askSelfCal x s := by
  simp [selfCalDue, hon, hx, hdue, hrun, hne]

theorem selfCalDue_keeps (h : autoDue s x = false ∨ (auxConv s x).running.isSome = true ∨ 3 ≤ x) : selfCalDue x s = s := by
  refine if_neg ?_
  simp only [Bool.and_eq_true, decide_eq_true_eq, Option.isNone_iff_eq_none]
  rintro ⟨⟨⟨⟨-, hx⟩, hdue⟩, hrun⟩, -⟩
  rcases h with h | h | h
  · exact Bool.false_ne_true (h.symm.trans hdue)
  · rw [hrun] at h
    exact Bool.false_ne_true h
  · omega

/-! ### Retirement of a converter (Table 16.4) -/

theorem adcRetired_keeps (h : anaOn s.sys.mode = false ∨ (auxConv s x).retired = true) : adcRetired x s = s :=
  if_pos (by rcases h with h | h <;> simp [h])

theorem adcRetired_retires (hon : anaOn s.sys.mode = true) (hret : (auxConv s x).retired = false)
    (h : x < 2 ∧ s.aux.suspect = true ∧ (auxConv s x).suspectSince + 60000000000 ≤ s.now ∨ x = 2 ∧ (auxConv s x).lastConv + 10000000 ≤ s.now) :
    adcRetired x s = retireConv x s := by
  refine (if_neg (by simp [hon, hret])).trans ?_
  rcases h with ⟨hx, hsuspect, hlong⟩ | ⟨rfl, hlong⟩
  · exact if_pos (by simp [hx, hsuspect, hlong])
  · exact (if_neg (by simp)).trans (if_pos (by simp [hlong]))

end

/-! ### Channels: overload, staleness, open inputs and trims (R454, R466, R470) -/

section

variable {c n : Nat} {s : State}

theorem overload_keeps (h : 2 ≤ n ∨ vexLevel s n = 0) : overload n s = s :=
  if_pos (by rcases h with h | h <;> simp [h])

/-- The overload of a source that is on switches it off and raises the fault; until then the faults stay as they are. -/
theorem overload_raises (hon : anaOn s.sys.mode = true) (hn : n < 2) (hlevel : vexLevel s n ≠ 0) :
    ∃ e : State, overload n s = raise 0x0503 n e ∧ e.aux.overload = s.aux.overload.set n true ∧ e.flt = s.flt := by
  refine ⟨_, if_neg (by simp [hon, hn, hlevel]), ?_⟩
  exact List.foldlRecOn _ _ (motive := fun e : State => e.aux.overload = s.aux.overload.set n true ∧ e.flt = s.flt) ⟨rfl, rfl⟩ fun _ he _ _ => he

theorem staleEvent_tells (hon : (auxCh s c).cfg.enable = 1) (hstale : (auxCh s c).stale = true) (hnew : (auxCh s c).raised.testBit 3 = false)
    (hrun : (auxConv s (auxCh s c).cfg.conv).running = none) (hana : anaOn s.sys.mode = true) (hlong : (auxCh s c).staleSince + 1000000000 ≤ s.now) :
    staleEvent c s = evAux 4 c (modAux c (fun a => { a with raised := a.raised ||| 8 }) s) :=
  if_pos (by simp [bit, hon, hstale, hnew, hrun, hana, hlong])

theorem staleEvent_waits (h : s.now < (auxCh s c).staleSince + 1000000000) : staleEvent c s = s := by
  refine if_neg ?_
  simp only [Bool.and_eq_true, decide_eq_true_eq]
  rintro ⟨⟨-, hlong⟩, -⟩
  omega

theorem auxOpenFault_raises (hopen : (auxCh s c).open' = true) (hnew : faultActive s 0x0504 c = false) (hlong : (auxCh s c).openSince + 10000000000 ≤ s.now) :
    auxOpenFault c s = raise 0x0504 c s :=
  if_pos (by simp [hopen, hnew, hlong])

theorem auxOpenFault_waits (h : s.now < (auxCh s c).openSince + 10000000000) : auxOpenFault c s = s := by
  refine if_neg ?_
  simp only [Bool.and_eq_true, decide_eq_true_eq]
  rintro ⟨⟨-, hlong⟩, -⟩
  omega

theorem endAuxCal_idle (h : (auxCh s c).cal = none) : endAuxCal c s = s := by
  rw [endAuxCal, h]

variable {q : AuxCal} (h : (auxCh s c).cal = some q)

include h

theorem endAuxCal_waits (hfew : q.ys.length < q.samples) (hbound : s.now < q.deadline) : endAuxCal c s = s := by
  rw [endAuxCal, h]
  exact (if_neg (by omega)).trans (if_neg (by omega))

theorem endAuxCal_times_out (hfew : q.ys.length < q.samples) (hbound : q.deadline ≤ s.now) :
    endAuxCal c s = complete (ofOpRes 0x0B05 c) 0x40 1 0 (modAux c (fun a => { a with cal := none }) s) := by
  rw [endAuxCal, h]
  exact (if_neg (by omega)).trans (if_pos hbound)

/-- A calibration that has its samples puts its trim in force where its checks pass. -/
theorem endAuxCal_accepts (hall : q.samples ≤ q.ys.length) (hok : (auxCalResult s.cal.limits (auxCh s c) q).1 = 0) :
    endAuxCal c s = complete (ofOpRes 0x0B05 c) 0 0 0 (startTrim c (auxCalResult s.cal.limits (auxCh s c) q).2 (modAux c (fun a => { a with cal := none }) s)) := by
  rw [endAuxCal, h]
  exact (if_pos hall).trans (if_pos hok)

theorem endAuxCal_refuses (hall : q.samples ≤ q.ys.length) (hbad : (auxCalResult s.cal.limits (auxCh s c) q).1 ≠ 0) :
    endAuxCal c s = complete (ofOpRes 0x0B05 c) 0x20 (auxCalResult s.cal.limits (auxCh s c) q).1 0 (modAux c (fun a => { a with cal := none }) s) := by
  rw [endAuxCal, h]
  exact (if_pos hall).trans (if_neg hbad)

end

/-- Settles O56: each row of the converters and their channels is one of the cases above. -/
theorem auxConversionsAndChecksAct : Obligations.AuxConversionsAndChecksAct := by
  unfold Obligations.AuxConversionsAndChecksAct
  intro t c x id settle raw sec ranges q s u a k put
  have next {f : State → State} {e : State} (h : f u = e) : Host.Outcome.next (ρ := Refusal) (φ := Fault) (after t s (f u)) = .next (after t s e) := h ▸ rfl
  have due (use : Ad2Use) (h : ad2Ends use u = true) : ¬ (!ad2Ends use u) = true := by simp [h]
  refine ⟨fun h => next (deltaSigma_unvisited h),
    fun h => ⟨fun hearly => next (deltaSigma_unsettled h hearly), readyAt_first, fun hon hx hrun hend hj hshared hready => next (deltaSigma_settled h hon hx hrun hend hj hshared hready)⟩,
    fun use h => next (if_pos (by rw [h]; rfl)), fun use other h => ⟨ad2Ends_unique h, ad2Ends_slotUsed use other u⟩,
    fun n h => next (if_neg (due _ h)), fun n h => next (if_neg (due _ h)), fun n h => next (if_neg (due _ h)), fun n h => next (if_neg (due _ h)),
    fun h => next (if_neg (due _ h)), fun h => next (if_neg (due _ h)),
    fun h => next (overload_keeps h), ?overload,
    ?stale, ?opens,
    fun hon hx hdue hrun hne => next (selfCalDue_asks hon hx hdue hrun hne), fun h => next (selfCalDue_keeps h),
    fun h => next (endSelfCal_idle h), fun used h hmiss => next (endSelfCal_waits h hmiss), ?one,
    fun h => next (endAuxCal_idle h), fun h hfew hbound => next (endAuxCal_waits h hfew hbound), fun h hfew hbound => next (endAuxCal_times_out h hfew hbound),
    fun h hall => ⟨fun hok => next (endAuxCal_accepts h hall hok), fun hbad => next (endAuxCal_refuses h hall hbad)⟩,
    fun h => next (adcRetired_keeps h), fun hon hret h => next (adcRetired_retires hon hret h)⟩
  case overload =>
    intro hon hc hlevel
    obtain ⟨e, hraise, hkept⟩ := overload_raises hon hc hlevel
    exact ⟨e, next hraise, hkept⟩
  case stale => exact fun hen hstale hnew hrun hon => ⟨fun hlong => next (staleEvent_tells hen hstale hnew hrun hon hlong), fun hearly => next (staleEvent_waits hearly)⟩
  case opens => exact fun hopen hnew => ⟨fun hlong => next (auxOpenFault_raises hopen hnew hlong), fun hearly => next (auxOpenFault_waits hearly)⟩
  case one =>
    intro r hrun hranges hzero href z
    obtain ⟨e, hends, hkept⟩ := endSelfCal_one hrun hzero href
    refine ⟨e, next (hranges ▸ hends), fun hok => ?_⟩
    have hview := hkept hok
    simp only [convView, Prod.mk.injEq] at hview
    obtain ⟨-, hfree, hcoefs, hrefusals⟩ := hview
    exact ⟨hcoefs, hrefusals, hfree⟩

end Sys2Proof.Machine
end

/-! Delivery to the host's buffers, and the refuge (R299 to R307, R310, R311). -/
section

namespace Sys2Proof.Machine

open Sys2Proof Sys2Proof.Safety

section
variable {n : Nat} {s : State}

/-! ### Descriptors (R299, R303) -/

/-- A descriptor as Table 9.6 has it: whole pages, of 64 KiB to 64 MiB. -/
def DescFits (a len : Nat) : Prop := a % 4096 = 0 ∧ len % 4096 = 0 ∧ 65536 ≤ len ∧ len ≤ 67108864

theorem descFits_iff (a len : Nat) : DescFits a len ↔ ¬ (a % 4096 != 0 || len % 4096 != 0 || decide (len < 65536) || decide (67108864 < len)) = true := by
  simp [DescFits, and_assoc]

theorem descriptorFetch_idle (b : List Byte) (h : (streamOf s n).ringed = false ∨ (streamOf s n).ringErr = true ∨ hostUp s = false ∨ (streamOf s n).head = (streamOf s n).tail) :
    descriptorFetch n b s = s :=
  if_pos (by rcases h with h | h | h | h <;> simp [h])

section
variable (hringed : (streamOf s n).ringed = true) (hring : (streamOf s n).ringErr = false) (hup : hostUp s = true) (hdesc : (streamOf s n).desc = none)
  (hbuf : (streamOf s n).buf = none) (hnext : (streamOf s n).head ≠ (streamOf s n).tail)
include hringed hring hup hdesc hbuf hnext

/-- The ring is at work, the host listens, and the descriptor at HEAD is neither held nor in use. -/
theorem descriptorFetch_open : ¬ (!(streamOf s n).ringed || (streamOf s n).ringErr || !hostUp s || (streamOf s n).desc.isSome || (streamOf s n).buf.isSome ||
    decide ((streamOf s n).head = (streamOf s n).tail)) = true := by
  simp [hringed, hring, hup, hdesc, hbuf, hnext]

theorem descriptorFetch_takes {b : List Byte} (hfits : DescFits (field b 0 8) (field b 8 4)) :
    descriptorFetch n b s = setStream n { streamOf s n with desc := some (field b 0 8, field b 8 4, (field b 12 2).testBit 0) } s := by
  unfold descriptorFetch
  extract_lets x a len irq
  rw [if_neg (descriptorFetch_open hringed hring hup hdesc hbuf hnext), if_neg ((descFits_iff a len).mp hfits)]
  rfl

theorem descriptorFetch_rejects {b : List Byte} (hfits : ¬ DescFits (field b 0 8) (field b 8 4)) (hlive : (streamOf s n).live = []) :
    descriptorFetch n b s = completeDesc n 0 0 ((streamOf s n).phase + 64) (streamOf s n).seq (bit (field b 12 2) 0)
      (setStream n { streamOf s n with rejects := satInc 32 (streamOf s n).rejects } s) := by
  unfold descriptorFetch
  extract_lets x a len irq next
  have hseq : next = x.seq := by simp [next, x, hlive]
  rw [if_neg (descriptorFetch_open hringed hring hup hdesc hbuf hnext), if_pos (Decidable.of_not_not (mt (descFits_iff a len).mpr hfits)), hseq]
  rfl

end

theorem pcieFail_head {desc : Nat} (hringed : (streamOf s n).ringed = true) (hring : (streamOf s n).ringErr = false) (hhead : desc % 2 ^ 32 = (streamOf s n).head) :
    pcieFail n desc s = ringError n (streamOf s n).head s :=
  if_pos (by simp only [hringed, hring, hhead, Bool.not_false, Bool.and_self, beq_self_eq_true])

theorem pcieFail_other {desc : Nat} (h : (streamOf s n).ringed = false ∨ (streamOf s n).ringErr = true ∨ desc % 2 ^ 32 ≠ (streamOf s n).head) :
    pcieFail n desc s = s := by
  refine if_neg fun hhead => ?_
  simp only [Bool.and_eq_true, Bool.not_eq_true', beq_iff_eq] at hhead
  obtain ⟨⟨hringed, hring⟩, hhead⟩ := hhead
  rcases h with h | h | h
  · exact absurd hringed (by simp [h])
  · exact absurd hring (by simp [h])
  · exact h hhead.symm

/-! ### Live items (R300, R304, R305) -/

/-- No descriptor is free between a HEAD and a TAIL that are equal. -/
theorem freeDescs_drained {x : Stream} (h : x.head = x.tail) : freeDescs x = 0 := by
  simp [freeDescs, mdist, h]

/-- Without a fetched descriptor a live item opens no buffer. -/
theorem roomFor_live_none {i : Item} (hbuf : (streamOf s n).buf = none) (hdesc : (streamOf s n).desc = none) : roomFor n 0 i s = s := by
  simp [roomFor, openBuf, hbuf, hdesc]

/-- An open buffer that an item fits stays open. -/
theorem roomFor_open {kind : Nat} {i : Item} {o : OpenBuf} (hbuf : (streamOf s n).buf = some o) (hfits : o.used + i.size ≤ o.bytes) : roomFor n kind i s = s := by
  simp [roomFor, hbuf, Nat.not_lt.mpr hfits]

section
variable {i : Item} {rest : List Item} (hlive : (streamOf s n).live = i :: rest)
include hlive

theorem itemDelivery_ringErr (hring : (streamOf s n).ringErr = true) : itemDelivery n s = closeDone n (stallStream n s) := by
  simp [itemDelivery, hlive, hring]

theorem itemDelivery_noDescriptor (hring : (streamOf s n).ringErr = false) (hbuf : (streamOf s n).buf = none) (hdesc : (streamOf s n).desc = none)
    (hnext : (streamOf s n).head = (streamOf s n).tail) : itemDelivery n s = closeDone n (stallStream n s) := by
  have hroom : hasRoom (streamOf s n) 0 i = false := by simp [hasRoom, hbuf]
  simp [itemDelivery, hlive, hring, hbuf, roomFor_live_none hbuf hdesc, hroom, freeDescs_drained hnext]

/-- A live item waits while a buffer of another class is open (R302). -/
theorem itemDelivery_otherClass {o : OpenBuf} (hring : (streamOf s n).ringErr = false) (hbuf : (streamOf s n).buf = some o) (hkind : o.kind ≠ 0) : itemDelivery n s = s := by
  simp [itemDelivery, hlive, hring, hbuf, hkind]

/-- A live item that the open buffer can take goes by the link: at once where that is idle, and into the refuge once it has waited 20 µs (log 86). -/
theorem itemDelivery_roomy {o : OpenBuf} (hring : (streamOf s n).ringErr = false) (hbuf : (streamOf s n).buf = some o) (hkind : o.kind = 0) (hfits : o.used + i.size ≤ o.bytes) :
    itemDelivery n s = if itemLinkIdle s then deliverLive n i s else if i.ready + 20000 ≤ s.now then closeDone n (stallStream n s) else s := by
  have hroom : hasRoom (streamOf s n) 0 i = true := by simp [hasRoom, hbuf, hkind, hfits]
  simp [itemDelivery, hlive, hring, hbuf, hkind, roomFor_open hbuf hfits, hroom]

theorem deliverLive_eq : deliverLive n i s =
    closeDone n (archiveEnd n (flushAfter n i (archiveItem n i (carry i.size (writeItem n i (setStream n { streamOf s n with live := rest } s)))))) := by
  simp only [deliverLive, modStream, hlive, List.drop_one, List.tail_cons]

end

/-! ### Completion of a buffer by age (R301, R302) -/

section
variable {o : OpenBuf} (hbuf : (streamOf s n).buf = some o)
include hbuf

theorem flushAge_eq (hflush : (streamOf s n).ring.flush = 2) :
    flushAge n s = if o.opened + (streamOf s n).ring.maxAge * 1000 ≤ s.now then completeBuf n s else s := by
  simp [flushAge, hbuf, hflush]

theorem flushRecord_eq {t0 : Nat} (hflush : (streamOf s n).ring.flush = 0) (hrec : o.recAt = some t0) :
    flushRecord n s = if t0 + 20000 ≤ s.now then completeBuf n s else s := by
  simp [flushRecord, hbuf, hflush, hrec]

theorem backlogEarly_eq {i : Item} {rest : List Item} (hlive : (streamOf s n).live = i :: rest) (hkind : o.kind = 1) :
    backlogEarly n s = if i.ready + 10000 ≤ s.now then completeBuf n s else s := by
  simp [backlogEarly, hbuf, hlive, hkind]

end

/-! ### Admission to the refuge (R306, R309, R311) -/

section
variable {r : PlaneRow} (hask : r.dest = .ask)
include hask

theorem refugeAdmit_admits {w : List Work} (hwork : (streamOf s n).work = .row r :: w) (hfits : rowNeeds r ≤ freeSpace s (streamOf s n)) :
    refugeAdmit n s = closeDone n (proofStopAt n (lineNo (rowGap 0 r false).first) (release n (setStream n { streamOf s n with work := .row { r with dest := .store } :: w } s))) := by
  simp [refugeAdmit, modStream, hwork, hask, hfits]

/-- A plane-row that asks for more than the store has left, and that nothing stands beside: in PROOF it goes or, once it has begun to leave, waits (R296, R311); else the stream drops from it on (R309). -/
theorem refugeAdmit_full (hwork : (streamOf s n).work = [.row r]) (hfull : freeSpace s (streamOf s n) < rowNeeds r) :
    refugeAdmit n s =
      if s.sys.mode = .proof then
        if r.headOut then (if faultActive s 0x0402 n then s else raise 0x0402 n s)
        else closeDone n (raise 0x0402 n (release n (setStream n { streamOf s n with work := [.row { r with dest := .drop 6 }] } s)))
      else if r.headOut ∧ (streamOf s n).flow = 3 then s
      else closeDone n (release n (stallEvent n 3 (lineNo (rowGap 0 r false).first)
        (setStream n { streamOf s n with work := [.row (if r.headOut then r else { r with dest := .drop 1 })], flow := 3 } s))) := by
  have hfew : ¬ rowNeeds r ≤ freeSpace s (streamOf s n) := Nat.not_le.mpr hfull
  by_cases hproof : s.sys.mode = .proof
  · cases hbegun : r.headOut <;> simp [refugeAdmit, modStream, hwork, hask, hfew, hproof, hbegun]
  · simp [refugeAdmit, modStream, hwork, hask, hfew, hproof]

variable (hwork : (streamOf s n).work = [.row r]) (hfull : freeSpace s (streamOf s n) < rowNeeds r)
include hwork hfull

theorem refugeAdmit_proof_waits (hproof : s.sys.mode = .proof) (hbegun : r.headOut = true) :
    refugeAdmit n s = if faultActive s 0x0402 n then s else raise 0x0402 n s := by
  rw [refugeAdmit_full hask hwork hfull, if_pos hproof, if_pos hbegun]

theorem refugeAdmit_proof_drops (hproof : s.sys.mode = .proof) (hwhole : r.headOut = false) :
    refugeAdmit n s = closeDone n (raise 0x0402 n (release n (setStream n { streamOf s n with work := [.row { r with dest := .drop 6 }] } s))) := by
  rw [refugeAdmit_full hask hwork hfull, if_pos hproof, if_neg (ne_true_of_eq_false hwhole)]

theorem refugeAdmit_waits (hmode : s.sys.mode ≠ .proof) (hbegun : r.headOut = true) (hflow : (streamOf s n).flow = 3) : refugeAdmit n s = s := by
  rw [refugeAdmit_full hask hwork hfull, if_neg hmode, if_pos ⟨hbegun, hflow⟩]

/-- Out of PROOF the plane-row that waits stays whole, and its stream drops what follows it (R296, R309). -/
theorem refugeAdmit_begins_drop (hmode : s.sys.mode ≠ .proof) (hbegun : r.headOut = true) (hflow : (streamOf s n).flow ≠ 3) :
    refugeAdmit n s = closeDone n (release n (stallEvent n 3 (lineNo (rowGap 0 r false).first) (setStream n { streamOf s n with flow := 3 } s))) := by
  rw [refugeAdmit_full hask hwork hfull, if_neg hmode, if_neg (fun h => hflow h.2), if_pos hbegun, ← hwork]

theorem refugeAdmit_drops (hmode : s.sys.mode ≠ .proof) (hwhole : r.headOut = false) :
    refugeAdmit n s = closeDone n (release n (stallEvent n 3 (lineNo (rowGap 0 r false).first) (setStream n { streamOf s n with work := [.row { r with dest := .drop 1 }], flow := 3 } s))) := by
  have hdrops : ¬ (r.headOut = true ∧ (streamOf s n).flow = 3) := by simp [hwhole]
  rw [refugeAdmit_full hask hwork hfull, if_neg hmode, if_neg hdrops, if_neg (ne_true_of_eq_false hwhole)]

end

/-! ### The end of a PROOF stop (R311) -/

theorem streamOf_setStream_other {m : Nat} (x : Stream) (h : m ≠ n) : streamOf (setStream n x s) m = streamOf s m := by
  simp [streamOf, List.getD_eq_getElem?_getD, List.getElem?_set_ne h.symm]

theorem stallEvent_dlv (kind line : Nat) : (stallEvent n kind line s).dlv = s.dlv := by
  obtain ⟨h, m, o, w⟩ := postLimited_frame 1000000 6 n kind
    (layout 16 [(0, 1, kind), (1, 1, (streamOf s n).flow), (4, 4, line), (8, 8, heldStore (streamOf s n) + heldSpool s (streamOf s n))]) s
  rw [stallEvent, w]

theorem streamOf_stallEvent (kind line m : Nat) : streamOf (stallEvent n kind line s) m = streamOf s m := by
  rw [streamOf, stallEvent_dlv, streamOf]

/-- A stream's stop is taken back, if the device has that stream. -/
theorem proofStopped_unstop : (streamOf (modStream n (fun x => { x with proofStopped := false }) s) n).proofStopped = false := by
  rcases Nat.lt_or_ge n s.dlv.streams.length with hn | hn
  · rw [modStream, streamOf_setStream_same _ hn]
  · have hlength : (modStream n (fun x => { x with proofStopped := false }) s).dlv.streams.length ≤ n := by simpa [modStream] using hn
    rw [streamOf, List.getD_eq_getElem?_getD, List.getElem?_eq_none hlength, Option.getD_none]

/-- What PROOF_RESUME_ALLOW does to one stream: one that was stopped goes on and tells so. -/
def resumeStream (s : State) (n : Nat) : State :=
  if (streamOf s n).proofStopped then stallEvent n 10 0 (modStream n (fun x => { x with proofStopped := false }) s) else s

theorem resumeStream_proofStop : (resumeStream s n).dlv.proofStop = s.dlv.proofStop := by
  unfold resumeStream
  split
  · rw [stallEvent_dlv]
    rfl
  · rfl

theorem resumeStream_same : (streamOf (resumeStream s n) n).proofStopped = false := by
  unfold resumeStream
  split
  · rw [streamOf_stallEvent, proofStopped_unstop]
  · next h => exact Bool.eq_false_iff.mpr h

theorem resumeStream_other {m : Nat} (h : m ≠ n) : streamOf (resumeStream s n) m = streamOf s m := by
  unfold resumeStream
  split
  · rw [streamOf_stallEvent, modStream, streamOf_setStream_other _ h]
  · rfl

theorem foldl_resumeStream_proofStop (l : List Nat) (s : State) : (l.foldl resumeStream s).dlv.proofStop = s.dlv.proofStop := by
  induction l generalizing s with
  | nil => rfl
  | cons n l ih => rw [List.foldl_cons, ih, resumeStream_proofStop]

/-- Every stream that has had its turn, or was not stopped, is not stopped. -/
theorem foldl_resumeStream_resumed {m : Nat} (l : List Nat) (s : State) (h : m ∈ l ∨ (streamOf s m).proofStopped = false) :
    (streamOf (l.foldl resumeStream s) m).proofStopped = false := by
  induction l generalizing s with
  | nil => simpa using h
  | cons n l ih =>
    rw [List.foldl_cons]
    refine ih _ ?_
    by_cases hm : m = n
    · exact .inr (hm ▸ resumeStream_same)
    · rw [resumeStream_other hm]
      exact h.imp_left fun h => (List.mem_cons.mp h).resolve_left hm

theorem proofResume_unstopped (h : ∀ y ∈ s.dlv.streams, y.proofStopped = false) : proofResume s = s :=
  if_pos (by simpa using Or.inl h)

/-- A stream in use that lacks descriptors keeps PROOF stopped. -/
theorem proofResume_waits {y : Stream} (hy : y ∈ s.dlv.streams) (hopen : y.flow ≠ 0) (hfew : freeDescs y < y.ring.reserve) : proofResume s = s := by
  unfold proofResume
  extract_lets inUse
  have hmem : y ∈ inUse := List.mem_filter.mpr ⟨hy, by simp [hopen]⟩
  refine if_pos (Bool.or_eq_true_iff.mpr (.inr ?_))
  rw [Bool.not_eq_true', List.all_eq_false]
  exact ⟨y, hmem, by simp [Nat.not_le.mpr hfew]⟩

/-- With every stream low the streams that were stopped go on. -/
theorem proofResume_resumes (hstop : ∃ y ∈ s.dlv.streams, y.proofStopped = true)
    (hlow : ∀ y ∈ s.dlv.streams, storeUsed y ≤ y.ring.proofLow * 67108864 ∧ y.ring.reserve ≤ freeDescs y ∧ y.ringErr = false) :
    proofResume s = (List.range 8).foldl resumeStream { s with dlv.proofStop := false } := by
  unfold proofResume
  extract_lets inUse
  have hany : s.dlv.streams.any Stream.proofStopped = true := List.any_eq_true.mpr hstop
  have hall : inUse.all (fun x => decide (storeUsed x ≤ x.ring.proofLow * 64 * 2 ^ 20) && decide (x.ring.reserve ≤ freeDescs x) && !x.ringErr) = true := by
    refine List.all_eq_true.mpr fun y hy => ?_
    obtain ⟨hused, hfree, hring⟩ := hlow y (List.mem_filter.mp hy).1
    simp [Nat.mul_assoc, hused, hfree, hring]
  exact if_neg (by rw [hany, hall]; decide)

/-! ### Spilling and catch-up (R307, R310) -/

theorem overMark_iff : overMark s = true ↔ s.spool.cfg.mark * 16777216 < storeTotal s := by
  simp [overMark, Nat.mul_assoc]

theorem spill_idle (h : s.sys.mode = .proof ∨ drivesIn s = []) : spill s = s :=
  if_pos (by simpa using h)

section
variable (hmode : s.sys.mode ≠ .proof) (hdrives : drivesIn s ≠ [])
include hmode hdrives

theorem spill_below (hdrain : s.spool.drainAll = false) (hmark : storeTotal s ≤ s.spool.cfg.mark * 16777216) :
    spill s = { s with spool := { s.spool with spilling := false } } := by
  have hlow : overMark s = false := Bool.eq_false_iff.mpr fun h => Nat.not_lt.mpr hmark (overMark_iff.mp h)
  simp [spill, hmode, hdrives, hdrain, hlow]

theorem spill_above (hmark : s.spool.cfg.mark * 16777216 < storeTotal s) : spill s = spillOne s := by
  simp [spill, hmode, hdrives, overMark_iff.mpr hmark]

end

theorem startCatchup_starts (hringed : (streamOf s n).ringed = true) (hring : (streamOf s n).ringErr = false) (hidle : (streamOf s n).catchup = false)
    (hback : backlog (streamOf s n) = true) (hfree : (streamOf s n).ring.reserve < freeDescs (streamOf s n)) :
    startCatchup n s = readNext n (stallEvent n 4 0 (setStream n { streamOf s n with catchup := true } s)) :=
  if_neg (by simp [hringed, hring, hidle, hback, hfree])

theorem startCatchup_idle (h : (streamOf s n).ringed = false ∨ (streamOf s n).ringErr = true ∨ (streamOf s n).catchup = true ∨ backlog (streamOf s n) = false ∨
    freeDescs (streamOf s n) ≤ (streamOf s n).ring.reserve) : startCatchup n s = s :=
  if_pos (by rcases h with h | h | h | h | h <;> simp [h])

end

/-! ### The rows -/

/-- Settles O52: each row of the streams is one of the cases above. -/
theorem streamsDeliverAndTakeRefuge : Obligations.StreamsDeliverAndTakeRefuge := by
  unfold Obligations.StreamsDeliverAndTakeRefuge
  intro t n desc b o i rest r w s u x a len fits hn
  have row {f : State → State} {e : State} (h : f u = e) : run t (fun s => if n < 8 then f s else s) s = .next (after t s e) :=
    ((run_onStream f).1 hn).trans (h ▸ rfl)
  have next {f : State → State} {e : State} (h : f u = e) : Host.Outcome.next (ρ := Refusal) (φ := Fault) (after t s (f u)) = .next (after t s e) := h ▸ rfl
  refine ⟨fun hringed hring hup hdesc hbuf hnext =>
      ⟨fun hfits => row (descriptorFetch_takes hringed hring hup hdesc hbuf hnext hfits), fun hfits hlive => row (descriptorFetch_rejects hringed hring hup hdesc hbuf hnext hfits hlive)⟩,
    fun h => row (descriptorFetch_idle b h),
    fun hlive hring => row (itemDelivery_ringErr hlive hring), fun hlive hring hbuf hdesc hnext => row (itemDelivery_noDescriptor hlive hring hbuf hdesc hnext),
    fun hlive hring hbuf hkind => row (itemDelivery_otherClass hlive hring hbuf hkind), ?roomy, ?age, ?record, ?early,
    fun hringed hring hhead => ⟨row (pcieFail_head hringed hring hhead), row (pcieFail_head hringed hring hhead)⟩, fun h => ⟨row (pcieFail_other h), row (pcieFail_other h)⟩,
    fun hwork hask hfits => row (refugeAdmit_admits hask hwork hfits),
    fun hwork hask hfull hbegun => ⟨fun hproof => row (refugeAdmit_proof_waits hask hwork hfull hproof hbegun),
      fun hmode hflow => row (refugeAdmit_waits hask hwork hfull hmode hbegun hflow), fun hmode hflow => row (refugeAdmit_begins_drop hask hwork hfull hmode hbegun hflow)⟩,
    fun hwork hask hfull hwhole => ⟨fun hproof => row (refugeAdmit_proof_drops hask hwork hfull hproof hwhole), fun hmode => row (refugeAdmit_drops hask hwork hfull hmode hwhole)⟩,
    fun h => next (proofResume_unstopped h), fun y hy hopen hfew => next (proofResume_waits hy hopen hfew), ?resumes,
    fun h => next (spill_idle h), fun hmode hdrives hdrain hmark => next (spill_below hmode hdrives hdrain hmark), fun hmode hdrives hmark => next (spill_above hmode hdrives hmark),
    fun hringed hring hidle hback hfree => row (startCatchup_starts hringed hring hidle hback hfree), fun h => row (startCatchup_idle h)⟩
  case roomy =>
    intro hlive hring hbuf hkind hfits
    have hrow := itemDelivery_roomy hlive hring hbuf hkind hfits
    refine ⟨fun hidle => row ?_, fun hbusy hlate => row ?_, fun hbusy hearly => row ?_⟩
    · rw [hrow, if_pos hidle, deliverLive_eq hlive]
    · rw [hrow, if_neg (ne_true_of_eq_false hbusy), if_pos hlate]
    · rw [hrow, if_neg (ne_true_of_eq_false hbusy), if_neg (Nat.not_le.mpr hearly)]
  case age =>
    intro hbuf hflush
    have hrow := flushAge_eq hbuf hflush
    exact ⟨fun hover => row (hrow.trans (if_pos hover)), fun hyoung => row (hrow.trans (if_neg (Nat.not_le.mpr hyoung)))⟩
  case record =>
    intro t0 hbuf hflush hrec
    have hrow := flushRecord_eq hbuf hflush hrec
    exact ⟨fun hover => row (hrow.trans (if_pos hover)), fun hyoung => row (hrow.trans (if_neg (Nat.not_le.mpr hyoung)))⟩
  case early =>
    intro hbuf hlive hkind
    have hrow := backlogEarly_eq hbuf hlive hkind
    exact ⟨fun hwaited => row (hrow.trans (if_pos hwaited)), fun hfresh => row (hrow.trans (if_neg (Nat.not_le.mpr hfresh)))⟩
  case resumes =>
    intro hstop hlow
    exact ⟨_, next (proofResume_resumes hstop hlow), foldl_resumeStream_proofStop _ _, fun m hm => foldl_resumeStream_resumed _ _ (.inl (List.mem_range.mpr hm))⟩

end Sys2Proof.Machine
end

/-! The end of an ATTACH that finds no log to open (R316, R346, log 56). -/
section

namespace Sys2Proof.Machine

open Sys2Proof Sys2Proof.Safety

/-- The STATUS of each EV_CMD_DONE that the event queue holds (Table 11.14). -/
def doneStatuses : Host.Outcome State Fault Refusal → List Nat
  | .next n => (n.host.evq.hold.filter (fun e => e.type == evCmdDone)).map (fun e => field e.payload 2 2)
  | _ => []

/-- The SPOOL_CFG of MB0 that asked for ATTACH. -/
def attachAsked : Pend := { src := 0, seq := 1, token := 2, opcode := 0x0804, res := 0 }

/-- In READY it waits for the ATTACH of drives 0 to 3. -/
def attachAwaited : State :=
  { State.reset with
    sys := { mode := .ready, service := true, porN := true }
    host.outstanding := [attachAsked]
    spool.cfg := { enable := 1, drives := 0x0F } }

/-- No drive answers, and no log is found. -/
def noLogFound : Attach := { readable := false, drives := [], keys := [], spoolId := 0, lseqNext := 1, epochs := [], segments := [] }

/-- The state in which the statement has the SPOOL_CFG completed. -/
def attachTried : State := { attachDrives noLogFound.drives (attachAwaited.at 0) with free := (attachAwaited.at 0).free + 1 }

/-- The model completes the command with JOB_FAILED (R346). -/
theorem spoolAttachComplete_reports_jobFailed : doneStatuses (exec (.spoolAttachComplete 0 noLogFound) attachAwaited) = [jobFailed] := by decide +kernel

/-- A completion with RETIRED leaves that status in the queue, whatever its DETAIL. -/
theorem retired_reports_retired (detail : Nat) :
    doneStatuses (.next (after 0 attachAwaited (complete (ofOpcode 0x0804) 0x30 detail 0 attachTried))) = [0x30] := by cbv

/-- Refutes O53: an ATTACH that finds no log to open completes its SPOOL_CFG with JOB_FAILED (0x40), where the statement has the status 0x30, which is RETIRED. -/
theorem not_spoolDrivesAnswerTheirCommands : ¬ Obligations.SpoolDrivesAnswerTheirCommands := by
  unfold Obligations.SpoolDrivesAnswerTheirCommands
  intro h
  obtain ⟨-, -, -, -, -, -, -, hunreadable, -⟩ := h 0 0 0 true { drive := 0, lseq := 0, kind := 0, stream := 0, tries := 0, start := 0 } noLogFound [] attachAsked
    { src := 0, dst := 1, range := 0, rate := 1, first := 0, last := 0, toRead := [], items := [], ready := true, missing := 0 } attachAwaited
  obtain ⟨detail, hrun⟩ := hunreadable rfl (by decide) rfl rfl (by decide +kernel)
  have hstatus := spoolAttachComplete_reports_jobFailed
  rw [hrun] at hstatus
  have hclash : [0x30] = [jobFailed] := (retired_reports_retired detail).symm.trans hstatus
  exact absurd hclash (by decide)

end Sys2Proof.Machine
end

/-! Stops of the machine, requests that fail and doorbells (R53, R340, R343, R346, R355, R356). -/
section

namespace Sys2Proof.Machine

open Sys2Proof Sys2Proof.Safety

/-! ### The stop on a second master (R355, log 28) -/

theorem secondMaster_iff (s : State) : secondMaster s = true ↔ s.host.stnServed = true ∧ s.stn.cfg.master ≠ 255 := by
  simp [secondMaster]

/-- Every command goes on, or is the host's and finds that the station master has commanded. -/
theorem exec_next_or_secondMaster (c : Instr) (s : State) :
    (∃ n, exec c s = .next n) ∨ exec c s = .fault .secondMaster ∧ secondMaster s = true := by
  rcases exec_shape c s with ⟨f, hf⟩ | ⟨f, hf⟩
  · exact .inl ⟨_, hf⟩
  · cases hs : secondMaster s with
    | false => exact .inl ⟨_, hf.trans (hostAct_next hs)⟩
    | true => exact .inr ⟨hf.trans (if_pos hs), rfl⟩

/-- Settles O4: every row goes on or stops on a second master, and the rows of R356 ask for no master. -/
theorem onlySecondMasterStops : Obligations.OnlySecondMasterStops := by
  unfold Obligations.OnlySecondMasterStops
  intro c s
  refine ⟨fun r hr => ?refused, fun h1 => ?next, fun t n tail h o k hc => ?free, fun f hf => ?fault⟩
  case refused =>
    rcases exec_next_or_secondMaster c s with ⟨n, hn⟩ | ⟨hstop, -⟩
    · cases hn.symm.trans hr
    · cases hstop.symm.trans hr
  case next =>
    rcases exec_next_or_secondMaster c s with hn | ⟨-, hs⟩
    · exact hn
    · exact absurd hs (ne_true_of_eq_false (secondMaster_of_oneMaster h1))
  case free =>
    rcases hc with rfl | rfl | rfl
    · exact ⟨_, exec_ringTailWrite ..⟩
    · exact ⟨_, exec_evqHeadWrite ..⟩
    · exact ⟨_, exec_bar2Read ..⟩
  case fault =>
    rcases exec_next_or_secondMaster c s with ⟨n, hn⟩ | ⟨hstop, hs⟩
    · cases hn.symm.trans hf
    · exact ⟨(Host.Outcome.fault.inj (hstop.symm.trans hf)).symm, (secondMaster_iff s).mp hs⟩

/-! ### Requests that fail (R343, R346) -/

/-- A request whose latched parameters are not whole is answered INTERNAL, and then logged (R346, log 93). -/
theorem serve_unsound {k : Cmd} {src : Nat} {s : State} (h : canServe k src s = true) (hs : (latchedReq s src).sound = false) :
    serve k src s = raise 0x0B01 (latchedReq s src).opcode (turnedAway src { status := 0xFF, detail := s.flt.next % 65536 } s) := by
  simp only [serve, h, if_true, serveReq, hs, Bool.not_false]
  rfl

/-- A mailbox's request in service whose OPCODE the command set does not hold is answered BAD_OPCODE. -/
theorem answerPlain_unknown {src : Nat} {s : State} (hsrc : src < 4) (hserv : s.sys.service = true) (hbusy : (s.host.mbs.getD src {}).state = .busy)
    (hturn : itsTurn s src = true) (hop : (s.host.mbs.getD src {}).latched.opcode ∉ knownOpcodes) : answerPlain src s = turnedAway src { status := 0x10 } s := by
  have hmb : src ≠ 4 := by omega
  have hunknown : knownOpcodes.contains (s.host.mbs.getD src {}).latched.opcode = false := by simpa using hop
  simp only [answerPlain, hserv, hbusy, hturn, hmb, hunknown, beq_self_eq_true, Bool.and_self, Bool.not_true, Bool.not_false, Bool.false_eq_true, Bool.false_and,
    decide_false, if_false, if_true]
  rfl

/-- Settles O9: a command row is the service of its command, which answers the failed check and no more. -/
theorem failedRequestChangesNothing : Obligations.FailedRequestChangesNothing := by
  unfold Obligations.FailedRequestChangesNothing
  refine ⟨fun c s src k e hc => ?failed, fun c s src k hc => ?unsound, fun src s hsrc hserv hbusy hturn hop => ?unknown⟩
  case failed =>
    intro u h hs hj
    rw [row_exec hc, serve_error h hs hj]
  case unsound =>
    intro u h hs
    rw [row_exec hc, serve_unsound h hs]
  case unknown => exact answerPlain_unknown hsrc hserv hbusy hturn hop

/-! ### Doorbells (R53, R340) -/

/-- A field of two bytes of MBn_REQ (R3). -/
theorem reqField_two (req : Tbl Byte) (o : Nat) :
    sumN ((List.range 2).map (fun i => (tget 0 (o + i) req).toNat * 256 ^ i)) = (tget 0 o req).toNat + 256 * (tget 0 (o + 1) req).toNat := by
  simp [sumN, List.range_succ, Nat.mul_comm]

/-- A doorbell at a mailbox that holds no request latches MBn_REQ as it stands, with the state of the HBM stack (R337, R340). -/
theorem doorbell_latches {n token : Nat} {s : State} (h : (s.host.mbs.getD n {}).state = .idle ∨ (s.host.mbs.getD n {}).state = .done) :
    let m := s.host.mbs.getD n {}
    ∃ l : Latched,
      doorbell n token s = { s with host.mbs := s.host.mbs.set n { m with seq := wrapInc 32 m.seq, token := token % 2 ^ 32, rung := s.now, latched := l, area := s.hbm, state := if s.sys.service then .busy else .queued },
                                    host.order := s.host.order ++ [n], host.held := if s.sys.service then s.host.held else s.host.held ++ [n] } ∧
      l.opcode = (tget 0 0 m.req).toNat + 256 * (tget 0 1 m.req).toNat ∧ l.flags = (tget 0 2 m.req).toNat + 256 * (tget 0 3 m.req).toNat ∧
      l.length = (tget 0 4 m.req).toNat + 256 * (tget 0 5 m.req).toNat ∧ l.params = (List.range (Nat.min l.length 4088)).map (fun i => tget 0 (8 + i) m.req) := by
  have hfree : ¬ ((s.host.mbs.getD n {}).state == .queued || (s.host.mbs.getD n {}).state == .busy) = true := by
    rcases h with h | h <;> rw [h] <;> decide
  exact ⟨_, if_neg hfree, reqField_two _ 0, reqField_two _ 2, reqField_two _ 4, rfl⟩

/-- A doorbell that finds its mailbox QUEUED or BUSY is ignored and sets OVERRUN (R340). -/
theorem doorbell_overruns {n token : Nat} {s : State} (h : (s.host.mbs.getD n {}).state = .queued ∨ (s.host.mbs.getD n {}).state = .busy) :
    doorbell n token s = { s with host.mbs := s.host.mbs.set n { s.host.mbs.getD n {} with overrun := true } } :=
  if_pos (by simpa using h)

/-- The row of a doorbell at one of the four mailboxes, out of RESET and with one master. -/
theorem exec_mbDoorbell_mailbox {t n token : Nat} {s : State} (h1 : oneMaster s = true) (hn : n < 4) (hm : (s.at t).sys.mode ≠ .reset) :
    exec (.mbDoorbell t n token) s = .next (after t s (doorbell n token (s.at t))) := by
  rw [exec_mbDoorbell _ _ _ _ (secondMaster_of_oneMaster h1), onBar_answers _ hm, if_pos hn]

/-- Settles O13: the row is the doorbell at its mailbox, which latches or overruns. -/
theorem doorbellLatchesRequest : Obligations.DoorbellLatchesRequest := by
  unfold Obligations.DoorbellLatchesRequest
  intro t n token s u m h1 hn hm
  have hrow := exec_mbDoorbell_mailbox (token := token) h1 hn hm
  refine ⟨fun h => ?latches, fun h => ?overruns⟩
  case latches =>
    obtain ⟨l, hdoor, hbytes⟩ := doorbell_latches (token := token) h
    exact ⟨l, _, hrow, hdoor, hbytes⟩
  case overruns => rw [hrow, doorbell_overruns h]

end Sys2Proof.Machine
end

/-! The ranges of adjusted settings (R344, R345, R396, Tables 2.6, 3.2, 3.4, 4.2, 7.3, 9.4 and 11.11). -/
section

namespace Sys2Proof.Machine

open Sys2Proof Sys2Proof.Safety

/-! ### One adjusted value -/

theorem flag_le_one (r : Req) (o : Nat) : r.flag o ≤ 1 := Nat.min_le_right _ _

/-- A defined code, or the default (R345). -/
theorem enum_lt_or_default (r : Req) (o n d : Nat) : r.enum o n d < n ∨ r.enum o n d = d := by
  unfold Req.enum
  split
  · exact .inl ‹_›
  · exact .inr rfl

theorem enum_lt (r : Req) (o : Nat) {n d : Nat} (h : d < n) : r.enum o n d < n := by
  rcases enum_lt_or_default r o n d with he | he <;> omega

theorem clampN_dvd {x lo hi d : Nat} (hx : d ∣ x) (hlo : d ∣ lo) (hhi : d ∣ hi) : d ∣ clampN x lo hi := by
  unfold clampN
  repeat' split
  all_goals assumption

/-- A stepped value lies in its range, on a step where the range's ends do (R344). -/
theorem clampStep_bounds (x : Nat) {step lo hi : Nat} (h : lo ≤ hi) : lo ≤ clampStep x step lo hi ∧ clampStep x step lo hi ≤ hi := clampN_bounds h

theorem clampStep_mod (x : Nat) {step lo hi : Nat} (hlo : step ∣ lo) (hhi : step ∣ hi) : clampStep x step lo hi % step = 0 :=
  Nat.mod_eq_zero_of_dvd (clampN_dvd (Nat.dvd_mul_left ..) hlo hhi)

/-- WINDOW is at most a quarter of REPEAT_NOMINAL (Table 2.6). -/
theorem windowClamp_le (c : DatumCfg) (pitch w : Nat) : windowClamp c pitch w ≤ c.nominal / 4 :=
  Nat.le_trans (Nat.min_le_right _ _) (Nat.min_le_left _ _)

/-- The power of two below a value of a range whose ends are powers of two lies in that range. -/
theorem log2_bounds {x a b : Nat} (hlo : 2 ^ a ≤ x) (hhi : x ≤ 2 ^ b) : a ≤ Nat.log2 x ∧ Nat.log2 x ≤ b := by
  have hx : x ≠ 0 := by have := Nat.two_pow_pos a; omega
  refine ⟨(Nat.le_log2 hx).mpr hlo, ?_⟩
  exact (Nat.pow_le_pow_iff_right (a := 2) (by decide)).mp (Nat.le_trans (Nat.log2_self_le hx) hhi)

/-! ### The settings of each command -/

/-- DATUM_CFG (Table 2.6). -/
theorem datumCfgOf_range (r : Req) (s : State) :
    let c := datumCfgOf r s
    c.source ≤ 2 ∧ c.cueInput ≤ 3 ∧ c.edge ≤ 1 ∧ c.flywheel ≤ 1 ∧ 1 ≤ c.modulus ∧ 256 ≤ c.nominal ∧ c.nominal < 2 ^ 40 ∧ c.cueOffset < 2 ^ 40 ∧ c.window ≤ c.nominal / 4 ∧ c.minSpacing ≤ c.nominal := by
  obtain ⟨hnom, hnom'⟩ := clampN_bounds (x := r.u64 0x10) (lo := 256) (hi := 2 ^ 40 - 1) (by decide)
  refine ⟨Nat.le_of_lt_succ (enum_lt r 0 (by decide)), Nat.le_of_lt_succ (enum_lt r 1 (by decide)), Nat.le_of_lt_succ (enum_lt r 2 (by decide)), flag_le_one r 3,
    Nat.le_max_left _ _, hnom, Nat.lt_of_le_pred (by decide) hnom', Nat.lt_of_le_pred (by decide) (Nat.min_le_right _ _), windowClamp_le .., Nat.min_le_right _ _⟩

/-- ENC_CFG (Table 3.2). -/
theorem encOf_range (r : Req) (e : Encoder) :
    let c := encOf r e
    c.enable ≤ 1 ∧ c.mode ≤ 1 ∧ c.invert ≤ 1 ∧ c.filter ≤ 30 ∧ c.filter % 2 = 0 ∧ ∀ x ∈ c.trims, -64 ≤ x ∧ x ≤ 63 := by
  have hfilter : clampStep (r.u8 4) 2 0 30 ≤ 30 := (clampStep_bounds _ (by decide)).2
  have hstep : clampStep (r.u8 4) 2 0 30 % 2 = 0 := clampStep_mod _ (by decide) (by decide)
  refine ⟨flag_le_one r 1, Nat.le_of_lt_succ (enum_lt r 2 (by decide)), flag_le_one r 3, hfilter, hstep, fun x hx => ?_⟩
  obtain ⟨i, -, rfl⟩ := List.mem_map.mp hx
  exact clampI_bounds (by decide)

/-- TRANSIT_CFG (Table 3.4). -/
theorem transitCfgOf_range (r : Req) :
    let c := transitCfgOf r
    c.source ≤ 3 ∧ c.tol ≤ 128 ∧ 1 ≤ c.horizonLines ∧ c.horizonLines ≤ 4 ∧ (c.vibChannel < 4 ∨ c.vibChannel = 255) ∧ 1048576 ≤ c.pitch ∧ c.pitch < 2 ^ 48 ∧
     10000 ≤ c.horizonTime ∧ c.horizonTime ≤ 40000 ∧ c.vMin ≤ 20000 ∧ 2048 ≤ c.alpha ∧ c.alpha ≤ 49152 ∧ 1 ≤ c.beta ∧ c.beta ≤ 32768 ∧ c.gamma * (65536 - c.alpha) ≤ 2 * c.alpha * c.beta ∧ 1 ≤ c.ticksPerM := by
  intro c
  obtain ⟨hlines, hlines'⟩ := clampN_bounds (x := r.u8 2) (lo := 1) (hi := 4) (by decide)
  obtain ⟨hpitch, hpitch'⟩ := clampN_bounds (x := r.u64 8 % 2 ^ 48) (lo := 1048576) (hi := 2 ^ 48 - 1) (by decide)
  obtain ⟨htime, htime'⟩ := clampN_bounds (x := r.u32 0x10) (lo := 10000) (hi := 40000) (by decide)
  obtain ⟨halpha, halpha'⟩ := clampN_bounds (x := r.u16 0x18) (lo := 2048) (hi := 49152) (by decide)
  obtain ⟨hbeta, hbeta'⟩ := clampN_bounds (x := r.u16 0x1A) (lo := 1) (hi := 32768) (by decide)
  have hgamma : c.gamma * (65536 - c.alpha) ≤ 2 * c.alpha * c.beta := Nat.le_trans (Nat.mul_le_mul_right _ (Nat.min_le_right _ _)) (Nat.div_mul_le_self _ _)
  exact ⟨Nat.le_of_lt_succ (enum_lt r 0 (by decide)), Nat.min_le_right _ _, hlines, hlines', enum_lt_or_default r 3 4 255, hpitch, Nat.lt_of_le_pred (by decide) hpitch', htime, htime',
    Nat.min_le_right _ _, halpha, halpha', hbeta, hbeta', hgamma, Nat.le_max_left _ _⟩

/-- PORT_CFG (Table 4.2). -/
theorem portCfgOf_range (r : Req) :
    let c := portCfgOf r
    64 ≤ c.columns ∧ c.columns ≤ 5120 ∧ c.columns % 64 = 0 ∧ 1 ≤ c.planes ∧ c.planes ≤ 15 ∧ (c.depth = 10 ∨ c.depth = 12 ∨ c.depth = 14) ∧ c.dark ≤ 64 := by
  intro c
  obtain ⟨hcols, hcols'⟩ := clampStep_bounds (r.u16 4) (step := 64) (lo := 64) (hi := 5120) (by decide)
  have hplanes : 1 ≤ c.planes ∧ c.planes ≤ 15 := by
    simp only [c, portCfgOf]
    split <;> omega
  have hdepth : c.depth = 10 ∨ c.depth = 12 ∨ c.depth = 14 := by
    simp only [c, portCfgOf]
    split
    · next hd => simpa using hd
    · exact .inr (.inl rfl)
  exact ⟨hcols, hcols', clampStep_mod _ (by decide) (by decide), hplanes.1, hplanes.2, hdepth, Nat.min_le_right _ _⟩

/-- RING_CFG (Table 9.4). -/
theorem ringOf_range (r : Req) (n : Nat) :
    let c := ringOf r n
    (∃ k, 6 ≤ k ∧ k ≤ 16 ∧ c.entries = 2 ^ k) ∧ c.base % 4096 = 0 ∧ 1 ≤ c.reserve ∧ c.reserve ≤ c.entries / 2 ∧ 1 ≤ c.storeMax ∧ c.storeMax ≤ 224 ∧ 1 ≤ c.proofHigh ∧ c.proofHigh ≤ c.storeMax ∧ c.proofLow ≤ c.proofHigh := by
  intro c
  obtain ⟨hent, hent'⟩ := clampN_bounds (x := r.u32 4) (lo := 64) (hi := 65536) (by decide)
  obtain ⟨hlog, hlog'⟩ := log2_bounds (a := 6) (b := 16) hent hent'
  have hentries : 2 ^ 6 ≤ c.entries := Nat.pow_le_pow_right (by decide) hlog
  have hhalf : 1 ≤ c.entries / 2 := by omega
  obtain ⟨hres, hres'⟩ := clampN_bounds (x := r.u32 0x14) hhalf
  obtain ⟨hmax, hmax'⟩ := clampN_bounds (x := r.u16 0x1C) (lo := 1) (hi := 224) (by decide)
  obtain ⟨hhigh, hhigh'⟩ := clampN_bounds (x := r.u16 0x1E) hmax
  exact ⟨⟨_, hlog, hlog', rfl⟩, Nat.mul_mod_left _ _, hres, hres', hmax, hmax', hhigh, hhigh', Nat.min_le_left _ _⟩

/-- CAL_LIMITS (Table 7.3). -/
theorem limitsOf_range (r : Req) :
    let c := limitsOf r
    c.gainMin ≤ c.gainMax ∧ c.gainMax < 2 ^ 24 ∧ -8192 ≤ c.offMin ∧ c.offMin ≤ 0 ∧ 0 ≤ c.offMax ∧ c.offMax ≤ 32768 ∧ c.trimMin ≤ c.trimMax := by
  obtain ⟨hgain, hgain'⟩ := clampN_bounds (x := r.u32 4) (Nat.min_le_right (r.u32 0) (2 ^ 24 - 1))
  obtain ⟨hmin, hmin'⟩ := clampI_bounds (x := r.s32 8) (lo := -8192) (hi := 0) (by decide)
  obtain ⟨hmax, hmax'⟩ := clampI_bounds (x := r.s32 0x0C) (lo := 0) (hi := 32768) (by decide)
  have htrim : clampN (r.u16 0x1A) 8192 32768 ≤ clampN (r.u16 0x1C) 32768 65535 := Nat.le_trans (clampN_bounds (by decide)).2 (clampN_bounds (by decide)).1
  exact ⟨hgain, Nat.lt_of_le_pred (by decide) hgain', hmin, hmin', hmax, hmax', htrim⟩

/-- LAMP_DERATE: FLOOR_TEMP lies above KNEE, and OFF_TEMP not below FLOOR_TEMP and 1 °C or more above ON_TEMP (R396). -/
theorem derateTemps_range (r : Req) :
    let d := derateTemps r
    d.1 ≤ 2400 ∧ -640 ≤ d.1 ∧ d.1 < d.2.1 ∧ d.2.1 ≤ d.2.2.1 ∧ d.2.2.2 + 16 ≤ d.2.2.1 := by
  obtain ⟨hknee, hknee'⟩ := clampI_bounds (x := r.s16 4) (lo := -640) (hi := 2400) (by decide)
  refine ⟨hknee', hknee, ?floor, ?off, ?on⟩
  all_goals
    simp only [derateTemps]
    repeat' split
    all_goals omega

/-- STN_CFG (Table 11.11). -/
theorem stnCfgOf_range (r : Req) :
    let c := stnCfgOf r
    c.enable ≤ 1 ∧ c.access ≤ 1 ∧ c.nodeId ≤ 254 ∧ 1 ≤ c.nodeCount ∧ 1 ≤ c.rate :=
  ⟨flag_le_one r 0, Nat.le_of_lt_succ (enum_lt r 1 (by decide)), Nat.min_le_right _ _, Nat.le_max_left _ _, Nat.le_max_left _ _⟩

/-- Settles O19: each command's settings lie in the ranges of its table. -/
theorem requestValuesAreClamped : Obligations.RequestValuesAreClamped := by
  unfold Obligations.RequestValuesAreClamped
  intro r u e n
  exact ⟨datumCfgOf_range r u, encOf_range r e, transitCfgOf_range r, portCfgOf_range r, ringOf_range r n, limitsOf_range r, derateTemps_range r, stnCfgOf_range r⟩

end Sys2Proof.Machine
end

/-! The update commands and DEV_RESET (R332, R377, R501, R502, R506, R507, R512). -/
section

namespace Sys2Proof.Machine

open Sys2Proof Sys2Proof.Safety

/-! ### What an answer leaves to the effect -/

@[simp] theorem answered_now (src : Nat) (d : List Byte) (s : State) : (answered src d s).now = s.now := by
  obtain ⟨h, o, e⟩ := answered_frame src d s
  rw [e]

@[simp] theorem answered_upd (src : Nat) (d : List Byte) (s : State) : (answered src d s).upd = s.upd := by
  obtain ⟨h, o, e⟩ := answered_frame src d s
  rw [e]

@[simp] theorem answered_stn (src : Nat) (d : List Byte) (s : State) : (answered src d s).stn = s.stn := by
  obtain ⟨h, o, e⟩ := answered_frame src d s
  rw [e]

@[simp] theorem accepted_now (src res : Nat) (d : List Byte) (s : State) : (accepted src res d s).now = s.now := by
  obtain ⟨h, o, e⟩ := accepted_frame src res d s
  rw [e]

@[simp] theorem accepted_upd (src res : Nat) (d : List Byte) (s : State) : (accepted src res d s).upd = s.upd := by
  obtain ⟨h, o, e⟩ := accepted_frame src res d s
  rw [e]

@[simp] theorem signal_mbs (v : Nat) (s : State) : (signal v s).host.mbs = s.host.mbs := by
  unfold signal fire emit
  repeat' split
  all_goals rfl

theorem respond_mbs (r : Req) (status detail : Nat) (d : List Byte) (s : State) :
    (respond r status detail d s).host.mbs = s.host.mbs.set r.src { s.host.mbs.getD r.src {} with
      rsp := layout 16 [(0, 2, status), (2, 2, r.opcode), (4, 4, r.seq), (8, 4, r.token), (12, 2, d.length), (14, 2, detail)] ++ d, state := .done } := by
  unfold respond
  dsimp only
  split
  · rw [signal_mbs]
  · rfl

/-- The load area of a request stays as at its doorbell (R337). -/
@[simp] theorem areaOf_accepted (src res : Nat) (d : List Byte) (s : State) : areaOf (accepted src res d s) src = areaOf s src := by
  show ((respond (latchedReq s src) 1 0 d s).host.mbs.getD src {}).area = _
  rw [respond_mbs, latchedReq_src]
  by_cases hsrc : src < s.host.mbs.length <;> simp [areaOf, List.getD_eq_getElem?_getD, hsrc]

/-! ### The update state -/

theorem setUpd_other {st : Nat} {s : State} (h : s.upd.state ≠ st) : setUpd st s = { s with upd.state := st, stn.statusDue := true } := if_neg h

theorem setUpd_upd (st : Nat) (s : State) : (setUpd st s).upd = { s.upd with state := st } := by
  unfold setUpd
  split
  · next h => rw [← h]
  · rfl

/-- An event of the update changes its LAST_RESULT and nothing else of it. -/
theorem evUpdate_upd (kind comp reason : Nat) (s : State) : (evUpdate kind comp reason s).upd = { s.upd with result := reason } := by
  obtain ⟨h, n, o, w⟩ := post_frame 12 0xFFFF (layout 16 [(0, 1, kind), (1, 1, comp), (2, 2, reason), (4, 4, s.upd.dl.id), (8, 4, receivedCount s.upd.dl 1)]) { s with upd.result := reason }
  rw [evUpdate, w]

/-- UPD_ABORT discards the download, what is saved of it and its schedule (R506). -/
theorem abortUpdate_upd (s : State) :
    (abortUpdate s).upd = { s.upd with state := 0, result := 0, dl := {}, saved := none, sched := none, waiting := false, fresh := 0, late := [] } := by
  simp only [abortUpdate, setUpd_upd, evUpdate_upd]

/-! ### Starts of a download (R501) -/

section

variable {image bytes : Nat} {s : State}

theorem startDownload_current (hst : s.upd.state = 1) (hid : s.upd.dl.id = image) : startDownload image bytes s = s := by
  simp [startDownload, hst, hid]

theorem startDownload_fresh (h : s.upd.state = 0 ∨ s.upd.state = 7 ∧ (s.upd.dl.id ≠ image ∨ s.upd.dl.bytes = 0)) :
    startDownload image bytes s =
      { s with upd := { s.upd with state := 1, dl := { id := image, bytes := Nat.min bytes 50331648 }, fresh := 0, saved := none, lastPiece := s.now, late := [], sched := none, waiting := false },
               stn := { s.stn with statusDue := true } } := by
  have hother : s.upd.state ≠ 1 := by omega
  have hcurrent : ¬ (s.upd.state = 1 && s.upd.dl.id = image) = true := by simp [hother]
  have hfailed : ¬ (s.upd.state = 7 && s.upd.dl.id = image && s.upd.dl.bytes != 0) = true := by
    rcases h with h | ⟨h, hid | hbytes⟩ <;> simp [*]
  rw [startDownload, if_neg hcurrent, if_neg hfailed]
  exact setUpd_other hother

/-- A failed download with a checked header that lacks pieces goes on. -/
theorem startDownload_resumes (hst : s.upd.state = 7) (hid : s.upd.dl.id = image) (hbytes : s.upd.dl.bytes ≠ 0) (hcomps : s.upd.dl.comps.isSome = true)
    (hlack : allHeld s.upd.dl = false) :
    startDownload image bytes s = { s with upd := { s.upd with state := 1, lastPiece := s.now }, stn := { s.stn with statusDue := true } } := by
  simp [startDownload, hst, hid, hbytes, setUpd, headerDone, hcomps, tryVerify, hlack]

theorem mayStart_iff : mayStart image s = true ↔ s.upd.state = 0 ∨ s.upd.state = 7 ∨ s.upd.state = 1 ∧ s.upd.dl.id = image := by
  simp [mayStart, or_assoc]

end

/-! ### The checks of the requests -/

section

variable {r : Req} {s : State}

/-- Of two codes with the default 0, only code 1 is 1 (R345). -/
theorem enum_two_eq_one_iff (o : Nat) : r.enum o 2 0 = 1 ↔ r.u8 o = 1 := by
  unfold Req.enum
  split <;> omega

theorem devReset_acts (h : r.src ≠ 4 ∨ r.u8 0 ≠ 1) : cmdDevReset.run r s = .ok { act := devReset (r.u8 0 == 1) } := by
  have hallowed : ¬ (r.src = 4 && r.enum 0 2 0 = 1) = true := by
    rw [Bool.and_eq_true, decide_eq_true_eq, decide_eq_true_eq, enum_two_eq_one_iff]
    exact fun ⟨hsrc, hrec⟩ => h.elim (· hsrc) (· hrec)
  have htarget : (r.enum 0 2 0 == 1) = (r.u8 0 == 1) := Bool.eq_iff_iff.mpr (by simpa using enum_two_eq_one_iff 0)
  exact (if_neg hallowed).trans (by rw [htarget])

theorem updBegin_starts (h : mayStart (r.u32 8) s = true) :
    ∃ data : List Byte, data.length = 8 ∧ cmdUpdBegin.run r s = .ok { data := data, act := startDownload (r.u32 8) (r.u32 0) } :=
  ⟨_, layout_length .., if_neg (by simp [h])⟩

theorem updBegin_busy (h : mayStart (r.u32 8) s = false) : cmdUpdBegin.run r s = .error (.busy 0x0C) := if_pos (by simp [h])

section

variable (hsrc : r.src ≠ 4) (harea : r.u32 8 + r.u32 4 ≤ 67108864) (hst : s.upd.state = 1 ∨ s.upd.state = 2)
  (hindex : r.u32 0 < ceilN (pieceCount s.upd.dl.bytes) 1024) (hsize : r.u32 4 = megPiece s.upd.dl (r.u32 0))

include hsrc harea hst hindex hsize

/-- A piece of the image that the source may send passes the checks of R502 and R561. -/
theorem updPiece_judged : cmdUpdPiece.run r s =
    if (s.upd.state != 1 || (megPieces s.upd.dl (r.u32 0)).all (received s.upd.dl)) && s.upd.state != 2 then .ok {} else .ok { accepted := some 0, act := takeMeg r } := by
  have harea' : ¬ (!areaOk (r.u32 8) (r.u32 4) 1) = true := by simpa [areaOk, Nat.mod_one] using harea
  have hpiece : ¬ (s.upd.state = 0 || ceilN (pieceCount s.upd.dl.bytes) 1024 ≤ r.u32 0 || r.u32 4 != megPiece s.upd.dl (r.u32 0)) = true := by
    simp [hsize]
    omega
  exact (if_neg hsrc).trans ((if_neg harea').trans (if_neg hpiece))

theorem updPiece_takes (hneed : (megPieces s.upd.dl (r.u32 0)).all (received s.upd.dl) = false ∨ s.upd.state = 2) :
    cmdUpdPiece.run r s = .ok { accepted := some 0, act := takeMeg r } := by
  refine (updPiece_judged hsrc harea hst hindex hsize).trans (if_neg ?_)
  rcases hst with hdown | hver
  · have hlack : (megPieces s.upd.dl (r.u32 0)).all (received s.upd.dl) = false := hneed.resolve_right (by omega)
    rw [hlack, hdown]
    decide
  · simp [hver]

theorem updPiece_held (hheld : (megPieces s.upd.dl (r.u32 0)).all (received s.upd.dl) = true) (hdown : s.upd.state = 1) : cmdUpdPiece.run r s = .ok {} := by
  refine (updPiece_judged hsrc harea hst hindex hsize).trans (if_pos ?_)
  simp [hheld, hdown]

end

theorem updSchedule_acts (h : s.upd.state ∈ [3, 4]) : cmdUpdSchedule.run r s = .ok { act := schedule (schedOf (r.u64 0) (r.u8 8) (r.u32 0x0C) (r.u32 0x10)) } := by
  simp only [List.mem_cons, List.not_mem_nil, or_false] at h
  exact if_neg (by simp; omega)

theorem updSchedule_refused (h : s.upd.state ∉ [3, 4]) : cmdUpdSchedule.run r s = .error (.wrongMode s.sys.mode 0x0E) :=
  if_pos (by simpa using h)

theorem updConfirm_acts (h : s.upd.state = 6) : cmdUpdConfirm.run r s = .ok { act := confirmTrial } := if_neg (by simp [h])

theorem updConfirm_refused (h : s.upd.state ≠ 6) : cmdUpdConfirm.run r s = .error (.wrongMode s.sys.mode 0x0F) := if_pos (by simp [h])

theorem updAbort_acts (h : s.upd.state ∈ [1, 2, 3, 4]) : cmdUpdAbort.run r s = .ok { act := abortUpdate } := by
  simp only [List.mem_cons, List.not_mem_nil, or_false] at h
  exact (if_neg (by omega)).trans (if_pos (by simp; omega))

theorem updAbort_refused (h : s.upd.state = 6) : cmdUpdAbort.run r s = .error (.wrongMode s.sys.mode 0x0F) := if_pos h

theorem updAbort_idle (h : s.upd.state ∉ [1, 2, 3, 4, 6]) : cmdUpdAbort.run r s = .ok {} := by
  simp only [List.mem_cons, List.not_mem_nil, or_false] at h
  exact (if_neg (by omega)).trans (if_neg (by simp; omega))

end

/-! ### The rows -/

section

variable {c : Instr} {s u e : State} {src op len : Nat} {k : Cmd}

/-- A command row of ALL, without a read form, whose request passes its checks and is done at once. -/
theorem exec_answers {data : List Byte} {act : State → State} (hu : s.at c.time = u) (h : holds op len src u = true) (hall : u.sys.mode.all = true)
    (hc : rowCmd c = some (src, k)) (hform : k.opcode = op ∧ k.len = fixedLen len ∧ k.modes = Mode.all ∧ k.readLen = none)
    (hk : k.run (latchedReq u src) u = .ok { data := data, act := act }) (he : act (answered src data u) = e) : exec c s = .next (after c.time s e) := by
  subst hu he
  obtain ⟨hop, hlen, hmodes, hread⟩ := hform
  exact exec_acts h hc hop (by rw [hread]; rfl) (hlen ▸ fixedLen_eq_none) hall hmodes hk

/-- One whose request is accepted. -/
theorem exec_accepts {res : Nat} {act : State → State} (hu : s.at c.time = u) (h : holds op len src u = true) (hall : u.sys.mode.all = true)
    (hc : rowCmd c = some (src, k)) (hform : k.opcode = op ∧ k.len = fixedLen len ∧ k.modes = Mode.all ∧ k.readLen = none)
    (hk : k.run (latchedReq u src) u = .ok { accepted := some res, act := act }) (hroom : hasRoomFor src u = true) (he : act (accepted src res [] u) = e) :
    exec c s = .next (after c.time s e) := by
  subst hu he
  obtain ⟨hop, hlen, hmodes, hread⟩ := hform
  exact exec_accepted (d := { accepted := some res, act := act }) hc h hop (by rw [hread]; rfl) (hlen ▸ fixedLen_eq_none) (legal_all hall (hmodes ▸ hall)) hk rfl hroom

/-- One whose request fails its own checks. -/
theorem exec_turnsAway {err : Err} (hu : s.at c.time = u) (h : holds op len src u = true) (hall : u.sys.mode.all = true)
    (hc : rowCmd c = some (src, k)) (hform : k.opcode = op ∧ k.len = fixedLen len ∧ k.modes = Mode.all ∧ k.readLen = none)
    (hk : k.run (latchedReq u src) u = .error err) : exec c s = .next (after c.time s (turnedAway src err u)) := by
  subst hu
  obtain ⟨hop, hlen, hmodes, hread⟩ := hform
  exact exec_refused hc h hop (by rw [hread]; rfl) (hlen ▸ fixedLen_eq_none) (legal_all hall (hmodes ▸ hall)) hk

end

/-! ### UPD_BEGIN and UPD_PIECE after their answers -/

section

variable {src : Nat} {d : List Byte} {u : State}

theorem startDownload_fresh_answered {image bytes : Nat} (h : u.upd.state = 0 ∨ u.upd.state = 7 ∧ (u.upd.dl.id ≠ image ∨ u.upd.dl.bytes = 0)) :
    startDownload image bytes (answered src d u) =
      { answered src d u with upd := { u.upd with state := 1, dl := { id := image, bytes := Nat.min bytes 50331648 }, fresh := 0, saved := none, lastPiece := u.now, late := [], sched := none, waiting := false },
                              stn := { u.stn with statusDue := true } } := by
  obtain ⟨host, out, e⟩ := answered_frame src d u
  rw [e]
  exact startDownload_fresh h

theorem startDownload_resumes_answered {image bytes : Nat} (hst : u.upd.state = 7) (hid : u.upd.dl.id = image) (hbytes : u.upd.dl.bytes ≠ 0)
    (hcomps : u.upd.dl.comps.isSome = true) (hlack : allHeld u.upd.dl = false) :
    startDownload image bytes (answered src d u) =
      { answered src d u with upd := { u.upd with state := 1, lastPiece := u.now }, stn := { u.stn with statusDue := true } } := by
  obtain ⟨host, out, e⟩ := answered_frame src d u
  rw [e]
  exact startDownload_resumes hst hid hbytes hcomps hlack

theorem startDownload_current_answered {image bytes : Nat} (hst : u.upd.state = 1) (hid : u.upd.dl.id = image) :
    startDownload image bytes (answered src d u) = answered src d u :=
  startDownload_current (by rwa [answered_upd]) (by rwa [answered_upd])

theorem takeMeg_accepted {r : Req} (h : r.src = src) : takeMeg r (accepted src 0 d u) =
    { accepted src 0 d u with upd := { u.upd with lastPiece := u.now, pieces := u.upd.pieces ++ [{ src := src, seq := r.seq, image := u.upd.dl.id, index := r.u32 0, offset := r.u32 8, area := areaOf u src }] } } := by
  rw [takeMeg, h, areaOf_accepted]
  obtain ⟨host, out, e⟩ := accepted_frame src 0 d u
  rw [e]

end

/-- Settles O34: each row is the outcome of its checks, answered before its effect. -/
theorem updateCommandsAct : Obligations.UpdateCommandsAct := by
  unfold Obligations.UpdateCommandsAct
  intro t src s u r hall
  refine ⟨fun h hreq => ?reset, fun h hst => ?start, fun h hst hid hbytes => ?resume, fun h hst hid => ?again, fun h hst => ?busy,
    fun h hsrc harea hst hindex hsize => ⟨fun hneed hroom => ?takes, fun hheld hdown => ?held⟩, fun h => ⟨fun hst => ?schedules, fun hst => ?schedWrong⟩,
    fun h => ⟨fun hst => ?confirms, fun hst => ?confirmWrong⟩, fun h => ⟨fun hst => ?aborts, fun hst => ?abortWrong, fun hst => ?nothing⟩⟩
  case reset => exact exec_answers rfl h hall rfl ⟨rfl, rfl, rfl, rfl⟩ (devReset_acts hreq) rfl
  case start =>
    obtain ⟨data, hlen, hrun⟩ := updBegin_starts (r := r) (s := u) (mayStart_iff.mpr (hst.imp_right fun hst => .inl hst.1))
    exact ⟨data, hlen, exec_answers rfl h hall rfl ⟨rfl, rfl, rfl, rfl⟩ hrun (startDownload_fresh_answered hst)⟩
  case resume =>
    obtain ⟨data, hlen, hrun⟩ := updBegin_starts (r := r) (s := u) (mayStart_iff.mpr (.inr (.inl hst)))
    exact ⟨data, _, hlen, exec_answers rfl h hall rfl ⟨rfl, rfl, rfl, rfl⟩ hrun rfl, rfl, startDownload_resumes_answered hst hid hbytes⟩
  case again =>
    obtain ⟨data, hlen, hrun⟩ := updBegin_starts (r := r) (s := u) (mayStart_iff.mpr (.inr (.inr ⟨hst, hid⟩)))
    exact ⟨data, hlen, exec_answers rfl h hall rfl ⟨rfl, rfl, rfl, rfl⟩ hrun (startDownload_current_answered hst hid)⟩
  case busy =>
    have hmay : mayStart (r.u32 8) u = false := by
      rw [Bool.eq_false_iff, Ne, mayStart_iff]
      simp only [List.mem_cons, List.not_mem_nil, or_false] at hst
      omega
    exact exec_turnsAway rfl h hall rfl ⟨rfl, rfl, rfl, rfl⟩ (updBegin_busy hmay)
  case takes => exact exec_accepts rfl h hall rfl ⟨rfl, rfl, rfl, rfl⟩ (updPiece_takes hsrc harea hst hindex hsize hneed) hroom (takeMeg_accepted rfl)
  case held => exact exec_answers rfl h hall rfl ⟨rfl, rfl, rfl, rfl⟩ (updPiece_held hsrc harea hst hindex hsize hheld hdown) rfl
  case schedules => exact exec_answers rfl h hall rfl ⟨rfl, rfl, rfl, rfl⟩ (updSchedule_acts hst) rfl
  case schedWrong => exact exec_turnsAway rfl h hall rfl ⟨rfl, rfl, rfl, rfl⟩ (updSchedule_refused hst)
  case confirms => exact exec_answers rfl h hall rfl ⟨rfl, rfl, rfl, rfl⟩ (updConfirm_acts hst) rfl
  case confirmWrong => exact exec_turnsAway rfl h hall rfl ⟨rfl, rfl, rfl, rfl⟩ (updConfirm_refused hst)
  case aborts =>
    refine ⟨abortUpdate (answered src [] u), exec_answers rfl h hall rfl ⟨rfl, rfl, rfl, rfl⟩ (updAbort_acts hst) rfl, ?_⟩
    rw [abortUpdate_upd, answered_upd]
    exact ⟨rfl, rfl, rfl, rfl, rfl⟩
  case abortWrong => exact exec_turnsAway rfl h hall rfl ⟨rfl, rfl, rfl, rfl⟩ (updAbort_refused hst)
  case nothing => exact exec_answers rfl h hall rfl ⟨rfl, rfl, rfl, rfl⟩ (updAbort_idle hst) rfl

end Sys2Proof.Machine
end

/-! The Modes column of the command tables and the targets that MODE_SET refuses (R343, R360, R363, Tables 11.1 to 11.11). -/
section

namespace Sys2Proof.Machine

open Sys2Proof Sys2Proof.Safety

/-! ### Commands that their Modes column does not allow (R343, R360) -/

/-- Out of RECOVERY the Modes column alone says whether a command that is not in its read form is legal. -/
theorem legal_eq_modes (k : Cmd) (src : Nat) {m : Mode} (h : m.all = true) : legal k false src m = k.modes m := by
  have hrec : m ≠ .recovery := by
    rintro rfl
    cases h
  exact (if_neg hrec).trans (if_neg Bool.false_ne_true)

/-- The mode is checked after the LENGTH and before the command's own checks. -/
theorem judge_notLegal {k : Cmd} {r : Req} {s : State} (hr : (k.readLen.isSome && r.isRead) = false) (hl : k.len r = none)
    (hm : legal k false r.src s.sys.mode = false) : judge k r s = .error (.wrongMode s.sys.mode 0) := by
  simp [judge, hr, hl, hm]

section

variable {c : Instr} {s u : State} {src op len : Nat} {k : Cmd}

/-- The row of a command whose Modes column lacks the mode, for a request that is not its read form. -/
theorem exec_notLegal (hu : s.at c.time = u) (h : holds op len src u = true) (hall : u.sys.mode.all = true) (hc : rowCmd c = some (src, k))
    (hform : k.opcode = op ∧ k.len = fixedLen len) (hr : (k.readLen.isSome && (latchedReq u src).isRead) = false) (hm : k.modes u.sys.mode = false) :
    exec c s = .next (after c.time s (turnedAway src (.wrongMode u.sys.mode 0) u)) := by
  subst hu
  obtain ⟨hop, hlen⟩ := hform
  have hl : k.len (latchedReq (s.at c.time) src) = none := hlen ▸ fixedLen_eq_none (length_of_holds h)
  rw [row_exec hc, serve_error (canServe_of_holds h hop) (sound_of_holds h) (judge_notLegal hr hl ((legal_eq_modes k src hall).trans hm))]

/-- One whose command has a read form as well. -/
theorem exec_notLegal_asked (hu : s.at c.time = u) (h : asks op len src u = true) (hall : u.sys.mode.all = true) (hc : rowCmd c = some (src, k))
    (hform : k.opcode = op ∧ k.len = fixedLen len) (hm : k.modes u.sys.mode = false) :
    exec c s = .next (after c.time s (turnedAway src (.wrongMode u.sys.mode 0) u)) := by
  obtain ⟨hh, hread⟩ := asks_iff.mp h
  exact exec_notLegal hu hh hall hc hform (by rw [hread, Bool.and_false]) hm

end

/-- AXIS_MOVE is legal in every mode of ALL but STANDBY and HOLD. -/
theorem axisMove_modes {m : Mode} (h : m ∈ [.standby, .hold]) : cmdAxisMove.modes m = false := by
  rcases List.mem_pair.mp h with rfl | rfl <;> rfl

/-- Settles O12: each row is a command whose Modes column lacks the mode. -/
theorem modesAreChecked : Obligations.ModesAreChecked := by
  unfold Obligations.ModesAreChecked
  intro t src s u away hall
  refine ⟨fun h hm => ?datumForce, fun h hm => ?portTrain, fun h hm => ?spoolCfg, fun h hm => ?spoolReplay, fun h hm => ?lampMap, fun h hm => ?lampGroup, fun h hm => ?axisCfg,
    fun h hm => ?axisMove, fun h hm => ?axisHome, fun h hm => ?proofCfg, fun h hm => ?debugOpen, fun h hm => ?keyProvision, fun h hm => ?diagLoopback⟩
  case datumForce => exact exec_notLegal rfl h hall rfl ⟨rfl, rfl⟩ rfl hm
  case portTrain => exact exec_notLegal rfl h hall rfl ⟨rfl, rfl⟩ rfl hm
  case spoolCfg => exact exec_notLegal_asked rfl h hall rfl ⟨rfl, rfl⟩ (by simpa [cmdSpoolCfg, and_assoc] using hm)
  case spoolReplay => exact exec_notLegal rfl h hall rfl ⟨rfl, rfl⟩ rfl (beq_eq_false_iff_ne.mpr hm)
  case lampMap => exact exec_notLegal_asked rfl h hall rfl ⟨rfl, rfl⟩ hm
  case lampGroup => exact exec_notLegal_asked rfl h hall rfl ⟨rfl, rfl⟩ hm
  case axisCfg => exact exec_notLegal_asked rfl h hall rfl ⟨rfl, rfl⟩ hm
  case axisMove => exact exec_notLegal rfl h hall rfl ⟨rfl, rfl⟩ rfl (axisMove_modes hm)
  case axisHome => exact exec_notLegal rfl h hall rfl ⟨rfl, rfl⟩ rfl (by simpa [cmdAxisHome] using hm)
  case proofCfg => exact exec_notLegal_asked rfl h hall rfl ⟨rfl, rfl⟩ hm
  case debugOpen => exact exec_notLegal rfl h hall rfl ⟨rfl, rfl⟩ rfl (by simpa [cmdDebugOpen] using hm)
  case keyProvision => exact exec_notLegal rfl h hall rfl ⟨rfl, rfl⟩ rfl (by simpa [cmdKeyProvision] using hm)
  case diagLoopback => exact exec_notLegal rfl h hall rfl ⟨rfl, rfl⟩ rfl (beq_eq_false_iff_ne.mpr hm)

/-! ### The targets that MODE_SET refuses in every mode (R363) -/

/-- The twelve modes have the codes below 12 (Table 2.1). -/
theorem ofCode_undefined {n : Nat} (h : 12 ≤ n) : Mode.ofCode n = none := by
  obtain ⟨i, rfl⟩ := Nat.exists_eq_add_of_le' h
  rfl

/-- No MODE_SET leads to a mode that the device enters by itself. -/
theorem judgeMode_internal {r : Req} {s : State} {m : Mode} (h : Mode.ofCode (r.u8 0) = some m) (hm : m ∈ [.reset, .boot, .recovery, .activate]) :
    judgeMode r s = .error (.wrongMode s.sys.mode 1) := by
  have hinternal : (m == .reset || m == .boot || m == .recovery || m == .activate) = true := by simpa [or_assoc] using hm
  simp only [judgeMode, h, hinternal, if_true]

theorem judgeMode_undefined {r : Req} {s : State} (h : 12 ≤ r.u8 0) : judgeMode r s = .error (.wrongMode s.sys.mode 1) := by
  simp only [judgeMode, ofCode_undefined h]

theorem judgeMode_refuses {r : Req} {s : State} (h : r.u8 0 ∈ [0, 1, 2, 11] ∨ 12 ≤ r.u8 0) : judgeMode r s = .error (.wrongMode s.sys.mode 1) := by
  rcases h with h | h
  · have hcodes : ∀ n ∈ [0, 1, 2, 11], ∃ m ∈ [Mode.reset, .boot, .recovery, .activate], Mode.ofCode n = some m := by decide
    obtain ⟨m, hm, hcode⟩ := hcodes _ h
    exact judgeMode_internal hcode hm
  · exact judgeMode_undefined h

theorem modeSet_refused {r : Req} {s : State} {err : Err} (h : judgeMode r s = .error err) : cmdModeSet.run r s = .error err := by
  simp only [cmdModeSet, h]

/-- Settles O27: the request fails the judgement of its MODE. -/
theorem modeSetRefusesInternalModes : Obligations.ModeSetRefusesInternalModes := by
  unfold Obligations.ModeSetRefusesInternalModes
  intro t src s u r h hall hcode
  exact exec_turnsAway rfl h hall rfl ⟨rfl, rfl, rfl, rfl⟩ (modeSet_refused (judgeMode_refuses hcode))

end Sys2Proof.Machine
end

/-! The Lamp Bus: a W1C write that ends without a reply, in a slice table that lists its slice twice (R385, R386, R410). -/
section

namespace Sys2Proof.Machine

open Sys2Proof

/-! ### A missing reply in a canonical slice table -/

section
variable {n : Nat} {s : State}

/-- The slice after a missing reply: its write is due again, and the miss stands in its counts (R410). -/
def missCounted (n : Nat) (s : State) : State :=
  modSlice n (fun a => { a with tx := none, missRun := a.missRun + 1, crcRun := 0, badRun := a.badRun + 1 }) (dueAgain n s)

/-- A write that is due again keeps the counts of its slice. -/
theorem dueAgain_counts (hslices : twf {} s.lamp.slices = true) :
    (lampSlice (dueAgain n s) n).missRun = (lampSlice s n).missRun ∧ (lampSlice (dueAgain n s) n).badRun = (lampSlice s n).badRun := by
  rw [dueAgain, lampSlice, modSlice_lamp, tget_tset_same hslices]
  split <;> exact ⟨rfl, rfl⟩

theorem missCounted_counts (hslices : twf {} s.lamp.slices = true) :
    (lampSlice (missCounted n s) n).missRun = (lampSlice s n).missRun + 1 ∧ (lampSlice (missCounted n s) n).badRun = (lampSlice s n).badRun + 1 := by
  obtain ⟨hmiss, hbad⟩ := dueAgain_counts (n := n) hslices
  rw [missCounted, lampSlice, modSlice_lamp, tget_tset_same (by rw [dueAgain, modSlice_lamp]; exact twf_tset hslices), hmiss, hbad]
  exact ⟨rfl, rfl⟩

/-- The clause of O54 that fails below, for a canonical table: a miss that is not the second in a row, does not end a read and leaves fewer than four bad replies only counts (R410). -/
theorem exec_lampReplyMissing_counts {t : Nat} {x : LampTx} (hslices : twf {} s.lamp.slices = true) (htx : (lampSlice (s.at t) n).tx = some x)
    (hlate : (lampSlice (s.at t) n).slotAt + 320 * (txFrame n x).length + 160 ≤ (s.at t).now) (hread : ∀ r, x ≠ .read r)
    (hmiss : (lampSlice (s.at t) n).missRun ≠ 1) (hbad : (lampSlice (s.at t) n).badRun < 3) :
    exec (.lampReplyMissing t n) s = .next (after t s (missCounted n (s.at t))) := by
  obtain ⟨hmiss', hbad'⟩ := missCounted_counts (n := n) (s := s.at t) hslices
  have hsecond : ¬ (lampSlice (missCounted n (s.at t)) n).missRun = 2 := by omega
  have hfourth : ¬ 4 ≤ (lampSlice (missCounted n (s.at t)) n).badRun := by omega
  have hcounted : badReply n true (s.at t) = missCounted n (s.at t) := by
    rw [missCounted] at hsecond hfourth
    cases x with
    | read r => exact absurd rfl (hread r)
    | _ => simp [badReply, htx, hsecond, hfourth, missCounted]
  rw [exec_lampReplyMissing, replyMissing, htx]
  simp only [if_pos hlate, hcounted]

end

/-! ### The table that lists its slice twice -/

/-- Missing replies in a row that slice 0 counts. -/
def missesCounted : Host.Outcome State Fault Refusal → Nat
  | .next n => (lampSlice n 0).missRun
  | _ => 0

/-- In READY, 1 s after RESET, slice 0 awaits the reply to a write of LATCH that clears nothing, all else of its record at the reset value; a second record of slice 0, behind the first, has missed a reply. -/
def listedTwice : State :=
  { State.reset with
    now := 1000000000
    sys := { mode := .ready, service := true, porN := true }
    lamp.slices := [(0, { tx := some (.write 0x1C 0) }), (0, { missRun := 1 })] }

/-- The write that is due again puts the first record back to its reset value, which takes it out of the table: the miss is counted on the second. -/
theorem lampReplyMissing_counts_second : missesCounted (exec (.lampReplyMissing 0 0) listedTwice) = 2 := by decide +kernel

/-- Refutes O54: the statement speaks of every state, so also of one whose slice table is not canonical; there the record that counts a missing reply is not the one that awaited it, while the statement adds the miss to the count of the latter (`exec_lampReplyMissing_counts` has the clause for canonical tables). -/
theorem not_lampBusRunsItsRounds : ¬ Obligations.LampBusRunsItsRounds := by
  unfold Obligations.LampBusRunsItsRounds
  intro h
  obtain ⟨-, -, -, -, -, -, -, -, -, -, -, -, -, -, -, hmissing, -⟩ := h 0 0 0 [] (.write 0x1C 0) [] listedTwice
  have hrun := hmissing rfl (by decide +kernel) (by intro r hr; cases hr) (by decide) (by decide)
  have hcount := lampReplyMissing_counts_second
  rw [hrun] at hcount
  exact absurd hcount (by decide +kernel)

end Sys2Proof.Machine
end

/-! The step and what follows it: the front command, the time base and the queue, the service that nothing asked for, and a calm effect (logs 1, 16, 17, 19). -/
section

namespace Sys2Proof.Machine

open Sys2Proof Sys2Proof.Safety

/-! ### The queue and the time base (logs 1, 17) -/

theorem step_of_pending {c : Instr} {rest : List Instr} {s : State} (h : s.pending = c :: rest) : step s = exec c { s with pending := rest } := by
  rw [step, h]

theorem step_of_idle {s : State} (h : s.pending = []) : step s = .next s := by
  rw [step, h]

/-- Settles O1: the front of the queue decides the step. -/
theorem stepRunsFront : Obligations.StepRunsFront := by
  unfold Obligations.StepRunsFront
  exact fun c rest s h => step_of_pending h

/-- Settles O2: an empty queue decides the step. -/
theorem idleStepChangesNothing : Obligations.IdleStepChangesNothing := by
  unfold Obligations.IdleStepChangesNothing
  exact fun s h => step_of_idle h

/-- Settles O3: a step that goes on answers the state that its effect led to, with the machine's own queue and time base. -/
theorem execKeepsQueueAndTime : Obligations.ExecKeepsQueueAndTime := by
  unfold Obligations.ExecKeepsQueueAndTime
  intro c s n h
  obtain ⟨e, rfl⟩ := exec_next_after h
  exact ⟨rfl, rfl, Nat.le_max_left ..⟩

/-- Settles O10: a command row is the service of its command, which finds nothing to serve. -/
theorem unaskedCommandChangesNothing : Obligations.UnaskedCommandChangesNothing := by
  unfold Obligations.UnaskedCommandChangesNothing
  intro c s src k hrow hidle
  rw [row_exec hrow, serve_idle hidle]

/-! ### What follows a calm effect (log 19) -/

section

variable {s : State}

/-- A fold whose every action leaves its start alone answers its start. -/
theorem foldl_rests {α β : Type} {f : α → β → α} {a : α} {l : List β} (h : ∀ b ∈ l, f a b = a) : l.foldl f a = a :=
  List.foldlRecOn l f (motive := fun x => x = a) rfl fun _ hx b hb => hx ▸ h b hb

theorem demands_rests (hreset : s.flt.resetReq = false) (hgroup : s.flt.groupReq = []) (hhold : s.flt.holdReq = none) : demands s = s := by
  simp [demands, hreset, hgroup, hhold]

theorem vibCheck_rests (hheld : s.tr.vibHeld = 0) (hbound : s.tr.vibBound = none) (hch : 4 ≤ s.tr.cfg.vibChannel) : vibCheck s = s := by
  have hnone : boundVib s = none := if_neg (by omega)
  have hunbound : ¬ s.tr.cfg.vibChannel < 4 := by omega
  simp [vibCheck, hnone, hbound, hunbound, hheld]

theorem watchSpeed_rests (h : s.mot.cycle = none) : watchSpeed s = s := by
  rw [watchSpeed, h]

theorem overflowOver_rests (h : ∀ a ∈ s.flt.active, a.code ≠ 0x0402) : overflowOver s = s := by
  refine foldl_rests fun n _ => if_neg ?_
  have hquiet : faultActive s 0x0402 n = false := by
    rw [faultActive, List.any_eq_false]
    intro a ha
    simp [h a ha]
  simp [hquiet]

theorem drainStep_rests (hsched : schedQuiet s = false) (hdrain : s.spool.drainAll = false) (hblocked : s.upd.blocked = false) : drainStep s = s := by
  simp [drainStep, hsched, hdrain, hblocked]

theorem deliveryStep_rests (hstop : s.dlv.proofStop = false) (hdrain : drainStep s = s) (hspill : s.spool.spilling = false) (hover : overflowOver s = s) :
    deliveryStep s = s := by
  simp [deliveryStep, hstop, hdrain, hspill, hover]

theorem finishForces_rests (n : Nat) (h : s.datum.forces = []) : finishForces n s = s := by
  cases n with
  | zero => rfl
  | succ n => rw [finishForces, h]

theorem calStep_rests (h : s.cal.run = none) : calStep s = s := by
  rw [calStep, h]

theorem entryStep_rests (h : s.sys.entered = false) : entryStep s = s := by
  simp [entryStep, h]

theorem giveAnswer_rests {src : Nat} (h : (s.host.mbs.getD src {}).answer = none) : giveAnswer src s = s := by
  simp only [giveAnswer, h]

theorem lateAnswers_rests (h : ∀ m ∈ s.host.mbs, m.answer = none) : lateAnswers s = s := by
  have hnone (i : Nat) : (s.host.mbs.getD i {}).answer = none := by
    rw [List.getD_eq_getElem?_getD]
    cases hm : s.host.mbs[i]? with
    | none => rfl
    | some m => exact h m (List.mem_of_getElem? hm)
  unfold lateAnswers
  split
  · rfl
  · exact foldl_rests fun i _ => giveAnswer_rests (hnone i)

theorem answerAll_rests (h : s.host.order = []) : answerAll s = s := by
  simp [answerAll, h]

theorem stationAnswer_rests (h : s.stn.busyCmd = none) : stationAnswer s = s := by
  simp only [stationAnswer, h]

theorem wakeHbm_rests (h : hbmBusy s = true → s.clk.refresh = false ∧ s.clk.lastHbm = s.now) : wakeHbm s = s := by
  unfold wakeHbm
  split
  · next hbusy =>
    obtain ⟨hrefresh, hlast⟩ := h hbusy
    have hclk : { s.clk with refresh := false, lastHbm := s.now } = s.clk := by rw [← hrefresh, ← hlast]
    exact congrArg (fun c => { s with clk := c }) hclk
  · rfl

theorem bridgeStep_rests (h : bridgesRest s = true) : bridgeStep s = s := by
  rw [bridgesRest, List.all_eq_true] at h
  exact foldl_rests fun n hn => if_pos (by simpa using h n hn)

theorem auxStep_rests (h0 : (auxConv s 0).ending = none) (h1 : (auxConv s 1).ending = none) (hreopen : s.aux.reopens = []) : auxStep s = s := by
  simp [auxStep, h0, h1, hreopen]

theorem vexStep_rests (h : vexRests s = true) : vexStep s = s := by
  rw [vexRests, List.all_eq_true] at h
  exact foldl_rests fun n hn => if_pos (by simpa using h n hn)

theorem beaconStep_rests (h : beaconsRest s = true) : beaconStep s = s :=
  if_pos (Eq.symm (by simpa [beaconsRest] using h))

theorem linkStep_rests (h : s.host.l1 = linkIdle s) : linkStep s = s := by
  rw [linkStep, ← h]

end

/-- Nothing follows a calm effect by itself: each part of the settling finds nothing to do. -/
theorem settle_of_calm {s : State} (h : Calm s = true) : settle s = s := by
  simp only [Calm, Bool.and_eq_true, Bool.not_eq_true', List.isEmpty_iff, Option.isNone_iff_eq_none, beq_iff_eq, decide_eq_true_eq, List.all_eq_true,
    Bool.or_eq_true, List.any_eq_false] at h
  obtain ⟨⟨⟨⟨⟨⟨⟨⟨⟨⟨⟨⟨⟨⟨⟨⟨⟨⟨⟨⟨⟨⟨⟨⟨⟨⟨⟨hreset, hgroup⟩, hhold⟩, hactive⟩, hheld⟩, hbound⟩, hch⟩, hsched⟩, hblocked⟩, hend0⟩, hend1⟩, hreopen⟩, hanswers⟩, hbeacons⟩, hcycle⟩, hstop⟩,
    hdrain⟩, hspill⟩, hover⟩, hforces⟩, hrun⟩, hentered⟩, horder⟩, hbusy⟩, hbridges⟩, hvex⟩, hhbm⟩, hlink⟩ := h
  have hdemands : demands s = s := demands_rests hreset hgroup hhold
  have hdelivery : deliveryStep s = s := deliveryStep_rests hstop (drainStep_rests hsched hdrain hblocked) hspill (overflowOver_rests fun a ha => by simpa using hactive a ha)
  have hwake : wakeHbm s = s := wakeHbm_rests fun hb => hhbm.resolve_left (by simp [hb])
  simp only [settle, hdemands, vibCheck_rests hheld hbound hch, watchSpeed_rests hcycle, hdelivery, hover, Bool.false_eq_true, if_false, finishForces_rests _ hforces,
    calStep_rests hrun, entryStep_rests hentered, lateAnswers_rests hanswers, answerAll_rests horder, stationAnswer_rests hbusy, hwake, bridgeStep_rests hbridges,
    auxStep_rests hend0 hend1 hreopen, vexStep_rests hvex, beaconStep_rests hbeacons, linkStep_rests hlink]

/-- Settles O7: the settling of a calm state is that state, whose time base and queue are the machine's already. -/
theorem calmEffectIsFinal : Obligations.CalmEffectIsFinal := by
  unfold Obligations.CalmEffectIsFinal
  intro t s e hcalm hnow hpending
  rw [after, settle_of_calm hcalm, ← hnow, ← hpending]

end Sys2Proof.Machine
end

/-! AUX_READ and the AUXn_STATUS registers (R468, R469). -/
section

namespace Sys2Proof.Machine

open Sys2Proof Sys2Proof.Safety

@[simp] theorem answered_aux (src : Nat) (d : List Byte) (s : State) : (answered src d s).aux = s.aux := by
  obtain ⟨h, o, e⟩ := answered_frame src d s
  rw [e]

/-- A mask names the channels of its set bits. -/
theorem mem_maskIdx {n w i : Nat} (h : i < n) : i ∈ maskIdx n w ↔ w.testBit i = true := by
  simp [maskIdx, h]

/-- Settles O15: the row answers with its command's data, and an answer leaves the channels alone. -/
theorem auxReadTellsEveryChannel : Obligations.AuxReadTellsEveryChannel := by
  unfold Obligations.AuxReadTellsEveryChannel
  intro t src s u r entry h hall
  exact ⟨exec_answers rfl h hall rfl ⟨rfl, rfl, rfl, rfl⟩ rfl rfl, answered_aux .., fun i hi => mem_maskIdx hi⟩

/-- A read of a channel's AUXn_STATUS latches its value and returns its status and AGE. -/
theorem auxStatusRead_latches {n : Nat} {s : State} (h : n < 16) :
    auxStatusRead n s =
      { s with aux := { s.aux with chs := s.aux.chs.set n { auxCh s n with latch := (auxCh s n).value } },
               out := .readData (0x100 + 8 * n) (leBytes 2 (auxStatus (auxCh s n)) ++ leBytes 2 (auxAge s.now (auxCh s n))) :: s.out } :=
  if_neg (by omega)

/-- Settles O41: out of RESET the row is the read of its register. -/
theorem auxStatusReadLatchesTheValue : Obligations.AuxStatusReadLatchesTheValue := by
  unfold Obligations.AuxStatusReadLatchesTheValue
  intro t n s u hmode hn
  rw [exec_auxStatusRead, onBar_answers _ hmode, auxStatusRead_latches hn]

end Sys2Proof.Machine
end

/-! AUX_CAL, LAMP_REARM and CAL_APPLY (R242 to R244, R249, R408, R466). -/
section

namespace Sys2Proof.Machine

open Sys2Proof Sys2Proof.Safety

/-- An error answer touches the mailbox, the interrupts and the outputs, nothing else. -/
theorem turnedAway_frame (src : Nat) (err : Err) (s : State) : ∃ (h : HostSt) (o : List Out), turnedAway src err s = { s with host := h, out := o } := respond_frame _ _ _ _ _

@[simp] theorem turnedAway_cal (src : Nat) (err : Err) (s : State) : (turnedAway src err s).cal = s.cal := by
  obtain ⟨h, o, e⟩ := turnedAway_frame src err s
  rw [e]

/-- A defined code of an enumeration stands as it is (R345). -/
theorem enum_of_lt {r : Req} {o n d : Nat} (h : r.u8 o < n) : r.enum o n d = r.u8 o := if_pos h

/-- The default is not a defined code other than itself. -/
theorem enum_ne {r : Req} {o n d k : Nat} (hk : k ≠ d) (h : r.u8 o ≠ k) : r.enum o n d ≠ k := by
  unfold Req.enum
  split
  · exact h
  · exact hk.symm

/-! ### AUX_CAL (R466) -/

section

variable {r : Req} {s : State}

theorem auxCal_averages (hc : r.u8 0 < 16) (hidle : (auxCh s (r.u8 0)).cal = none) (hpoint : r.u8 1 ≠ 2) :
    cmdAuxCal.run r s = .ok { accepted := some (r.u8 0), act := startAuxCal (r.u8 0) (r.enum 1 3 0) (r.s32 4) (clampN (r.u16 8) 16 4096) } :=
  (if_neg (by simp [hidle])).trans ((if_neg (by omega)).trans (if_neg (enum_ne (by decide) hpoint)))

theorem auxCal_clears (hc : r.u8 0 < 16) (hidle : (auxCh s (r.u8 0)).cal = none) (hpoint : r.u8 1 = 2) :
    cmdAuxCal.run r s = .ok { accepted := some (r.u8 0), act := fun s => complete (ofOpRes 0x0B05 (r.u8 0)) 0 0 0 (startTrim (r.u8 0) {} s) } :=
  (if_neg (by simp [hidle])).trans ((if_neg (by omega)).trans (if_pos ((enum_of_lt (by omega)).trans hpoint)))

theorem auxCal_busy (h : (auxCh s (r.u8 0)).cal.isSome = true) : cmdAuxCal.run r s = .error (.busy 0x0B) := if_pos h

theorem startAuxCal_accepted {src res c point n : Nat} {v : Int} {d : List Byte} :
    startAuxCal c point v n (accepted src res d s) =
      { accepted src res d s with aux := { s.aux with chs := s.aux.chs.set c { auxCh s c with cal := some { point := point, value := v, samples := n, ys := [], deadline := s.now + n * convInterval s c + filterLatency (auxCh s c).cfg + 10000000 } } } } := by
  obtain ⟨h, o, e⟩ := accepted_frame src res d s
  rw [e]
  rfl

/-! ### LAMP_REARM (R408) -/

/-- Groups that are not off stay as they are. -/
theorem rearmGroups_rests {l : List Nat} (h : ∀ g ∈ l, bit s.lamp.off g = false) : l.foldl (fun s g => rearmGroup g s) s = s :=
  foldl_rests fun g hg => if_pos (by simp [h g hg])

/-! ### CAL_APPLY (R242 to R244, R249) -/

theorem calApply_shading (hkind : r.u8 0 = 0) {k : Nat} (hact : r.u8 1 = k) (hk : k < 3) : cmdCalApply.run r s = applyShading k (r.u8 2) s := by
  refine (if_pos hkind).trans ?_
  rw [enum_of_lt (hact ▸ hk), hact]

theorem calApply_lamp (hkind : r.u8 0 = 1) {k : Nat} (hact : r.u8 1 = k) (hk : k < 3) : cmdCalApply.run r s = applyLamp k s := by
  refine (if_neg (by omega)).trans ((if_pos hkind).trans ?_)
  rw [enum_of_lt (hact ▸ hk), hact]

section

variable {steps : Nat}

theorem applyShading_busy (h : s.cal.grade.isSome = true) : applyShading 0 steps s = .error (.busy 6) := if_pos h

theorem applyShading_none (hidle : s.cal.grade = none) (h : s.cal.pendShade = none) : applyShading 0 steps s = .error (.implausible 0) := by
  simp [applyShading, hidle, startGrade, h]

/-- A pending result whose basis has changed is refused, and discarded with its check (R243). -/
theorem applyShading_refused {p : ShadeResult} (hidle : s.cal.grade = none) (h : s.cal.pendShade = some p) (hbasis : basisHolds p.basis p.planes s.banks.staged = false) :
    applyShading 0 steps s = .ok (Done.refused { Err.implausible 64 with code := 64 } (fun s => { s with cal := { s.cal with pendShade := none } })) := by
  have hcheck : startGrade steps s = .error 64 := by
    simp only [startGrade, h, hbasis, Bool.not_false, if_true]
    rfl
  simp only [applyShading, hidle, hcheck, Option.isSome_none, Bool.false_eq_true, if_true, if_false]

/-- The next step placed changes the grade's count of steps placed, and the staged bank's table. -/
theorem placeStep_grade {g : Grade} (h : s.cal.grade = some g) :
    ∃ j, (placeStep s).cal = { s.cal with grade := some { g with placed := j } } ∧ (placeStep s).banks.grade = s.banks.grade := by
  simp only [placeStep, h]
  split
  · exact ⟨g.placed, by rw [← h], rfl⟩
  · exact ⟨_, rfl, rfl⟩

/-- A pending result whose basis holds becomes the grade in progress (R242 to R244). -/
theorem startGrade_starts {p : ShadeResult} (h : s.cal.pendShade = some p) (hbasis : basisHolds p.basis p.planes s.banks.staged = true) :
    ∃ e : State, startGrade steps s = .ok e ∧ e.cal.pendShade = none ∧ e.banks.grade = true ∧
      ∃ g, e.cal.grade = some g ∧ g.result = p ∧ g.steps = (if steps = 0 then p.steps else clampN steps 1 16) := by
  simp only [startGrade, h, hbasis, Bool.not_true, Bool.false_eq_true, if_false]
  refine ⟨_, rfl, ?_⟩
  generalize hg : ({ result := p, v0 := _, steps := _, placed := 0, live := 0, finish := false } : Grade) = g
  obtain ⟨j, hcal, hbanks⟩ := placeStep_grade (s := { s with cal := { s.cal with grade := some g, pendShade := none }, banks := { s.banks with grade := true } }) rfl
  refine ⟨by rw [hcal], hbanks, { g with placed := j }, by rw [hcal], ?_⟩
  subst hg
  exact ⟨rfl, rfl⟩

theorem applyShading_starts {p : ShadeResult} (hidle : s.cal.grade = none) (h : s.cal.pendShade = some p) (hbasis : basisHolds p.basis p.planes s.banks.staged = true) :
    ∃ act : State → State, applyShading 0 steps s = .ok { act := act } ∧ ∀ e e', startGrade steps e = .ok e' → act e = e' := by
  obtain ⟨g, hg, -⟩ := startGrade_starts (steps := steps) h hbasis
  simp only [applyShading, hidle, hg, Option.isSome_none, Bool.false_eq_true, if_true, if_false]
  exact ⟨_, rfl, fun e e' he => by rw [he]⟩

theorem applyLamp_none (h : s.cal.pendLamp = none) : applyLamp 0 s = .error (.implausible 0) := by
  simp [applyLamp, h]

variable {ts : List (Nat × Nat)} (h : s.cal.pendLamp = some ts)

include h

theorem applyLamp_busy (hfree : stagedFree s = false) : applyLamp 0 s = .error (.busy 1) := by
  have hbank : bankFree s = false := hfree
  simp [applyLamp, h, hbank]

theorem applyLamp_starts (hfree : stagedFree s = true) :
    applyLamp 0 s = .ok { waits := fun s => !(armPendings (stageTrims ts s)).isEmpty, act := applyTrims ts } := by
  have hbank : bankFree s = true := hfree
  simp [applyLamp, h, hbank]

end

end

/-- A command row of ALL whose request passes its checks: the response waits for the PENDING frames that the effect makes due (R397), where there are any. -/
theorem exec_waits {c : Instr} {s u e : State} {src op len : Nat} {k : Cmd} {act : State → State} {waits : State → Bool} (hu : s.at c.time = u) (h : holds op len src u = true)
    (hall : u.sys.mode.all = true) (hc : rowCmd c = some (src, k)) (hform : k.opcode = op ∧ k.len = fixedLen len ∧ k.modes = Mode.all ∧ k.readLen = none)
    (hk : k.run (latchedReq u src) u = .ok { act := act, waits := waits }) (he : (if waits u then holdAnswer (latchedReq u src) 0 0 [] u else answered src [] u) = e) :
    exec c s = .next (after c.time s (act e)) := by
  subst hu he
  obtain ⟨hop, hlen, hmodes, hread⟩ := hform
  have hacc : ({ act := act, waits := waits } : Done).accepted.isSome = true → slotsUsed (s.at c.time) src < 16 := nofun
  rw [row_exec hc, serve_done (canServe_of_holds h hop) (sound_of_holds h)
    (judge_ok (by rw [hread]; rfl) (hlen ▸ fixedLen_eq_none (length_of_holds h)) (legal_all hall (hmodes ▸ hall)) hk hacc) rfl]
  rfl

/-- A command row whose request is refused with an effect (R243, R534): the error answer, and then the effect. -/
theorem exec_turnsAwayActing {c : Instr} {s u e : State} {src op len : Nat} {k : Cmd} {err : Err} {act : State → State} (hu : s.at c.time = u) (h : holds op len src u = true)
    (hc : rowCmd c = some (src, k)) (ho : k.opcode = op) (hread : k.readLen = none) (hl : (latchedReq u src).length = len → k.len (latchedReq u src) = none)
    (hm : legal k false src u.sys.mode = true) (hk : k.run (latchedReq u src) u = .ok (Done.refused err act)) (he : act (turnedAway src err u) = e) : exec c s = .next (after c.time s e) := by
  subst hu he
  have hacc : (Done.refused err act).accepted.isSome = true → slotsUsed (s.at c.time) src < 16 := nofun
  rw [row_exec hc, serve_done (canServe_of_holds h ho) (sound_of_holds h) (judge_ok (by rw [hread]; rfl) (hl (length_of_holds h)) hm hk hacc) rfl]
  rfl

/-- Settles O33: each row is the outcome of its checks, answered before its effect. -/
theorem trimAndRearmCommandsAct : Obligations.TrimAndRearmCommandsAct := by
  unfold Obligations.TrimAndRearmCommandsAct
  intro t src s u r hall
  refine ⟨fun h hc hidle hroom => ⟨fun hpoint => ?averages, fun hpoint => ?clears⟩, fun h hbusy => ?calBusy, fun h => ?rearms, fun h hon => ?on, fun h hkind hact => ?discards, fun h hkind hact => ?finishes,
    fun h hkind hact => ?lampDiscards, fun h hkind hact => ⟨fun hp => ?lampNone, fun ts hp hfree => ?lampBusy, fun ts hp hfree harm => ?lampStarts, fun ts hp hfree harm => ?lampWaits⟩,
    fun h hkind hact => ⟨fun hg => ?gradeBusy, fun hg hp => ?shadeNone, fun p hg hp hbasis => ?shadeRefused, fun p hg hp hbasis => ?shadeStarts⟩⟩
  case averages => exact exec_accepts (c := .auxCal t src) (u := u) rfl h hall rfl ⟨rfl, rfl, rfl, rfl⟩ (auxCal_averages hc hidle hpoint) hroom startAuxCal_accepted
  case clears => exact exec_accepts (c := .auxCal t src) (u := u) rfl h hall rfl ⟨rfl, rfl, rfl, rfl⟩ (auxCal_clears hc hidle hpoint) hroom rfl
  case calBusy => exact exec_turnsAway (c := .auxCal t src) (u := u) rfl h hall rfl ⟨rfl, rfl, rfl, rfl⟩ (auxCal_busy hbusy)
  case rearms => exact exec_answers (c := .lampRearm t src) (u := u) rfl h hall rfl ⟨rfl, rfl, rfl, rfl⟩ rfl rfl
  case on =>
    exact exec_answers (c := .lampRearm t src) (u := u) rfl h hall rfl ⟨rfl, rfl, rfl, rfl⟩ rfl (rearmGroups_rests fun g hg => by rw [answered_lamp]; exact hon g hg)
  case discards =>
    refine exec_answers (c := .calApply t src) (u := u) rfl h hall rfl ⟨rfl, rfl, rfl, rfl⟩ (calApply_shading hkind hact (by decide)) ?_
    dsimp only
    rw [answered_cal]
  case finishes =>
    refine exec_answers (c := .calApply t src) (u := u) rfl h hall rfl ⟨rfl, rfl, rfl, rfl⟩ (calApply_shading hkind hact (by decide)) ?_
    dsimp only
    rw [answered_cal]
  case lampDiscards =>
    refine exec_answers (c := .calApply t src) (u := u) rfl h hall rfl ⟨rfl, rfl, rfl, rfl⟩ (calApply_lamp hkind hact (by decide)) ?_
    dsimp only
    rw [answered_cal]
  case lampNone => exact exec_turnsAway (c := .calApply t src) (u := u) rfl h hall rfl ⟨rfl, rfl, rfl, rfl⟩ ((calApply_lamp hkind hact (by decide)).trans (applyLamp_none hp))
  case lampBusy => exact exec_turnsAway (c := .calApply t src) (u := u) rfl h hall rfl ⟨rfl, rfl, rfl, rfl⟩ ((calApply_lamp hkind hact (by decide)).trans (applyLamp_busy hp hfree))
  case lampStarts =>
    exact exec_waits (c := .calApply t src) (u := u) rfl h hall rfl ⟨rfl, rfl, rfl, rfl⟩ ((calApply_lamp hkind hact (by decide)).trans (applyLamp_starts hp hfree)) (if_neg (by simp [harm]))
  case lampWaits =>
    exact exec_waits (c := .calApply t src) (u := u) rfl h hall rfl ⟨rfl, rfl, rfl, rfl⟩ ((calApply_lamp hkind hact (by decide)).trans (applyLamp_starts hp hfree)) (if_pos (by simpa using harm))
  case gradeBusy => exact exec_turnsAway (c := .calApply t src) (u := u) rfl h hall rfl ⟨rfl, rfl, rfl, rfl⟩ ((calApply_shading hkind hact (by decide)).trans (applyShading_busy hg))
  case shadeNone => exact exec_turnsAway (c := .calApply t src) (u := u) rfl h hall rfl ⟨rfl, rfl, rfl, rfl⟩ ((calApply_shading hkind hact (by decide)).trans (applyShading_none hg hp))
  case shadeRefused =>
    refine exec_turnsAwayActing (c := .calApply t src) (u := u) rfl h rfl rfl rfl fixedLen_eq_none (legal_all hall hall) ((calApply_shading hkind hact (by decide)).trans (applyShading_refused hg hp hbasis)) ?_
    dsimp only
    rw [turnedAway_cal]
  case shadeStarts =>
    obtain ⟨e, he, hpend, hgrade, hg'⟩ := startGrade_starts (steps := r.u8 2) (s := answered src [] u) (by rw [answered_cal]; exact hp) (by
      obtain ⟨host, out, w⟩ := answered_frame src [] u
      rw [w]
      exact hbasis)
    obtain ⟨act, hrun, hact'⟩ := applyShading_starts (steps := r.u8 2) hg hp hbasis
    exact ⟨e, exec_answers (c := .calApply t src) (u := u) rfl h hall rfl ⟨rfl, rfl, rfl, rfl⟩ ((calApply_shading hkind hact (by decide)).trans hrun) (hact' _ _ he), hpend, hgrade, hg'⟩

end Sys2Proof.Machine
end

/-! STN_CFG, TIME_CFG, FAULT_POLICY, RING_CFG and SPOOL_CFG (R297, R298, R314, R316, R355, R373, R476, R492). -/
section

namespace Sys2Proof.Machine

open Sys2Proof Sys2Proof.Safety

@[simp] theorem answered_time (src : Nat) (d : List Byte) (s : State) : (answered src d s).time = s.time := by
  obtain ⟨h, o, e⟩ := answered_frame src d s
  rw [e]

@[simp] theorem accepted_spool (src res : Nat) (d : List Byte) (s : State) : (accepted src res d s).spool = s.spool := by
  obtain ⟨h, o, e⟩ := accepted_frame src res d s
  rw [e]

section

variable {r : Req} {s : State}

theorem flag_eq_zero_iff (o : Nat) : r.flag o = 0 ↔ r.u8 o = 0 := by
  show min (r.u8 o) 1 = 0 ↔ _
  omega

theorem flag_eq_one {o : Nat} (h : 1 ≤ r.u8 o) : r.flag o = 1 := Nat.min_eq_right h

/-! ### STN_CFG (R355, R476) -/

/-- Settings that name the same master and switch no bus on: a STATUS that waited stays where ACCESS, NODE_ID and NODE_COUNT do. -/
theorem applyStnCfg_sameMaster {c : StnCfg} (hmaster : c.master = s.stn.cfg.master) (hon : s.stn.cfg.enable = 1 ∨ c.enable = 0) :
    applyStnCfg c s =
      { s with stn := { s.stn with cfg := c, statusDue := s.stn.statusDue && decide (s.stn.cfg.access = c.access ∧ s.stn.cfg.nodeId = c.nodeId ∧ s.stn.cfg.nodeCount = c.nodeCount) } } := by
  have hstays : ¬ (decide (s.stn.cfg.enable = 0) && decide (c.enable = 1)) = true := by
    rw [Bool.and_eq_true, decide_eq_true_eq, decide_eq_true_eq]
    omega
  unfold applyStnCfg
  dsimp only
  rw [if_neg hstays, if_pos hmaster.symm]
  simp only [Bool.and_eq_true, decide_eq_true_eq, and_assoc]
  split
  · next h => rw [decide_eq_true h, Bool.and_true]
  · next h => rw [decide_eq_false h, Bool.and_false]

/-- A new MASTER_NODE forgets that another has commanded; a bus that is switched on counts the 5 s of STN_LOST from here. -/
theorem applyStnCfg_newMaster {c : StnCfg} (hmaster : c.master ≠ s.stn.cfg.master) :
    (applyStnCfg c s).stn.cfg = c ∧ (applyStnCfg c s).host.stnServed = false ∧ (s.stn.cfg.enable = 0 → c.enable = 1 → (applyStnCfg c s).stn.lastRx = s.now) := by
  unfold applyStnCfg
  dsimp only
  rw [if_neg (Ne.symm hmaster)]
  refine ⟨rfl, ?_, fun hoff hon => ?_⟩
  · split <;> rfl
  · have hswitch : (decide (s.stn.cfg.enable = 0) && decide (c.enable = 1)) = true := by rw [hoff, hon]; rfl
    rw [if_pos hswitch]
    split <;> rfl

/-! ### TIME_CFG (R491, R492) -/

/-- A correction writes the time's offset and slew, and may count a step. -/
theorem correctTime_frame (off : Int) (s : State) :
    ∃ (o w : Int) (n : StnCounters), correctTime off s = { s with time := { s.time with offset := o, slew := w, slewAt := s.now, everSet := true }, stn := { s.stn with cnt := n } } := by
  unfold correctTime
  extract_lets c base slews
  split <;> exact ⟨_, _, _, rfl⟩

theorem hostTime_zero (rung : Nat) (s : State) : hostTime 0 rung s = s := rfl

/-- The host's time is taken where the host is the source. -/
theorem hostTime_takes {v rung : Nat} (hv : v ≠ 0) (hsource : s.time.source = 1) :
    ∃ o w : Int, (hostTime v rung s).time = { s.time with offset := o, slew := w, slewAt := s.now, everSet := true, state := 1, lastHost := s.now, good := 0 } := by
  have htakes : ¬ (decide (v = 0) || !(s.time.source == 1 || s.time.state == 0 || s.time.state == 3)) = true := by simp [hv, hsource]
  obtain ⟨o, w, n, hcorrect⟩ := correctTime_frame ((stationAt s rung : Int) - (v : Int)) s
  refine ⟨o, w, ?_⟩
  rw [hostTime, if_neg htakes, hcorrect]

/-! ### FAULT_POLICY, RING_CFG and SPOOL_CFG (R297, R298, R316, R373) -/

/-- A list of whole entries within its bounds has a LENGTH that it may have (R358). -/
theorem listLen_eq_none {e m n : Nat} (he : 0 < e) (h1 : 1 ≤ n) (hm : n ≤ m) (h : r.length = e * n) : listLen 0 e m r = none := by
  have hlen : 0 < e * n := Nat.mul_pos he h1
  simp [listLen, h, hlen, Nat.mul_div_cancel_left n he, hm]

theorem faultPolicy_acts {n : Nat} (hlen : r.length = 4 * n) (hknown : ∀ i, i < n → (faultRow (r.u16 (4 * i))).isSome = true) :
    cmdFaultPolicy.run r s = .ok { act := fun s => { s with flt := { s.flt with policy := ((List.range n).map (policyEntry r)).foldl setPolicy s.flt.policy } } } := by
  have hn : r.length / 4 = n := by omega
  have hall : ¬ (((List.range (r.length / 4)).map (policyEntry r)).any (fun e => (faultRow e.1).isNone)) = true := by
    rw [hn, List.any_eq_true]
    rintro ⟨e, he, hnone⟩
    obtain ⟨i, hi, rfl⟩ := List.mem_map.mp he
    have hsome := hknown i (List.mem_range.mp hi)
    rw [policyEntry, Option.isNone_iff_eq_none] at hnone
    rw [hnone] at hsome
    cases hsome
  exact (if_neg hall).trans (by rw [hn])

theorem ringCfg_acts (hn : r.u8 0 < 8) (hflow : (streamOf s (r.u8 0)).flow = 0) (hclosing : (streamOf s (r.u8 0)).closing = false) (hlog : backlog (streamOf s (r.u8 0)) = false) :
    cmdRingCfg.run r s = .ok { act := modStream (r.u8 0) (fun x => { x with ringed := true, ring := ringOf r (r.u8 0), tail := 0, head := 0, dseq := 0, phase := 1, ringErr := false, desc := none, buf := none }) } :=
  (if_neg (by simp [hflow, hclosing, hlog])).trans (if_neg (by omega))

/-- What SPOOL_CFG does once it is accepted (R314, R316). -/
def spoolCfgAct (c : SpoolCfg) (s : State) : State :=
  if c.enable = 0 then complete (ofOpcode 0x0804) 0 0 0 (probeDrives { s with spool := { s.spool with cfg := c } }) else probeDrives { s with spool := { s.spool with cfg := c } }

theorem spoolCfg_acts (h : r.u8 3 ≠ 1 ∨ r.u32 8 = 0x464F524D) : cmdSpoolCfg.run r s = .ok { accepted := some 0, act := spoolCfgAct (spoolCfgOf r) } := by
  refine if_neg ?_
  rw [Bool.and_eq_true, decide_eq_true_eq, bne_iff_ne]
  rintro ⟨hformat, hkey⟩
  exact h.elim (· ((enum_two_eq_one_iff 3).mp hformat)) hkey

end

/-- Settles O22: each row passes its checks, and the answer leaves alone the settings that it then writes. -/
theorem busAndRingSettingsActAtOnce : Obligations.BusAndRingSettingsActAtOnce := by
  unfold Obligations.BusAndRingSettingsActAtOnce
  intro t src s u r hall
  refine ⟨fun ha hmaster hon => ?station, fun ha hmaster => ?newMaster, fun ha hzero => ?noTime, fun ha htime hsource => ?hostTime, fun n ha h1 hn hknown => ?policy,
    fun ha hn hflow hclosing hlog => ?ring, fun ha hmode hkey hroom => ?spool⟩
  case station =>
    refine exec_settles (c := .stnCfg t src) (u := u) rfl ha rfl rfl rfl hall hall rfl ?_
    rw [applyStnCfg_sameMaster (by rwa [answered_stn]) (by rw [answered_stn]; exact hon.imp_right (flag_eq_zero_iff 0).mpr), answered_stn]
    rfl
  case newMaster =>
    obtain ⟨hcfg, hserved, hrx⟩ := applyStnCfg_newMaster (s := answered src [] u) (c := stnCfgOf r) (by rwa [answered_stn])
    rw [answered_stn, answered_now] at hrx
    exact ⟨_, exec_settles (c := .stnCfg t src) (u := u) rfl ha rfl rfl rfl hall hall rfl rfl, hcfg, hserved, fun hoff hon => hrx hoff (flag_eq_one hon)⟩
  case noTime =>
    refine exec_settles (c := .timeCfg t src) (u := u) rfl ha rfl rfl rfl hall hall rfl ?_
    rw [applyTimeCfg, hzero, hostTime_zero, answered_time]
    simp only [Bool.and_eq_true, beq_iff_eq]
    rfl
  case hostTime =>
    have hcode : r.enum 0 2 0 = 1 := (enum_two_eq_one_iff 0).mpr hsource
    obtain ⟨o, w, htaken⟩ := hostTime_takes (rung := ((answered src [] u).host.mbs.getD r.src {}).rung) (s := { answered src [] u with time := { u.time with source := 1, domain := r.u8 1, good := if (u.time.source == 1 && u.time.domain == r.u8 1) = true then u.time.good else 0 } }) htime rfl
    refine ⟨_, exec_settles (c := .timeCfg t src) (u := u) rfl ha rfl rfl rfl hall hall rfl rfl, ?_⟩
    rw [applyTimeCfg, hcode, answered_time, htaken, answered_now]
    exact ⟨rfl, rfl, rfl, rfl, rfl⟩
  case policy =>
    obtain ⟨h, hread⟩ := asks_iff.mp ha
    refine (exec_acts (c := .faultPolicy t src) h rfl rfl (Bool.and_eq_false_iff.mpr (.inr hread)) (listLen_eq_none (by decide) h1 hn) hall rfl (faultPolicy_acts (length_of_holds h) hknown)).trans ?_
    rw [answered_flt]
    rfl
  case ring => exact exec_settles (c := .ringCfg t src) (u := u) rfl ha rfl rfl rfl hall hall (ringCfg_acts hn hflow hclosing hlog) rfl
  case spool =>
    obtain ⟨h, hread⟩ := asks_iff.mp ha
    have hlegal : cmdSpoolCfg.modes u.sys.mode = true := by
      simp only [List.mem_cons, List.not_mem_nil, or_false] at hmode
      rcases hmode with hm | hm | hm <;> rw [hm] <;> rfl
    have hrow : exec (.spoolCfg t src) s = .next (after t s (spoolCfgAct (spoolCfgOf r) (accepted src 0 [] u))) :=
      exec_accepted (c := .spoolCfg t src) (d := { accepted := some 0, act := _ }) rfl h rfl (Bool.and_eq_false_iff.mpr (.inr hread)) fixedLen_eq_none (legal_all hall hlegal) (spoolCfg_acts hkey) rfl hroom
    have henable : (spoolCfgOf r).enable = r.flag 0 := rfl
    rw [hrow, spoolCfgAct, henable, accepted_spool]
    refine ⟨fun hon => ?_, fun hoff => ?_⟩
    · rw [flag_eq_one hon, if_neg Nat.one_ne_zero]
    · rw [(flag_eq_zero_iff 0).mpr hoff, if_pos rfl]

end Sys2Proof.Machine
end

/-! DEBUG_OPEN, KEY_PROVISION and DIAG_LOOPBACK (R373, R487, R532, R534, R535). -/
section

namespace Sys2Proof.Machine

open Sys2Proof Sys2Proof.Safety

/-- A command of STANDBY and SERVICE is legal there. -/
theorem legal_stopped {k : Cmd} {src : Nat} {m : Mode} (hk : k.modes = fun m => m == .standby || m == .service) (h : m = .standby ∨ m = .service) : legal k false src m = true := by
  rcases h with rfl | rfl <;> exact legal_all rfl (by rw [hk]; rfl)

theorem legal_service {k : Cmd} {src : Nat} {m : Mode} (hk : k.modes .service = true) (h : m = .service) : legal k false src m = true := by
  rw [h]
  exact legal_all rfl hk

/-- A command row without a read form, legal in its mode, whose request passes its checks and is done at once. -/
theorem exec_answersIn {c : Instr} {s u e : State} {src op len : Nat} {k : Cmd} {act : State → State} (hu : s.at c.time = u) (h : holds op len src u = true)
    (hc : rowCmd c = some (src, k)) (ho : k.opcode = op) (hread : k.readLen = none) (hl : k.len = fixedLen len) (hm : legal k false src u.sys.mode = true)
    (hk : k.run (latchedReq u src) u = .ok { act := act }) (he : act (answered src [] u) = e) : exec c s = .next (after c.time s e) := by
  subst hu he
  exact exec_done (d := { act := act }) hc h ho (by rw [hread]; rfl) (hl ▸ fixedLen_eq_none) hm hk rfl rfl

section

variable {r : Req} {s : State}

/-! ### Authority (R534) -/

theorem authorised_of_token {token : Nat} (hopen : s.sec.lockUntil = none) (h : token = s.sec.ownerToken.getD 0) : authorised token s = true := by
  simp [authorised, locked, hopen, h]

theorem authorised_of_wrong {token : Nat} (h : token ≠ s.sec.ownerToken.getD 0) : authorised token s = false := by
  simp [authorised, h]

/-! ### DEBUG_OPEN (R487, R532) -/

theorem debugOpen_station (hsrc : r.src = 4) : cmdDebugOpen.run r s = .error (.wrongMode s.sys.mode 0) := if_pos hsrc

section

variable (hsrc : r.src ≠ 4) (hidle : s.sec.erasePending = false)

include hsrc hidle

theorem debugOpen_judged : cmdDebugOpen.run r s =
    if !authorised (field r.params 0 16) s then .ok (Done.refused Err.authFailed refuseAuth)
    else if 32 ≤ s.sec.opens then .error (.implausible 1) else .ok { accepted := some 0, act := beginOpen r.src r.seq } :=
  (if_neg hsrc).trans (if_neg (by rw [hidle]; exact Bool.false_ne_true))

theorem debugOpen_opens (hauth : authorised (field r.params 0 16) s = true) (hfew : s.sec.opens < 32) :
    cmdDebugOpen.run r s = .ok { accepted := some 0, act := beginOpen r.src r.seq } :=
  (debugOpen_judged hsrc hidle).trans ((if_neg (by simp [hauth])).trans (if_neg (by omega)))

theorem debugOpen_fails (hauth : authorised (field r.params 0 16) s = false) : cmdDebugOpen.run r s = .ok (Done.refused Err.authFailed refuseAuth) :=
  (debugOpen_judged hsrc hidle).trans (if_pos (by simp [hauth]))

end

theorem beginOpen_accepted {src res opener seq : Nat} {d : List Byte} :
    beginOpen opener seq (accepted src res d s) =
      evSecurity 1 0 { accepted src res d s with sec := { s.sec with opens := s.sec.opens + 1, erasePending := true, opener := opener, openerSeq := seq } } := by
  obtain ⟨h, o, e⟩ := accepted_frame src res d s
  rw [e]
  rfl

/-! ### KEY_PROVISION (R534, R535) -/

section

variable (hsrc : r.src ≠ 4) (hshut : s.sec.debugOpen = false) (hidle : s.sec.erasePending = false)

include hsrc hshut hidle

theorem keyProvision_fails (hauth : authorised (field r.params 4 16) s = false) : cmdKeyProvision.run r s = .ok (Done.refused Err.authFailed refuseAuth) := by
  simp [cmdKeyProvision, hsrc, hshut, hidle, hauth]

variable (hauth : authorised (field r.params 4 16) s = true)

include hauth

theorem keyProvision_draws (hkind : 2 ≤ r.enum 0 4 0) : cmdKeyProvision.run r s = .ok { act := provision (r.enum 0 4 0) [] } := by
  simp [cmdKeyProvision, hsrc, hshut, hidle, hauth, hkind]

theorem keyProvision_unwraps {b : List Byte} (hkind : r.enum 0 4 0 < 2) (hblob : blobOf r = some b) : cmdKeyProvision.run r s = .ok { act := provision (r.enum 0 4 0) b } := by
  simp [cmdKeyProvision, hsrc, hshut, hidle, hauth, hblob, Nat.not_le.mpr hkind]

theorem keyProvision_refuses (hkind : r.enum 0 4 0 < 2) (hblob : blobOf r = none) :
    cmdKeyProvision.run r s = .error (.implausible (Config.openDetail 0x0D11).toNat) := by
  simp [cmdKeyProvision, hsrc, hshut, hidle, hauth, hblob, Nat.not_le.mpr hkind]

end

/-! ### DIAG_LOOPBACK (R373) -/

/-- What DIAG_LOOPBACK starts. -/
def startLoopback (r : Req) (s : State) : State :=
  { s with loop := some { target := r.enum 0 5 0, ports := r.u32 4, src := r.src, seq := r.seq, until' := s.now + clampN (r.u32 8) 1 60000 * 1000000 } }

theorem startLoopback_accepted {src res : Nat} {d : List Byte} :
    startLoopback r (accepted src res d s) =
      { accepted src res d s with loop := some { target := r.enum 0 5 0, ports := r.u32 4, src := r.src, seq := r.seq, until' := s.now + clampN (r.u32 8) 1 60000 * 1000000 } } := by
  obtain ⟨h, o, e⟩ := accepted_frame src res d s
  rw [e]
  rfl

variable (hmode : s.sys.mode = .service)

include hmode

theorem loopback_judged : cmdDiagLoopback.run r s = if s.loop.isSome then .error (.busy 0x0E) else .ok { accepted := some 0, act := startLoopback r } :=
  if_neg (by rw [hmode]; simp)

theorem loopback_busy (h : s.loop.isSome = true) : cmdDiagLoopback.run r s = .error (.busy 0x0E) := (loopback_judged hmode).trans (if_pos h)

theorem loopback_starts (h : s.loop = none) : cmdDiagLoopback.run r s = .ok { accepted := some 0, act := startLoopback r } :=
  (loopback_judged hmode).trans (if_neg (by simp [h]))

end

/-- Settles O35: each row is the outcome of its checks, answered before its effect. -/
theorem securityCommandsAct : Obligations.SecurityCommandsAct := by
  unfold Obligations.SecurityCommandsAct
  intro t src s u r
  refine ⟨fun h hmode => ⟨fun hsrc => ?station, fun hsrc hidle hlock htoken hfew hroom => ?opens, fun hsrc hidle htoken => ?wrongToken⟩,
    fun h hmode hsrc hshut hidle => ⟨fun hlock htoken => ?provisions, fun htoken => ?wrongOwner⟩, fun h hmode => ⟨fun hbusy => ?loopBusy, fun hidle hroom => ?loops⟩⟩
  case station => exact exec_refused (c := .debugOpen t src) rfl h rfl rfl fixedLen_eq_none (legal_stopped rfl hmode) (debugOpen_station hsrc)
  case opens =>
    exact (exec_accepted (c := .debugOpen t src) (d := { accepted := some 0, act := _ }) rfl h rfl rfl fixedLen_eq_none (legal_stopped rfl hmode)
      (debugOpen_opens hsrc hidle (authorised_of_token hlock htoken) hfew) rfl hroom).trans (congrArg (fun e => Host.Outcome.next (after t s e)) beginOpen_accepted)
  case wrongToken =>
    exact exec_turnsAwayActing (c := .debugOpen t src) (u := u) rfl h rfl rfl rfl fixedLen_eq_none (legal_stopped rfl hmode) (debugOpen_fails hsrc hidle (authorised_of_wrong htoken)) rfl
  case provisions =>
    have hauth : authorised (field r.params 4 16) u = true := authorised_of_token hlock htoken
    refine ⟨fun hkind => ?draws, fun b hkind hblob => ?unwraps, fun hkind hblob => ?refuses⟩
    case draws => exact exec_answersIn (c := .keyProvision t src ()) (u := u) rfl h rfl rfl rfl rfl (legal_stopped rfl hmode) (keyProvision_draws hsrc hshut hidle hauth hkind) rfl
    case unwraps => exact exec_answersIn (c := .keyProvision t src ()) (u := u) rfl h rfl rfl rfl rfl (legal_stopped rfl hmode) (keyProvision_unwraps hsrc hshut hidle hauth hkind hblob) rfl
    case refuses =>
      exact ⟨_, exec_refused (c := .keyProvision t src ()) rfl h rfl rfl fixedLen_eq_none (legal_stopped rfl hmode) (keyProvision_refuses hsrc hshut hidle hauth hkind hblob)⟩
  case wrongOwner =>
    exact exec_turnsAwayActing (c := .keyProvision t src ()) (u := u) rfl h rfl rfl rfl fixedLen_eq_none (legal_stopped rfl hmode)
      (keyProvision_fails hsrc hshut hidle (authorised_of_wrong htoken)) rfl
  case loopBusy => exact exec_refused (c := .diagLoopback t src) rfl h rfl rfl fixedLen_eq_none (legal_service rfl hmode) (loopback_busy hmode hbusy)
  case loops =>
    exact (exec_accepted (c := .diagLoopback t src) (d := { accepted := some 0, act := _ }) rfl h rfl rfl fixedLen_eq_none (legal_service rfl hmode)
      (loopback_starts hmode hidle) rfl hroom).trans (congrArg (fun e => Host.Outcome.next (after t s e)) startLoopback_accepted)

end Sys2Proof.Machine
end

/-! The station bus and station time (R475, R476, R481 to R486, R490 to R492, R502, R504). -/
section

namespace Sys2Proof.Machine

open Sys2Proof Sys2Proof.Safety

theorem stnOn_iff (s : State) : stnOn s = true ↔ s.stn.up = true ∧ s.stn.cfg.enable = 1 := by
  simp [stnOn]

/-! ### The tests of a received frame (R481) -/

section

variable {f : NspFrame} {s e : State} {kind : Nat} {g : State → State}

theorem onAccepted_dropped (h : nspTest f s = (false, e)) : onAccepted kind f g s = e := by
  rw [onAccepted, h]

theorem onAccepted_accepted (h : nspTest f s = (true, e)) (hk : f.kind = kind) : onAccepted kind f g s = g e := by
  rw [onAccepted, h]
  exact if_pos hk

theorem nspTest_off (h : stnOn s = false) : nspTest f s = (false, s) := by
  simp [nspTest, h]

section

variable (hon : stnOn s = true)

include hon

theorem nspTest_elsewhere (hnode : f.dstNode ≠ s.stn.cfg.nodeId) (hall : f.dstNode ≠ 255) : nspTest f s = (false, { s with stn := { s.stn with lastRx := s.now } }) := by
  simp [nspTest, hon, hnode, hall]

variable (hnode : f.dstNode = s.stn.cfg.nodeId)

include hnode

theorem nspTest_otherVersion (hver : f.version ≠ 1) :
    nspTest f s = (false, { s with stn := { s.stn with lastRx := s.now, cnt := { s.stn.cnt with other := satInc 32 s.stn.cnt.other } } }) := by
  simp [nspTest, hon, hnode, hver, stnCount]

variable (hver : f.version = 1) (htype : nspType f.kind = true) (hmac : f.srcMac = s.stn.cfg.mac)

include hver htype hmac

/-- A frame of the station master whose bucket is empty. -/
theorem nspTest_rateDrop (hrate : s.stn.cfg.rate ≤ tget 0 f.srcMac s.stn.spent) :
    nspTest f s = (false, { s with stn := { s.stn with lastRx := s.now, cnt := { s.stn.cnt with rateDrop := satInc 32 s.stn.cnt.rateDrop } } }) := by
  rw [hmac] at hrate
  simp [nspTest, hon, hnode, hver, htype, hmac, takeToken, bucketOf, Nat.not_lt.mpr hrate, stnCount]

end

end

/-- A token of the sender's own bucket is spent (R482). -/
def tokenSpent (f : NspFrame) (s : State) : State :=
  { s with stn := { s.stn with lastRx := s.now, spent := tset 0 f.srcMac (tget 0 f.srcMac s.stn.spent + 1) s.stn.spent } }

/-- An accepted frame is counted, and the sender's SRC_BOOT and SEQ are kept. -/
def frameTaken (f : NspFrame) (s : State) : State :=
  validFrame { s with stn := { s.stn with cnt := { s.stn.cnt with rx := satInc 32 s.stn.cnt.rx }, peers := tset none f.srcMac (some (f.srcBoot, f.seq)) s.stn.peers } }

section

variable {f : NspFrame} {s : State} (hon : stnOn s = true) (hnode : f.dstNode = s.stn.cfg.nodeId) (hver : f.version = 1) (htype : nspType f.kind = true)
  (hmac : f.srcMac = s.stn.cfg.mac) (hspare : tget 0 f.srcMac s.stn.spent < s.stn.cfg.rate)

include hon hnode hver htype hmac hspare

/-- A frame of the station master with a token left meets tests 2 to 5, in their order. -/
theorem nspTest_judged : nspTest f s =
    if s.sec.stationKey.isNone then (false, stnCount (fun c => { c with noKey := satInc 32 c.noKey }) (tokenSpent f s))
    else if !tagOk f s then (false, stranger f.srcMac (stnCount (fun c => { c with strTag := satInc 32 c.strTag }) (tokenSpent f s)))
    else if !freshFrame f s then (false, stranger f.srcMac (stnCount (fun c => { c with strRep := satInc 32 c.strRep }) (tokenSpent f s)))
    else if !permitted f s then (false, stranger f.srcMac (stnCount (fun c => { c with strSrc := satInc 32 c.strSrc }) (tokenSpent f s)))
    else (true, frameTaken f (tokenSpent f s)) := by
  have htoken : takeToken f.srcMac { s with stn := { s.stn with lastRx := s.now } } = (true, tokenSpent f s) := by
    simp only [takeToken, bucketOf, hmac, decide_true, Bool.true_or, if_true]
    rw [hmac] at hspare
    simp only [hspare, if_true, tokenSpent, hmac]
  have hhere : (f.dstNode == s.stn.cfg.nodeId || f.dstNode == 255) = true := by simp [hnode]
  have hform : (f.version != 1 || !nspType f.kind) = false := by simp [hver, htype]
  simp only [nspTest, hon, hhere, hform, htoken, Bool.not_true, Bool.false_eq_true, if_false]
  rfl

theorem nspTest_noKey (hkey : s.sec.stationKey = none) : nspTest f s = (false, stnCount (fun c => { c with noKey := satInc 32 c.noKey }) (tokenSpent f s)) :=
  (nspTest_judged hon hnode hver htype hmac hspare).trans (if_pos (by simp [hkey]))

variable (hkey : s.sec.stationKey.isSome = true)

include hkey

theorem nspTest_badTag (htag : tagOk f s = false) : nspTest f s = (false, stranger f.srcMac (stnCount (fun c => { c with strTag := satInc 32 c.strTag }) (tokenSpent f s))) := by
  have hnone : ¬ s.sec.stationKey.isNone = true := by simpa using Option.isSome_iff_ne_none.mp hkey
  rw [nspTest_judged hon hnode hver htype hmac hspare, if_neg hnone, htag]
  rfl

variable (htag : tagOk f s = true)

include htag

theorem nspTest_replay (hfresh : freshFrame f s = false) : nspTest f s = (false, stranger f.srcMac (stnCount (fun c => { c with strRep := satInc 32 c.strRep }) (tokenSpent f s))) := by
  have hnone : ¬ s.sec.stationKey.isNone = true := by simpa using Option.isSome_iff_ne_none.mp hkey
  rw [nspTest_judged hon hnode hver htype hmac hspare, if_neg hnone, htag, hfresh]
  rfl

variable (hfresh : freshFrame f s = true)

include hfresh

theorem nspTest_unaccepted (hperm : permitted f s = false) : nspTest f s = (false, stranger f.srcMac (stnCount (fun c => { c with strSrc := satInc 32 c.strSrc }) (tokenSpent f s))) := by
  have hnone : ¬ s.sec.stationKey.isNone = true := by simpa using Option.isSome_iff_ne_none.mp hkey
  rw [nspTest_judged hon hnode hver htype hmac hspare, if_neg hnone, htag, hfresh, hperm]
  rfl

theorem nspTest_accepts (hperm : permitted f s = true) : nspTest f s = (true, frameTaken f (tokenSpent f s)) := by
  have hnone : ¬ s.sec.stationKey.isNone = true := by simpa using Option.isSome_iff_ne_none.mp hkey
  rw [nspTest_judged hon hnode hver htype hmac hspare, if_neg hnone, htag, hfresh, hperm]
  rfl

end

section

variable {f : NspFrame} {s : State}

theorem permitted_status (h : f.kind = 1) : permitted f s = true := if_pos h

theorem permitted_command (h : f.kind = 2) (hmac : f.srcMac = s.stn.cfg.mac) (hmaster : s.stn.cfg.master ≠ 255) : permitted f s = true := by
  simp [permitted, h, hmac, hmaster]

theorem permitted_update (h : f.kind = 0x10 ∨ f.kind = 0x11 ∨ f.kind = 0x13) (hmac : f.srcMac = s.stn.cfg.mac) : permitted f s = true := by
  rcases h with h | h | h <;> simp [permitted, h, hmac]

theorem permitted_never (h : f.kind = 3 ∨ f.kind = 4 ∨ f.kind = 0x12) : permitted f s = false := by
  rcases h with h | h | h <;> simp [permitted, h]

/-- A peer's second frame must follow its first (R481). -/
theorem freshFrame_same {b q : Nat} (h : tget none f.srcMac s.stn.peers = some (b, q)) (hb : b = f.srcBoot) : freshFrame f s = follows 32 q f.seq := by
  rw [freshFrame, h]
  exact if_pos hb

/-- The rows of the five types that a station may send to the device, each with its effect. -/
def frameRows (t : Nat) (f : NspFrame) (flashOk : Bool) : List Instr :=
  [.nspStatus t f, .nspCommand t f, .nspUpdAnnounce t f, .nspUpdPiece t f flashOk, .nspUpdSchedule t f]

/-- A frame that fails a test has no effect but that of the test, whatever row it comes in. -/
theorem exec_frameRows_dropped {t : Nat} {flashOk : Bool} {e : State} (h : nspTest f (s.at t) = (false, e)) : ∀ c ∈ frameRows t f flashOk, exec c s = .next (after t s e) := by
  intro c hc
  simp only [frameRows, List.mem_cons, List.not_mem_nil, or_false] at hc
  rcases hc with rfl | rfl | rfl | rfl | rfl <;> exact congrArg (fun e => Host.Outcome.next (after t s e)) (onAccepted_dropped h)

/-- A flash that fails a piece which it had to write fails the update (R502, R505). -/
theorem nspPiece_flashFails {i : Nat} (hi : field f.payload 4 4 = i) (hmode : updOn s.sys.mode = true) (hst : s.upd.state = 1) (himage : field f.payload 0 4 = s.upd.dl.id) (hin : i < pieceCount s.upd.dl.bytes)
    (hbytes : field f.payload 8 2 = pieceBytes s.upd.dl i) (hlen : f.payload.length = 12 + pieceBytes s.upd.dl i) (hnew : bit s.upd.dl.held i = false)
    (hneed : i < 64 ∨ (s.upd.dl.comps.isSome = true ∧ needed s.upd.dl i = true)) : nspPiece f false s = updFail 6 { s with upd := { s.upd with lastPiece := s.now } } := by
  subst hi
  have hwrites : (!(bit s.upd.dl.held (field f.payload 4 4)) && (decide (field f.payload 4 4 < 64) || (s.upd.dl.comps.isSome && needed s.upd.dl (field f.payload 4 4)))) = true := by
    rw [hnew]
    simpa using hneed
  simp only [nspPiece, hmode, hst, himage, hbytes, hlen, Nat.not_le.mpr hin, flashed, hwrites]
  simp

end

/-! ### Station time (R490 to R492) -/

section

variable {off : Int} {s : State}

theorem correctTime_slews (h : off.natAbs < 1000000) :
    correctTime off s = { s with time := { s.time with offset := s.time.offset + slewed s.time s.now, slew := -off, slewAt := s.now, everSet := true } } :=
  if_pos (by simp [h])

theorem correctTime_steps (h : 100000000 ≤ off.natAbs) :
    correctTime off s = { s with time := { s.time with offset := s.time.offset + slewed s.time s.now - off, slew := 0, slewAt := s.now, everSet := true },
                                 stn := { s.stn with cnt := { s.stn.cnt with steps := satInc 32 s.stn.cnt.steps } } } := by
  refine if_neg ?_
  simp only [Bool.or_eq_true, Bool.and_eq_true, decide_eq_true_eq]
  omega

theorem syncMessage_off (h : stnOn s = false) : syncMessage off s = s := by
  simp [syncMessage, h]

theorem peerDelay_off {d : Nat} (h : stnOn s = false) : peerDelay d s = s := by
  simp [peerDelay, h]

section

variable (hon : stnOn s = true)

include hon

theorem syncMessage_otherSource (h : s.time.source ≠ 0) : syncMessage off s = validFrame s := by
  have hsource : (validFrame s).time.source = s.time.source := rfl
  simp [syncMessage, hon, hsource, h]

theorem peerDelay_otherSource {d : Nat} (h : s.time.source ≠ 0) : peerDelay d s = validFrame s := by
  have hsource : (validFrame s).time.source = s.time.source := rfl
  simp [peerDelay, hon, hsource, h]

variable (hsource : s.time.source = 0)

include hsource

theorem peerDelay_taken {d : Nat} : peerDelay d s = { validFrame s with time := { s.time with delay := Nat.min d 4294967295 } } := by
  have hfollows : ((validFrame s).time.source != 0) = false := by
    show (s.time.source != 0) = false
    simp [hsource]
  simp only [peerDelay, hon, hfollows, Bool.not_true, Bool.false_eq_true, if_false]
  rfl

/-- A Sync of the source that the device follows corrects the time, and counts towards SYNC where it is within 1 µs. -/
theorem syncMessage_corrects {good : Nat} (hgood : (if off.natAbs ≤ 1000 then s.time.good + 1 else 0) = good) :
    let e := correctTime off (emit (.peerDelayReq (Config.stationMac).toNat s.time.domain) (validFrame s))
    syncMessage off s = { e with time := { e.time with measured := clampI off (-2147483648) 2147483647, good := Nat.min good 8, lastSync := e.now, state := if 8 ≤ good then 2 else e.time.state } } := by
  subst hgood
  have hfollows : ((validFrame s).time.source != 0) = false := by
    show (s.time.source != 0) = false
    simp [hsource]
  simp only [syncMessage, hon, hfollows, Bool.not_true, Bool.false_eq_true, if_false]
  rfl

theorem syncMessage_near (h : off.natAbs ≤ 1000) :
    syncMessage off s = { emit (.peerDelayReq (Config.stationMac).toNat s.time.domain) (validFrame s) with
      time := { s.time with offset := s.time.offset + slewed s.time s.now, slew := -off, slewAt := s.now, everSet := true, measured := off, good := Nat.min (s.time.good + 1) 8, lastSync := s.now,
                            state := if 8 ≤ s.time.good + 1 then 2 else s.time.state } } := by
  have hmeasured : clampI off (-2147483648) 2147483647 = off := by
    unfold clampI
    split
    · omega
    · split
      · omega
      · rfl
  rw [syncMessage_corrects hon hsource (if_pos h), correctTime_slews (by omega), hmeasured]
  rfl

theorem syncMessage_far (h : 100000000 ≤ off.natAbs) :
    syncMessage off s = { emit (.peerDelayReq (Config.stationMac).toNat s.time.domain) (validFrame s) with
      stn := { s.stn with lastRx := s.now, cnt := { s.stn.cnt with steps := satInc 32 s.stn.cnt.steps } },
      time := { s.time with offset := s.time.offset + slewed s.time s.now - off, slew := 0, slewAt := s.now, everSet := true, measured := clampI off (-2147483648) 2147483647, good := 0, lastSync := s.now } } := by
  rw [syncMessage_corrects hon hsource (if_neg (by omega)), correctTime_steps h]
  rfl

end

theorem holdover_begins (hst : s.time.state = 2) (hdue : s.time.lastSync + 1000000000 ≤ s.now) : holdover s = { s with time := { s.time with state := 3, good := 0 } } :=
  if_pos (by simp [hst, hdue])

theorem holdover_rests (h : s.time.state ≠ 2 ∨ s.now < s.time.lastSync + 1000000000) : holdover s = s := by
  refine if_neg ?_
  rw [Bool.and_eq_true, decide_eq_true_eq, decide_eq_true_eq]
  omega

theorem hostDecay_begins (hst : s.time.state = 1) (hdue : s.time.lastHost + 600000000000 ≤ s.now) : hostDecay s = { s with time := { s.time with state := 0 } } :=
  if_pos (by simp [hst, hdue])

theorem hostDecay_rests (h : s.time.state ≠ 1 ∨ s.now < s.time.lastHost + 600000000000) : hostDecay s = s := by
  refine if_neg ?_
  rw [Bool.and_eq_true, decide_eq_true_eq, decide_eq_true_eq]
  omega

/-! ### The bus and its frames (R475, R482, R484, R504, Table 16.4) -/

theorem otherFrame_off (h : stnOn s = false) : otherFrame s = s := by
  simp [otherFrame, h]

theorem otherFrame_counts (h : stnOn s = true) :
    otherFrame s = { s with stn := { s.stn with lastRx := s.now, cnt := { s.stn.cnt with other := satInc 32 s.stn.cnt.other } } } := if_pos h

theorem refill_due (h : s.stn.refillAt = 0 ∨ s.stn.refillAt + 10000000 ≤ s.now + 1) : refill s = { s with stn := { s.stn with spent := [], refillAt := s.now + 1 } } := by
  refine if_neg ?_
  rw [Bool.and_eq_true, decide_eq_true_eq, bne_iff_ne]
  omega

theorem refill_waits (h : s.stn.refillAt ≠ 0) (hearly : s.now + 1 < s.stn.refillAt + 10000000) : refill s = s :=
  if_pos (by simp [h, hearly])

/-- The bus is lost 5 s after the last frame; time that was not synchronised stays as it is. -/
theorem stnLost_raises (hon : stnOn s = true) (hdue : s.stn.lastRx + 5000000000 ≤ s.now) (hnew : faultActive s 0x0901 0xFFFF = false) (htime : s.time.state ≠ 2) :
    stnLost s = raise 0x0901 0xFFFF s := by
  obtain ⟨x, hraise⟩ := raise_frame 0x0901 0xFFFF s
  have hkept : (raise 0x0901 0xFFFF s).time.state ≠ 2 := by rwa [hraise]
  simp [stnLost, hon, hdue, hnew, hkept]

theorem stnLost_rests (h : stnOn s = false ∨ s.now < s.stn.lastRx + 5000000000 ∨ faultActive s 0x0901 0xFFFF = true) : stnLost s = s := by
  refine if_neg ?_
  rw [Bool.and_eq_true, Bool.and_eq_true, decide_eq_true_eq, Bool.not_eq_true']
  rintro ⟨⟨hon, hdue⟩, hnew⟩
  rcases h with h | h | h
  · exact Bool.false_ne_true (h.symm.trans hon)
  · omega
  · exact Bool.false_ne_true (hnew.symm.trans h)

theorem sendStatus_sends (hready : nspReady s = true) (hdue : s.stn.statusDue = true ∨ s.stn.lastStatus + 1000000000 ≤ s.now) :
    sendStatus s = nspSend (2 ^ 48 - 1) 1 255 (statusPayload s) { s with stn := { s.stn with statusDue := false, lastStatus := s.now } } :=
  if_neg (by rcases hdue with h | h <;> simp [hready, h])

theorem sendStatus_rests (h : nspReady s = false ∨ (s.stn.statusDue = false ∧ s.now < s.stn.lastStatus + 1000000000)) : sendStatus s = s :=
  if_pos (by rcases h with h | ⟨h, hearly⟩ <;> simp [*])

theorem sendNeed_frame (s : State) : ∃ (n : StnSt) (o : List Out), sendNeed s = { s with stn := n, out := o } := by
  unfold sendNeed
  dsimp only
  split
  · exact ⟨_, _, rfl⟩
  · exact nspSend_frame ..

theorem needDue_sends (hst : s.upd.state = 1) (hmode : updOn s.sys.mode = true) (hdue : s.upd.lastPiece + 30000000000 ≤ s.now) :
    (needDue s).upd = { s.upd with lastPiece := s.now } ∧ (needDue s).out = (sendNeed s).out := by
  obtain ⟨n, o, hneed⟩ := sendNeed_frame s
  rw [needDue, if_pos (by simp [hst, hmode, hdue]), hneed]
  exact ⟨rfl, rfl⟩

theorem needDue_rests (h : s.upd.state ≠ 1 ∨ s.now < s.upd.lastPiece + 30000000000) : needDue s = s := by
  refine if_neg ?_
  simp only [Bool.and_eq_true, decide_eq_true_eq]
  omega

end

/-- Settles O58: each row is one of the cases above, at the instant of the row. -/
theorem stationFramesAndTimeAct : Obligations.StationFramesAndTimeAct := by
  unfold Obligations.StationFramesAndTimeAct
  intro t delay off f flashOk s u on heard cnt rows base asked
  have hbus (h : on) : stnOn u = true := (stnOn_iff u).mpr h
  have hoff (h : ¬on) : stnOn u = false := Bool.eq_false_iff.mpr fun hon => h ((stnOn_iff u).mp hon)
  have next {g : State → State} {e : State} (h : g u = e) : Host.Outcome.next (ρ := Refusal) (φ := Fault) (after t s (g u)) = .next (after t s e) := h ▸ rfl
  refine ⟨fun h => ⟨exec_frameRows_dropped (nspTest_off (hoff h)), next (otherFrame_off (hoff h)), next (syncMessage_off (hoff h)), next (peerDelay_off (hoff h))⟩,
    fun h => next (otherFrame_counts (hbus h)), fun h hnode hall => exec_frameRows_dropped (nspTest_elsewhere (hbus h) hnode hall),
    fun h hnode hver => exec_frameRows_dropped (nspTest_otherVersion (hbus h) hnode hver), fun h hnode hver htype hmac => ⟨fun hrate => ?rateDrop, fun hspare => ?tested⟩,
    fun b q hpeer hb => freshFrame_same hpeer hb, fun h => next (refill_due h), fun h hearly => next (refill_waits h hearly),
    fun h hsource hnear => next (syncMessage_near (hbus h) hsource hnear), fun h hsource hfar => next (syncMessage_far (hbus h) hsource hfar),
    fun h hsource => ⟨next (syncMessage_otherSource (hbus h) hsource), next (peerDelay_otherSource (hbus h) hsource)⟩, fun h hsource => next (peerDelay_taken (hbus h) hsource),
    fun hst hdue => next (holdover_begins hst hdue), fun h => next (holdover_rests h), fun hst hdue => next (hostDecay_begins hst hdue), fun h => next (hostDecay_rests h),
    fun h hdue hnew htime => next (stnLost_raises (hbus h) hdue hnew htime), fun h => next (stnLost_rests (h.imp_left hoff)),
    fun hready hdue => next (sendStatus_sends hready hdue), fun h => next (sendStatus_rests h), fun hst hmode hdue => ⟨_, rfl, needDue_sends hst hmode hdue⟩, fun h => next (needDue_rests h)⟩
  case rateDrop => exact exec_frameRows_dropped (nspTest_rateDrop (hbus h) hnode hver htype hmac hrate)
  case tested =>
    refine ⟨fun hkey => exec_frameRows_dropped (nspTest_noKey (hbus h) hnode hver htype hmac hspare hkey), fun hkey htag => exec_frameRows_dropped (nspTest_badTag (hbus h) hnode hver htype hmac hspare hkey htag),
      fun hkey htag hfresh => exec_frameRows_dropped (nspTest_replay (hbus h) hnode hver htype hmac hspare hkey htag hfresh), fun hkey htag hfresh => ?fresh⟩
    have accepts (hperm : permitted f u = true) : nspTest f u = (true, frameTaken f (tokenSpent f u)) := nspTest_accepts (hbus h) hnode hver htype hmac hspare hkey htag hfresh hperm
    refine ⟨fun hk => next (onAccepted_accepted (accepts (permitted_status hk)) hk), fun hk hmaster => next (onAccepted_accepted (accepts (permitted_command hk hmac hmaster)) hk),
      fun hk => next (onAccepted_accepted (accepts (permitted_update (.inl hk) hmac)) hk), fun hk => next (onAccepted_accepted (accepts (permitted_update (.inr (.inl hk)) hmac)) hk),
      fun hk hmode hst himage hin hbytes hlen hnew hneed => ?flashFails, fun hk => next (onAccepted_accepted (accepts (permitted_update (.inr (.inr hk)) hmac)) hk), fun hk => ?never⟩
    case flashFails =>
      exact next ((onAccepted_accepted (g := nspPiece f false) (accepts (permitted_update (.inr (.inl hk)) hmac)) hk).trans (nspPiece_flashFails rfl hmode hst himage hin hbytes hlen hnew hneed))
    case never =>
      have hrow : [3, 4, 0x12].contains f.kind = true := by rcases hk with hk | hk | hk <;> rw [hk] <;> rfl
      refine next (g := fun s => if [3, 4, 0x12].contains f.kind then (nspTest f s).2 else s) ((if_pos hrow).trans ?_)
      rw [nspTest_unaccepted (hbus h) hnode hver htype hmac hspare hkey htag hfresh (permitted_never hk)]
      rfl

end Sys2Proof.Machine
end

/-! Field update: pieces, verification, activation, switch-over, rollback and the trial's window (R502 to R516). -/
section

namespace Sys2Proof.Machine

open Sys2Proof Sys2Proof.Safety

/-! ### UPD_PIECE_COMPLETE (R502, R503, R516) -/

/-- The UPD_PIECE command of a piece, among the accepted commands. -/
def pieceCmd (p : PieceTx) (q : Pend) : Bool := q.opcode == 0x0C11 && q.src == p.src && q.seq == p.seq

/-- A piece's command completes as failed, with a DETAIL that the manual leaves open (log 74). -/
def pieceFailed (p : PieceTx) (s : State) : State :=
  complete (pieceCmd p) jobFailed ((Config.freeValue s.free).toNat % 65536) 0 { s with free := s.free + 1 }

section

variable {ok : Bool} {p : PieceTx} {rest : List PieceTx} {s : State}

theorem updPieceComplete_none (h : s.upd.pieces = []) : updPieceComplete ok s = s := by
  rw [updPieceComplete, h]

variable (h : s.upd.pieces = p :: rest)

include h

theorem updPieceComplete_waits (himage : s.upd.dl.id = p.image) (hst : s.upd.state = 2) : updPieceComplete ok s = s := by
  rw [updPieceComplete, h]
  exact if_pos (by simp [himage, hst])

theorem updPieceComplete_held (himage : s.upd.dl.id = p.image) (hlow : 3 ≤ s.upd.state) (hhigh : s.upd.state ≤ 6) :
    updPieceComplete ok s = complete (pieceCmd p) 0 0 0 { s with upd := { s.upd with pieces := rest } } := by
  rw [updPieceComplete, h]
  exact (if_neg (by simp; omega)).trans (if_pos (by simp [himage, hlow, hhigh]))

/-- The download of the piece has ended, or has been replaced by another. -/
theorem updPieceComplete_ended (hended : s.upd.dl.id ≠ p.image ∨ s.upd.state = 0 ∨ 7 ≤ s.upd.state) :
    updPieceComplete ok s = pieceFailed p { s with upd := { s.upd with pieces := rest } } := by
  rw [updPieceComplete, h]
  refine (if_neg ?_).trans ((if_neg ?_).trans (if_pos ?_))
  · simp only [Bool.and_eq_true, decide_eq_true_eq]
    omega
  · simp only [Bool.and_eq_true, decide_eq_true_eq]
    omega
  · simp only [Bool.or_eq_true, bne_iff_ne]
    omega

variable (himage : s.upd.dl.id = p.image) (hst : s.upd.state = 1)

include himage hst

/-- A piece of the open download is judged by its flash, and then by the state that its programming leaves. -/
theorem updPieceComplete_judged {m : State} (hm : programMeg p { s with upd := { s.upd with pieces := rest } } = m) :
    updPieceComplete ok s = if !ok then pieceFailed p (updFail 6 { s with upd := { s.upd with pieces := rest } })
      else if m.upd.state != 1 then pieceFailed p m else complete (pieceCmd p) 0 0 0 (tryVerify (saveDownload m)) := by
  rw [updPieceComplete, h]
  dsimp only
  rw [hm]
  exact (if_neg (by simp [hst])).trans ((if_neg (by simp [hst])).trans (if_neg (by simp [hst, himage])))

theorem updPieceComplete_taken {m : State} (hm : programMeg p { s with upd := { s.upd with pieces := rest } } = m) (htaken : m.upd.state = 1) :
    updPieceComplete true s = complete (pieceCmd p) 0 0 0 (tryVerify (saveDownload m)) :=
  (updPieceComplete_judged h himage hst hm).trans ((if_neg (by decide)).trans (if_neg (by simp [htaken])))

/-- A header that fails its checks ends the update with the piece that completed it. -/
theorem updPieceComplete_headerFails {m : State} (hm : programMeg p { s with upd := { s.upd with pieces := rest } } = m) (htaken : m.upd.state ≠ 1) :
    updPieceComplete true s = pieceFailed p m :=
  (updPieceComplete_judged h himage hst hm).trans ((if_neg (by decide)).trans (if_pos (by simp [htaken])))

theorem updPieceComplete_flashFails :
    updPieceComplete false s = pieceFailed p (updFail 6 { s with upd := { s.upd with pieces := rest } }) :=
  (updPieceComplete_judged h himage hst rfl).trans (if_pos rfl)

end

/-- A failed update is FAILED with its REASON, and keeps the rest of its state (R496, R505). -/
theorem updFail_upd (reason : Nat) (s : State) : (updFail reason s).upd = { s.upd with state := 7, result := reason } := by
  rw [updFail, evUpdate_upd, setUpd_upd]

/-! ### Verification (R505, R516) -/

/-- Events of one REASON change LAST_RESULT alone, where there is any. -/
theorem foldl_evUpdate_upd {kind reason : Nat} {l : List Nat} {s : State} (h : l ≠ []) : (l.foldl (fun s c => evUpdate kind c reason s) s).upd = { s.upd with result := reason } := by
  induction l generalizing s with
  | nil => exact absurd rfl h
  | cons c l ih =>
    rw [List.foldl_cons]
    rcases eq_or_ne l [] with rfl | hl
    · exact evUpdate_upd ..
    · rw [ih hl, evUpdate_upd]

section

variable {errors : Nat} {ok : Bool} {s : State}

theorem verified_idle (h : s.upd.state ≠ 2) : verified errors ok s = s := if_pos (by simp [h])

section

variable (hst : s.upd.state = 2)

include hst

theorem verified_flashFails : verified errors false s = updFail 6 { s with upd := { s.upd with late := [] } } :=
  (if_neg (by simp [hst])).trans (if_pos rfl)

section

variable (hgood : ∀ k, k < 4 → digestOk s.upd.dl errors k = true)

include hgood

/-- An image whose components read back is VERIFIED where its combinations are compatible, and fails else. -/
theorem verified_judged : verified errors true s =
    if genOk s (s.upd.dl.comps.getD []) && compatible (s.upd.dl.comps.getD []) && (s.sys.mode == .recovery || stepsOk s (s.upd.dl.comps.getD [])) then
      evUpdate 2 0xFF 0 (setUpd 3 { s with upd := { s.upd with late := [], slots := s.upd.slots.set (inactiveSlot s) (some (s.upd.dl.comps.getD [])), newSlot := inactiveSlot s, noSet := false } })
    else updFail 2 { s with upd := { s.upd with late := [] } } := by
  have hnone : (List.range 4).filter (fun c => !(digestOk s.upd.dl errors c)) = [] := by
    rw [List.filter_eq_nil_iff]
    intro k hk
    simp [hgood k (List.mem_range.mp hk)]
  refine (if_neg (by simp [hst])).trans ((if_neg (by decide)).trans ?_)
  dsimp only
  rw [hnone]
  rfl

theorem verified_passes (hcomb : (genOk s (s.upd.dl.comps.getD []) && compatible (s.upd.dl.comps.getD []) && (s.sys.mode == .recovery || stepsOk s (s.upd.dl.comps.getD []))) = true) :
    verified errors true s = evUpdate 2 0xFF 0
      { s with upd := { s.upd with late := [], slots := s.upd.slots.set (inactiveSlot s) (some (s.upd.dl.comps.getD [])), newSlot := inactiveSlot s, noSet := false, state := 3 },
               stn := { s.stn with statusDue := true } } := by
  have hnew : s.upd.state ≠ 3 := by omega
  rw [verified_judged hst hgood, if_pos hcomb]
  exact congrArg (evUpdate 2 0xFF 0) (setUpd_other hnew)

theorem verified_incompatible (hcomb : (genOk s (s.upd.dl.comps.getD []) && compatible (s.upd.dl.comps.getD []) && (s.sys.mode == .recovery || stepsOk s (s.upd.dl.comps.getD []))) = false) :
    verified errors true s = updFail 2 { s with upd := { s.upd with late := [] } } := by
  rw [verified_judged hst hgood, hcomb]
  rfl

end

/-- Where a component does not read back the download goes on, first with the pieces that came meanwhile. -/
theorem verified_refetches (hbad : ∃ k, k < 4 ∧ ¬ digestOk s.upd.dl errors k = true) :
    ∃ v : State, v.upd.state = 1 ∧ v.upd.result = 5 ∧ v.upd.late = [] ∧
      verified errors true s = if s.upd.late.isEmpty then v else tryVerify (s.upd.late.foldl (fun s e => if s.upd.state = 1 then saveEvery (takePiece1 e.1 e.2 s) else s) v) := by
  obtain ⟨k, hk, hfails⟩ := hbad
  have hmem : k ∈ (List.range 4).filter (fun c => !(digestOk s.upd.dl errors c)) := List.mem_filter.mpr ⟨List.mem_range.mpr hk, by simpa using hfails⟩
  rw [verified, if_neg (by simp [hst]), if_neg (by decide)]
  dsimp only
  split
  · next hnone =>
    rw [hnone] at hmem
    cases hmem
  · next hsome =>
    refine ⟨_, ?_, ?_, ?_, rfl⟩
    · rw [setUpd_upd, foldl_evUpdate_upd hsome]
    · rw [setUpd_upd, foldl_evUpdate_upd hsome]
    · rw [setUpd_upd, foldl_evUpdate_upd hsome]
      rfl

end

end

/-! ### Activation (R508) -/

section

variable {s : State}

theorem activation_unscheduled (h : s.upd.sched = none) : activationTime s = s ∧ activationWindowEnd s = s := by
  rw [activationTime, activationWindowEnd, h]
  exact ⟨rfl, rfl⟩

theorem canActivate_iff : canActivate s = true ↔ quietNow s = true ∧ storeTotal s = 0 := by
  simp [canActivate]

theorem canActivate_of_busy (h : quietNow s = false ∨ storeTotal s ≠ 0) : canActivate s = false := by
  rw [Bool.eq_false_iff, Ne, canActivate_iff]
  rintro ⟨hquiet, hempty⟩
  exact h.elim (fun h => Bool.false_ne_true (h.symm.trans hquiet)) (fun h => h hempty)

variable {c : Sched} (h : s.upd.sched = some c)

include h

theorem activationTime_rests (hnot : s.upd.state ≠ 4 ∨ stationTime s < c.time ∨ s.upd.waiting = true) : activationTime s = s := by
  rw [activationTime, h]
  exact if_pos (by simpa [or_assoc] using hnot)

theorem activationWindowEnd_ends (hst : s.upd.state = 4) (hwait : s.upd.waiting = true) (hover : c.time + c.window * 1000000000 ≤ stationTime s) :
    activationWindowEnd s = unschedule 5 4 s := by
  rw [activationWindowEnd, h]
  exact if_pos (by simp [windowOver, hst, hwait, hover])

theorem activationWindowEnd_rests (hnot : s.upd.state ≠ 4 ∨ s.upd.waiting = false ∨ stationTime s < c.time + c.window * 1000000000) : activationWindowEnd s = s := by
  rw [activationWindowEnd, h]
  refine if_neg ?_
  simp only [windowOver, Bool.and_eq_true, beq_iff_eq, decide_eq_true_eq]
  rintro ⟨⟨hst, hwait⟩, hover⟩
  rcases hnot with hn | hn | hn
  · exact hn hst
  · exact Bool.false_ne_true (hn.symm.trans hwait)
  · omega

variable (hst : s.upd.state = 4) (htime : c.time ≤ stationTime s) (hfirst : s.upd.waiting = false)

include hst htime hfirst

theorem activationTime_judged : activationTime s =
    if canActivate s then activate s else if c.policy = 0 then unschedule 5 3 s else if windowOver s c then unschedule 5 4 s else { s with upd := { s.upd with waiting := true } } := by
  rw [activationTime, h]
  exact if_neg (by simp [hst, htime, hfirst])

theorem activationTime_activates (hquiet : quietNow s = true) (hempty : storeTotal s = 0) : activationTime s = activate s :=
  (activationTime_judged h hst htime hfirst).trans (if_pos (canActivate_iff.mpr ⟨hquiet, hempty⟩))

section

variable (hbusy : quietNow s = false ∨ storeTotal s ≠ 0)

include hbusy

theorem activationTime_gives_up (hpolicy : c.policy = 0) : activationTime s = unschedule 5 3 s := by
  rw [activationTime_judged h hst htime hfirst, canActivate_of_busy hbusy, if_neg Bool.false_ne_true, if_pos hpolicy]

theorem activationTime_waits (hpolicy : c.policy ≠ 0) :
    activationTime s = if c.time + c.window * 1000000000 ≤ stationTime s then unschedule 5 4 s else { s with upd := { s.upd with waiting := true } } := by
  rw [activationTime_judged h hst htime hfirst, canActivate_of_busy hbusy, if_neg Bool.false_ne_true, if_neg hpolicy]
  simp only [windowOver, decide_eq_true_eq]

end

end

/-! ### Switch-over and rollback (R509 to R511) -/

section

variable {ok : Bool} {cfg : Option Bank} {s : State}

theorem switchStep_activate (h : s.sys.mode = .activate) : switchStep ok cfg s = bootFromActivate (evUpdate 7 0 0 (commitStep 1 s)) := if_pos h

theorem switchStep_rests (h : s.sys.mode ≠ .activate ∧ s.sys.mode ≠ .boot ∨ s.sys.mode = .boot ∧ (s.upd.boot.act ≠ 1 ∨ s.upd.confirmed = true)) : switchStep ok cfg s = s := by
  rcases h with ⟨hact, hboot⟩ | ⟨hboot, hdone⟩
  · exact (if_neg hact).trans (if_pos (by simp [hboot]))
  · exact (if_neg (by simp [hboot])).trans (if_pos (by simpa [hboot] using hdone))

section

variable (hmode : s.sys.mode = .boot) (hact : s.upd.boot.act = 1) (hopen : s.upd.confirmed = false)

include hmode hact hopen

theorem switchStep_fails : switchStep false cfg s = beginRollback 2 (s.upd.boot.step - 1) s :=
  (if_neg (by simp [hmode])).trans ((if_neg (by simp [hmode, hact, hopen])).trans (if_pos rfl))

/-- A combination beyond the first tells of the step that it confirms, and below the fourth the next is committed. -/
theorem switchStep_commits (hstep : s.upd.boot.step < 4) :
    switchStep true cfg s = commitStep (s.upd.boot.step + 1) (if 2 ≤ s.upd.boot.step then evUpdate 7 (s.upd.boot.step - 1) 0 s else s) :=
  (if_neg (by simp [hmode])).trans ((if_neg (by simp [hmode, hact, hopen])).trans ((if_neg (by decide)).trans (if_pos hstep)))

theorem switchStep_confirms (hstep : 4 ≤ s.upd.boot.step) :
    switchStep true none s = { evUpdate 7 (s.upd.boot.step - 1) 0 s with upd := { s.upd with result := 0, confirmed := true } } := by
  have htold : (if 2 ≤ s.upd.boot.step then evUpdate 7 (s.upd.boot.step - 1) 0 s else s) = evUpdate 7 (s.upd.boot.step - 1) 0 s := if_pos (by omega)
  refine (if_neg (by simp [hmode])).trans ((if_neg (by simp [hmode, hact, hopen])).trans ((if_neg (by decide)).trans ((if_neg (by omega)).trans ?_)))
  rw [htold, evUpdate_upd]

end

@[simp] theorem evUpdate_banks (kind comp reason : Nat) (s : State) : (evUpdate kind comp reason s).banks = s.banks := by
  obtain ⟨h, n, o, w⟩ := post_frame 12 0xFFFF (layout 16 [(0, 1, kind), (1, 1, comp), (2, 2, reason), (4, 4, s.upd.dl.id), (8, 4, receivedCount s.upd.dl 1)]) { s with upd.result := reason }
  rw [evUpdate, w]

/-- The record of a rollback that takes component c back to PREV_SEL. -/
def takenBack (b : BootRec) (c : Nat) : BootRec := { b with sel := setBit b.sel c (b.prevSel.testBit c), step := b.step + 1 }

theorem reverseOne_of_last {c : Nat} (h : ((List.range 4).filter (fun c => bit s.upd.boot.sel c != bit s.upd.boot.prevSel c)).getLast? = some c) :
    reverseOne s = (some c, commitRecord (takenBack s.upd.boot c) s) := by
  rw [reverseOne, h]
  rfl

/-- CFG is the first to be taken back where it differs. -/
theorem reverseOne_cfg (h : s.upd.boot.sel.testBit 3 ≠ s.upd.boot.prevSel.testBit 3) : reverseOne s = (some 3, commitRecord (takenBack s.upd.boot 3) s) := by
  refine reverseOne_of_last ?_
  rw [List.range_succ, List.filter_append]
  simp [bit, h]

/-- SC is taken back once no other component differs. -/
theorem reverseOne_sc (h0 : s.upd.boot.sel.testBit 0 ≠ s.upd.boot.prevSel.testBit 0) (hrest : ∀ k, k ∈ [1, 2, 3] → s.upd.boot.sel.testBit k = s.upd.boot.prevSel.testBit k) :
    reverseOne s = (some 0, commitRecord (takenBack s.upd.boot 0) s) := by
  refine reverseOne_of_last ?_
  have h1 := hrest 1 (by decide)
  have h2 := hrest 2 (by decide)
  have h3 := hrest 3 (by decide)
  simp [List.range_succ, bit, h0, h1, h2, h3, -Nat.testBit_zero]

theorem rollbackStep_rests (h : s.sys.mode ≠ .boot ∨ s.upd.boot.act ≠ 3) : rollbackStep s = s := if_pos (by simpa using h)

section

variable (hmode : s.sys.mode = .boot) (hact : s.upd.boot.act = 3)

include hmode hact

theorem rollbackStep_sc {e : State} (h : reverseOne s = (some 0, e)) : rollbackStep s = resetTo .internal e := by
  rw [rollbackStep, if_neg (by simp [hmode, hact]), h]
  rfl

theorem rollbackStep_other {c : Nat} {e : State} (hc : c ≠ 0) (h : reverseOne s = (some c, e)) : rollbackStep s = e := by
  rw [rollbackStep, if_neg (by simp [hmode, hact]), h]
  split
  · next heq => exact absurd (Option.some.inj (Prod.mk.inj heq).1) hc
  · next heq => exact (Prod.mk.inj heq).2.symm

end

/-! ### The window of an unconfirmed trial (R513) -/

theorem windowExpiry_rests (h : s.upd.trialAt = none ∨ s.upd.state ≠ 6) : windowExpiry s = s := by
  unfold windowExpiry
  split
  · next htrial => exact if_pos (by simpa using Or.inl (h.resolve_left (by simp [htrial])))
  · rfl

section

variable {t : Nat} (htrial : s.upd.trialAt = some t) (hst : s.upd.state = 6) (hdue : t + s.upd.boot.window * 1000000000 ≤ s.now)

include htrial hst hdue

theorem windowExpiry_judged : windowExpiry s = if s.sys.mode == .ready || s.sys.mode == .standby then resetTo .internal s else { s with upd := { s.upd with expired := true } } := by
  rw [windowExpiry, htrial]
  exact if_neg (by simp [hst, hdue])

theorem windowExpiry_resets (hmode : s.sys.mode = .ready ∨ s.sys.mode = .standby) : windowExpiry s = resetTo .internal s :=
  (windowExpiry_judged htrial hst hdue).trans (if_pos (by simpa using hmode))

theorem windowExpiry_waits (hready : s.sys.mode ≠ .ready) (hstandby : s.sys.mode ≠ .standby) : windowExpiry s = { s with upd := { s.upd with expired := true } } :=
  (windowExpiry_judged htrial hst hdue).trans (if_neg (by simp [hready, hstandby]))

end

end

/-- Settles O59: each row is one of the cases above, at the instant of the row. -/
theorem updateEventsAct : Obligations.UpdateEventsAct := by
  unfold Obligations.UpdateEventsAct
  intro t errors ok cfg p rest c s u done l b taken good
  have next {g : State → State} {e : State} (h : g u = e) : Host.Outcome.next (ρ := Refusal) (φ := Fault) (after t s (g u)) = .next (after t s e) := h ▸ rfl
  refine ⟨fun h => next (updPieceComplete_none h), fun h hst himage => ⟨fun htaken => next (updPieceComplete_taken h himage hst rfl htaken), fun htaken => next (updPieceComplete_headerFails h himage hst rfl htaken)⟩,
    fun h himage hst => next (updPieceComplete_waits h himage hst), fun h himage hlow hhigh => next (updPieceComplete_held h himage hlow hhigh), fun h hended => next (updPieceComplete_ended h hended),
    fun h hst himage => ?flashFails, fun hst => next (verified_idle hst), fun hst => next (verified_flashFails hst), fun hst hgood => ⟨fun hcomb => ?passes, fun hcomb => next (verified_incompatible hst hgood hcomb)⟩,
    fun hst hbad => ?refetches, fun h => ⟨next (activation_unscheduled h).1, next (activation_unscheduled h).2⟩, fun h => ?activation, fun hmode => next (switchStep_activate hmode),
    fun hmode hact hopen => ?switchOver, fun h => next (switchStep_rests h), fun h => next (rollbackStep_rests h),
    fun hmode hact h0 hrest => next (rollbackStep_sc hmode hact (reverseOne_sc h0 hrest)), fun hmode hact h3 => next (rollbackStep_other hmode hact (by decide) (reverseOne_cfg h3)),
    fun t0 htrial hst hdue => ⟨fun hmode => next (windowExpiry_resets htrial hst hdue hmode), fun hready hstandby => next (windowExpiry_waits htrial hst hdue hready hstandby)⟩,
    fun h => next (windowExpiry_rests h)⟩
  case flashFails =>
    refine ⟨_, _, next (updPieceComplete_flashFails h himage hst), ?_, ?_, Nat.mod_lt _ (by decide)⟩
    · rw [updFail_upd]
    · rw [updFail_upd]
  case passes => exact ⟨_, next (verified_passes hst hgood hcomb), rfl, rfl, rfl, rfl, rfl⟩
  case refetches =>
    obtain ⟨v, hdown, hresult, hlate, hv⟩ := verified_refetches hst hbad
    refine ⟨v, _, next hv, hdown, hresult, hlate, fun hnone => ?_, fun hsome => ?_⟩
    · rw [hnone]
      rfl
    · exact if_neg (by simpa using hsome)
  case activation =>
    exact ⟨fun hnot => next (activationTime_rests h hnot), fun hst htime hfirst hquiet hempty => next (activationTime_activates h hst htime hfirst hquiet hempty),
      fun hst htime hfirst hbusy hpolicy => next (activationTime_gives_up h hst htime hfirst hbusy hpolicy), fun hst htime hfirst hbusy hpolicy => next (activationTime_waits h hst htime hfirst hbusy hpolicy),
      fun hst hwait hover => next (activationWindowEnd_ends h hst hwait hover), fun hnot => next (activationWindowEnd_rests h hnot)⟩
  case switchOver =>
    refine ⟨next (switchStep_fails hmode hact hopen), fun hfirst => next ((switchStep_commits hmode hact hopen (hfirst.trans_lt (by decide))).trans ?first), fun hlow hhigh => next ((switchStep_commits hmode hact hopen hhigh).trans ?later),
      fun hlast => ⟨_, next (switchStep_confirms hmode hact hopen hlast), rfl, evUpdate_banks ..⟩⟩
    case first =>
      have hstep : u.upd.boot.step = 1 := hfirst
      rw [hstep, if_neg (by decide)]
    case later => rw [if_pos hlow]

end Sys2Proof.Machine
end

/-! Axes: the profile tick, the PWM periods, the switches, the drivers and their supply, and the restart of the stop cycle (R418 to R433, R443, R444). -/
section

namespace Sys2Proof.Machine

open Sys2Proof Sys2Proof.Safety

/-! ### PROFILE_TICK (R425) -/

section

variable {s : State}

theorem profileTick_due (h : s.mot.tickAt = 0 ∨ s.mot.tickAt + 25000 ≤ s.now + 1) :
    profileTick s = [0, 1, 2, 3].foldl (fun s n => if (axisOf s n).cfg.enable = 1 then axisTick n s else s) { s with mot := { s.mot with tickAt := s.now + 1 } } := by
  refine if_neg ?_
  simp only [Bool.and_eq_true, decide_eq_true_eq, bne_iff_ne]
  omega

theorem profileTick_early (hstarted : s.mot.tickAt ≠ 0) (hearly : s.now + 1 < s.mot.tickAt + 25000) : profileTick s = s :=
  if_pos (by simp [hstarted, hearly])

theorem profileTick_disabled (h : s.mot.tickAt = 0 ∨ s.mot.tickAt + 25000 ≤ s.now + 1) (hoff : ∀ k, k < 4 → (axisOf s k).cfg.enable ≠ 1) :
    profileTick s = { s with mot := { s.mot with tickAt := s.now + 1 } } := by
  rw [profileTick_due h]
  refine foldl_rests fun k hk => if_neg (hoff k ?_)
  simp only [List.mem_cons, List.not_mem_nil, or_false] at hk
  omega

end

/-! ### PWM_PERIOD (R418 to R423) -/

theorem wantDrive_enabled {s : State} {a : Axis} (henable : a.cfg.enable = 1) (hstate : a.state ≠ 0) (hreset : s.sys.mode ≠ .reset) (hboot : s.sys.mode ≠ .boot) (hrec : s.sys.mode ≠ .recovery) :
    wantDrive s a = if a.state = 4 ∧ a.raised = false then (if a.cfg.stopMode = 1 then .low else .brake) else .pwm := by
  rw [wantDrive, if_neg (by simp [henable, hstate, hreset, hboot, hrec])]
  simp

/-- A pulse is put out, and depends on nothing but what has been put out. -/
theorem coilPulse_frame (n input duty centre kHz : Nat) (s : State) (f : Nat) :
    coilPulse n input duty centre kHz { s with free := f } = { s with free := f, out := (coilPulse n input duty centre kHz s).out } := by
  unfold coilPulse
  split <;> rfl

/-- Both pulses of a period, coil A's first. -/
def bothPulses (n da db mid late kHz : Nat) (s : State) : State := coilPulse n 2 db late kHz (coilPulse n 0 da mid kHz s)

theorem bothPulses_frame (n da db mid late kHz : Nat) (s : State) (f : Nat) :
    bothPulses n da db mid late kHz { s with free := f } = { s with free := f, out := (bothPulses n da db mid late kHz s).out } := by
  unfold bothPulses
  rw [coilPulse_frame n 0 da mid kHz s f, coilPulse_frame n 2 db late kHz { s with out := (coilPulse n 0 da mid kHz s).out } f]
  congr 2
  unfold coilPulse
  split <;> split <;> rfl

/-- The commanded position and speed at the centre of the PWM period that starts now. -/
def pwmPlace (s : State) (a : Axis) : Int × Frac :=
  match a.motion with
  | some m => (toGrid (motionAt m (s.now + 500000 / a.cfg.pwm)).1.1 (Config.profileRound s.free), (motionAt m (s.now + 500000 / a.cfg.pwm)).1.2.1)
  | none => (a.pos, {})

/-- The duty codes of coils A and B at a place, each with its saturation. -/
def coilDuties (a : Axis) (x : Int × Frac) : (Nat × Bool) × (Nat × Bool) :=
  (dutyOf (coilVoltages a.cfg x.1 x.2 (if a.motion.isSome || !a.holding then a.cfg.run else a.cfg.hold)).1 a.vm,
   dutyOf (coilVoltages a.cfg x.1 x.2 (if a.motion.isSome || !a.holding then a.cfg.run else a.cfg.hold)).2 a.vm)

/-- An axis in a PWM period that starts now with the duties da and db, saturated or not. -/
def pwmAxis (now da db : Nat) (sat : Bool) (a : Axis) : Axis :=
  { a with dutyA := da, dutyB := db, satSince := if sat then (if a.satSince = 0 then now + 1 else a.satSince) else 0, satPosted := a.satPosted && sat, pwmAt := now + 1 }

section

variable {n : Nat} {s : State}

theorem pwmPeriod_rests (h : (axisOf s n).cfg.enable ≠ 1 ∨ 4 ≤ n ∨ ¬((axisOf s n).pwmAt = 0 ∨ (axisOf s n).pwmAt + 1000000 / (axisOf s n).cfg.pwm ≤ s.now + 1)) : pwmPeriod n s = s := by
  refine if_pos ?_
  simp only [Bool.or_eq_true, Bool.and_eq_true, decide_eq_true_eq, bne_iff_ne]
  omega

variable (hn : n < 4) (henable : (axisOf s n).cfg.enable = 1) (hdue : (axisOf s n).pwmAt = 0 ∨ (axisOf s n).pwmAt + 1000000 / (axisOf s n).cfg.pwm ≤ s.now + 1)

include hn henable hdue

theorem pwmPeriod_due : ¬((axisOf s n).cfg.enable != 1 || 4 ≤ n || ((axisOf s n).pwmAt != 0 && s.now + 1 < (axisOf s n).pwmAt + 1000000 / (axisOf s n).cfg.pwm)) = true := by
  simp only [Bool.or_eq_true, Bool.and_eq_true, decide_eq_true_eq, bne_iff_ne]
  omega

theorem pwmPeriod_stopped (hwant : wantDrive s (axisOf s n) ≠ .pwm) :
    pwmPeriod n s = if wantDrive s (axisOf s n) = (axisOf s n).drive then s else setDrive n (wantDrive s (axisOf s n)) s :=
  (if_neg (pwmPeriod_due hn henable hdue)).trans (if_pos (by simp [hwant]))

variable (hwant : wantDrive s (axisOf s n) = .pwm)

include hwant

theorem pwmPeriod_drives {c : (Nat × Bool) × (Nat × Bool)} (hc : coilDuties (axisOf s n) (pwmPlace s (axisOf s n)) = c) :
    pwmPeriod n s = { modAxis n (pwmAxis s.now c.1.1 c.2.1 ((c.1.2 || c.2.2) && (axisOf s n).motion.isSome)) s with
      free := s.free + 1, out := (bothPulses n c.1.1 c.2.1 (s.now + 500000 / (axisOf s n).cfg.pwm) (s.now + 1000000 / (axisOf s n).cfg.pwm) (axisOf s n).cfg.pwm s).out } := by
  refine (if_neg (pwmPeriod_due hn henable hdue)).trans ((if_neg (by simp [hwant])).trans ?_)
  have hframe := bothPulses_frame n c.1.1 c.2.1 (s.now + 500000 / (axisOf s n).cfg.pwm) (s.now + 1000000 / (axisOf s n).cfg.pwm) (axisOf s n).cfg.pwm s (s.free + 1)
  have hwhole := congrArg (modAxis n (pwmAxis s.now c.1.1 c.2.1 ((c.1.2 || c.2.2) && (axisOf s n).motion.isSome))) hframe
  refine Eq.trans ?_ hwhole
  subst hc
  rfl

theorem pwmPeriod_resting (hrest : (axisOf s n).motion = none) {c : (Nat × Bool) × (Nat × Bool)} (hc : coilDuties (axisOf s n) ((axisOf s n).pos, {}) = c) :
    pwmPeriod n s = { modAxis n (fun a => { a with dutyA := c.1.1, dutyB := c.2.1, satSince := 0, satPosted := false, pwmAt := s.now + 1 }) s with
      free := s.free + 1, out := (bothPulses n c.1.1 c.2.1 (s.now + 500000 / (axisOf s n).cfg.pwm) (s.now + 1000000 / (axisOf s n).cfg.pwm) (axisOf s n).cfg.pwm s).out } := by
  have hunsat : pwmAxis s.now c.1.1 c.2.1 false = fun a => { a with dutyA := c.1.1, dutyB := c.2.1, satSince := 0, satPosted := false, pwmAt := s.now + 1 } := by
    funext a
    rw [pwmAxis, Bool.and_false]
    rfl
  have hduties : coilDuties (axisOf s n) (pwmPlace s (axisOf s n)) = c := by
    rw [pwmPlace, hrest]
    exact hc
  rw [pwmPeriod_drives hn henable hdue hwant hduties, hrest, Option.isSome_none, Bool.and_false, hunsat]

theorem pwmPeriod_moving {m : Motion} (hmoves : (axisOf s n).motion = some m) {c : (Nat × Bool) × (Nat × Bool)}
    (hc : coilDuties (axisOf s n) (toGrid (motionAt m (s.now + 500000 / (axisOf s n).cfg.pwm)).1.1 (Config.profileRound s.free), (motionAt m (s.now + 500000 / (axisOf s n).cfg.pwm)).1.2.1) = c) :
    pwmPeriod n s = { modAxis n (pwmAxis s.now c.1.1 c.2.1 (c.1.2 || c.2.2)) s with
      free := s.free + 1, out := (bothPulses n c.1.1 c.2.1 (s.now + 500000 / (axisOf s n).cfg.pwm) (s.now + 1000000 / (axisOf s n).cfg.pwm) (axisOf s n).cfg.pwm s).out } := by
  have hduties : coilDuties (axisOf s n) (pwmPlace s (axisOf s n)) = c := by
    rw [pwmPlace, hmoves]
    exact hc
  rw [pwmPeriod_drives hn henable hdue hwant hduties, hmoves, Option.isSome_some, Bool.and_true]

end

/-! ### SWITCH_EDGE (R431, R432) -/

/-- Axis n replaced by b. -/
def putAxis (n : Nat) (b : Axis) (s : State) : State := { s with mot := { s.mot with axes := s.mot.axes.set n b } }

/-- What the new axis has from the old one is read after the replacement, of an axis that is not there as well. -/
theorem axisOf_putAxis {β : Type} (g : Axis → β) {n : Nat} {b : Axis} {s : State} (h : g (axisOf s n) = g b) : g (axisOf (putAxis n b s) n) = g b := by
  rcases lt_or_ge n s.mot.axes.length with hin | hout
  · exact congrArg g ((List.getD_eq_getElem _ _ (by rwa [putAxis, List.length_set])).trans (List.getElem_set_self _))
  · exact (congrArg (fun l : List Axis => g (l.getD n {})) (List.set_eq_of_length_le hout)).trans h

/-- Without a homing search an edge of HOME has no effect. -/
theorem activeEdge_home {n : Nat} {s : State} (h : (axisOf s n).homing = none) : activeEdge n 0 s = s := by
  rw [activeEdge, h]
  rfl

/-- Without a homing search an end switch in the way of its axis stops it. -/
theorem activeEdge_end {n sw : Nat} {s : State} (h : (axisOf s n).homing = none) (hsw : sw = 1 ∨ sw = 2) :
    activeEdge n sw s = if (if sw = 1 then 0 < (axisOf s n).vel.num else (axisOf s n).vel.num < 0) then faultStop n (evAxis 2 sw n s) else evAxis 2 sw n s := by
  rw [activeEdge, h]
  rcases hsw with rfl | rfl
  · simp
  · simp

section

variable {n sw : Nat} {level : Bool} {s : State} {a : Axis} {w : Switch} (ha : axisOf s n = a) (hw : a.switches.getD sw {} = w)

include ha hw

theorem switchEdge_rests (h : level = w.high ∨ 4 ≤ n ∨ 3 ≤ sw) : switchEdge n sw level s = s := by
  subst ha hw
  exact if_pos (by simpa [or_assoc] using h)

section

variable (hlevel : level ≠ w.high) (hn : n < 4) (hsw : sw < 3)

include hlevel hn hsw

theorem switchEdge_reset (hreset : s.sys.mode = .reset) :
    switchEdge n sw level s = putAxis n { a with switches := a.switches.set sw { w with high := level } } s := by
  subst ha hw
  exact (if_neg (by simpa [hn, hsw] using hlevel)).trans (if_pos hreset)

theorem switchEdge_acts (hmode : s.sys.mode ≠ .reset) {e : State}
    (he : putAxis n { a with switches := a.switches.set sw { high := level, since := s.now, waitA := w.waitA || level == bit a.cfg.pol sw, waitI := w.waitI || !(level == bit a.cfg.pol sw) } } s = e) :
    switchEdge n sw level s =
      if (decide (w.since + (if a.cfg.debounce = 0 then 4000 else a.cfg.debounce * 400000) ≤ s.now) || !(if level == bit a.cfg.pol sw then w.waitA else w.waitI)) && level == bit a.cfg.pol sw
      then activeEdge n sw e else e := by
  subst ha hw he
  exact (if_neg (by simpa [hn, hsw] using hlevel)).trans (if_neg hmode)

end

variable (hn : n < 4) (hsw : sw < 3) (hmode : s.sys.mode ≠ .reset)

include hn hsw hmode

/-- An edge out of the active state is kept, and has no effect of its own. -/
theorem switchEdge_inactive (hact : a.active sw = true) :
    switchEdge n sw (!(bit a.cfg.pol sw)) s = putAxis n { a with switches := a.switches.set sw { high := !(bit a.cfg.pol sw), since := s.now, waitA := w.waitA, waitI := true } } s := by
  have hhigh : w.high = bit a.cfg.pol sw := hw ▸ eq_of_beq hact
  rw [switchEdge_acts ha hw (by simp [hhigh]) hn hsw hmode rfl, Bool.not_beq_self]
  simp

/-- An edge into the active state acts where the one before it was long enough ago, or was not into the active state. -/
theorem switchEdge_active (hact : a.active sw = false) {e : State}
    (he : putAxis n { a with switches := a.switches.set sw { high := bit a.cfg.pol sw, since := s.now, waitA := true, waitI := w.waitI } } s = e) :
    switchEdge n sw (bit a.cfg.pol sw) s =
      if w.since + (if a.cfg.debounce = 0 then 4000 else a.cfg.debounce * 400000) ≤ s.now ∨ w.waitA = false then activeEdge n sw e else e := by
  have hhigh : w.high ≠ bit a.cfg.pol sw := hw ▸ ne_of_beq_false hact
  rw [switchEdge_acts ha hw hhigh.symm hn hsw hmode rfl]
  simp only [beq_self_eq_true, Bool.or_true, Bool.not_true, Bool.or_false, if_true, Bool.and_true, Bool.or_eq_true, decide_eq_true_eq, Bool.not_eq_true']
  rw [he]

/-- An edge that comes too early, or of HOME without a homing search, is kept and has no effect. -/
theorem switchEdge_active_quiet (hact : a.active sw = false)
    (hquiet : s.now < w.since + (if a.cfg.debounce = 0 then 4000 else a.cfg.debounce * 400000) ∧ w.waitA = true ∨ sw = 0 ∧ a.homing = none) :
    switchEdge n sw (bit a.cfg.pol sw) s = putAxis n { a with switches := a.switches.set sw { high := bit a.cfg.pol sw, since := s.now, waitA := true, waitI := w.waitI } } s := by
  rw [switchEdge_active ha hw hn hsw hmode hact rfl]
  rcases hquiet with ⟨hearly, hwait⟩ | ⟨rfl, hhoming⟩
  · exact if_neg (by simp [hwait, Nat.not_le.mpr hearly])
  · have hnone : (axisOf (putAxis n { a with switches := a.switches.set 0 { high := bit a.cfg.pol 0, since := s.now, waitA := true, waitI := w.waitI } } s) n).homing = none :=
      (axisOf_putAxis Axis.homing (by rw [ha])).trans hhoming
    rw [activeEdge_home hnone, ite_self]

/-- An end switch that becomes active without a homing search tells so, and stops an axis that moves towards it. -/
theorem switchEdge_active_end (hact : a.active sw = false) (hend : sw = 1 ∨ sw = 2)
    (hqualifies : w.since + (if a.cfg.debounce = 0 then 4000 else a.cfg.debounce * 400000) ≤ s.now ∨ w.waitA = false) (hhoming : a.homing = none) {e : State}
    (he : putAxis n { a with switches := a.switches.set sw { high := bit a.cfg.pol sw, since := s.now, waitA := true, waitI := w.waitI } } s = e) :
    switchEdge n sw (bit a.cfg.pol sw) s = if (if sw = 1 then 0 < a.vel.num else a.vel.num < 0) then faultStop n (evAxis 2 sw n e) else evAxis 2 sw n e := by
  have hnone : (axisOf e n).homing = none := he ▸ (axisOf_putAxis Axis.homing (by rw [ha])).trans hhoming
  have hvel : (axisOf e n).vel = a.vel := he ▸ axisOf_putAxis Axis.vel (by rw [ha])
  rw [switchEdge_active ha hw hn hsw hmode hact he, if_pos hqualifies, activeEdge_end hnone hend, hvel]

end

/-! ### The driver, its supply and its hold current (R420, R423, R424) -/

section

variable {n : Nat} {s : State}

theorem driverFault_low (h : (axisOf s n).drive = .low) : driverFault n s = s := if_pos (by simp [h])

theorem driverFault_stops (h : (axisOf s n).drive ≠ .low) :
    driverFault n s = faultStop n (raise 0x0604 n (evAxis 5 0 n (modAxis n (fun a => { a with driverFlt := true }) s))) := if_neg (by simp [h])

theorem supplyLow_tells {m : Motion} (hmoves : (axisOf s n).motion = some m) (hsat : (axisOf s n).satSince ≠ 0) (hfirst : (axisOf s n).satPosted = false) (hdue : (axisOf s n).satSince - 1 + 2000000 ≤ s.now) :
    supplyLow n s = evAxis 6 0 n (modAxis n (fun a => { a with satPosted := true, faults := satInc 32 a.faults }) s) :=
  if_pos (by simp [hmoves, hsat, hfirst, hdue])

theorem supplyLow_rests (h : (axisOf s n).motion = none ∨ (axisOf s n).satSince = 0 ∨ (axisOf s n).satPosted = true ∨ s.now < (axisOf s n).satSince - 1 + 2000000) : supplyLow n s = s := by
  refine if_neg ?_
  rcases h with h | h | h | h <;> simp [h]

variable {t : Nat}

theorem exec_vmTimeout_stale (henable : (axisOf (s.at t) n).cfg.enable = 1) (hold : (axisOf (s.at t) n).vmTime + 10000000 ≤ (s.at t).now) :
    exec (.vmTimeout t n) s = .next (after t s (faultStop n (s.at t))) :=
  (exec_vmTimeout t n s).trans (congrArg (fun e => Host.Outcome.next (after t s e)) (if_pos (Bool.and_eq_true_iff.mpr ⟨beq_iff_eq.mpr henable, decide_eq_true hold⟩)))

theorem exec_vmTimeout_fresh (h : (axisOf (s.at t) n).cfg.enable ≠ 1 ∨ (s.at t).now < (axisOf (s.at t) n).vmTime + 10000000) : exec (.vmTimeout t n) s = .next (after t s (s.at t)) := by
  refine (exec_vmTimeout t n s).trans (congrArg (fun e => Host.Outcome.next (after t s e)) (if_neg ?_))
  simp only [Bool.and_eq_true, beq_iff_eq, decide_eq_true_eq]
  omega

theorem exec_holdCurrent_rested (hrest : axisMoving (axisOf (s.at t) n) = false) (hdue : (axisOf (s.at t) n).restAt + 100000000 ≤ (s.at t).now) :
    exec (.holdCurrent t n) s = .next (after t s (modAxis n (fun a => { a with holding := true }) (s.at t))) :=
  (exec_holdCurrent t n s).trans (congrArg (fun e => Host.Outcome.next (after t s e)) (if_pos (Bool.and_eq_true_iff.mpr ⟨congrArg not hrest, decide_eq_true hdue⟩)))

theorem exec_holdCurrent_waits (h : axisMoving (axisOf (s.at t) n) = true ∨ (s.at t).now < (axisOf (s.at t) n).restAt + 100000000) : exec (.holdCurrent t n) s = .next (after t s (s.at t)) := by
  refine (exec_holdCurrent t n s).trans (congrArg (fun e => Host.Outcome.next (after t s e)) (if_neg ?_))
  simp only [Bool.and_eq_true, Bool.not_eq_true', decide_eq_true_eq, not_and, not_le]
  exact fun hrest => h.resolve_left (by simp [hrest])

theorem faultStop_rests (h : (axisOf s n).state = 0 ∨ (axisOf s n).state = 4) : faultStop n s = s := if_pos (by simpa using h)

end

/-! ### The stop cycle (R443, R444) -/

/-- The four lines before the restart line K_r, first to last. -/
theorem reApproach_lines {k : Nat} (h : 4 ≤ k) :
    (List.range 4).filterMap (fun i => if 4 - i ≤ k then some (k - (4 - i)) else none) = [k - 4, k - 3, k - 2, k - 1] := by
  have h3 : 3 ≤ k := by omega
  have h2 : 2 ≤ k := by omega
  have h1 : 1 ≤ k := by omega
  simp [List.range_succ, h, h3, h2, h1]

theorem stopCycle_idle {s : State} (h : s.mot.cycle = none) : reApproach s = s ∧ restartCheck s = s := by
  rw [reApproach, restartCheck, h]
  exact ⟨rfl, rfl⟩

section

variable {s : State} {cy : Cycle} (h : s.mot.cycle = some cy)

include h

theorem reApproach_rests (hnot : cy.phase ≠ .wait ∨ cy.final = true ∨ s.dlv.proofStop = true ∨ s.sys.mode ≠ .proof ∨ s.now < (axisOf s s.proof.proofAxis).restAt + 25000) : reApproach s = s := by
  rw [reApproach, h]
  exact if_pos (by simpa [or_assoc] using hnot)

theorem reApproach_starts (hphase : cy.phase = .wait) (hopen : cy.final = false) (hgo : s.dlv.proofStop = false) (hmode : s.sys.mode = .proof) (hrested : (axisOf s s.proof.proofAxis).restAt + 25000 ≤ s.now) (hfour : 4 ≤ cy.resume) :
    reApproach s = setCycle (fun c => { c with phase := .approach, pulses := [cy.resume - 4, cy.resume - 3, cy.resume - 2, cy.resume - 1], steady := none }) (moveNow s.proof.proofAxis (some (2 ^ 31 - 1)) s) := by
  rw [reApproach, h]
  dsimp only
  rw [if_neg (by simp [hphase, hopen, hgo, hmode, hrested]), reApproach_lines hfour]

theorem restartCheck_rests (hnot : cy.phase ≠ .approach ∨ cy.final = true ∨ restartDue s cy = false) : restartCheck s = s := by
  rw [restartCheck, h]
  refine if_pos ?_
  rcases hnot with hnot | hnot | hnot <;> simp [hnot]

variable (hphase : cy.phase = .approach) (hopen : cy.final = false) (hdue : restartDue s cy = true)

include hphase hopen hdue

section

variable (hbad : s.tr.regime ≠ .spec ∨ cy.steady = none)

include hbad

/-- A restart that finds no steady speed is tried once more, and stops the axis then. -/
theorem restartCheck_judges :
    restartCheck s = if 1 ≤ cy.failures then faultStop s.proof.proofAxis (raise 0x0603 s.proof.proofAxis s) else setCycle (fun c => { c with phase := .decel, failures := c.failures + 1 }) (moveNow s.proof.proofAxis none s) := by
  rw [restartCheck, h]
  refine (if_neg (by simp [hphase, hopen, hdue])).trans (if_neg ?_)
  rcases hbad with hbad | hbad <;> simp [hbad]

theorem restartCheck_fails (hagain : 1 ≤ cy.failures) : restartCheck s = faultStop s.proof.proofAxis (raise 0x0603 s.proof.proofAxis s) :=
  (restartCheck_judges h hphase hopen hdue hbad).trans (if_pos hagain)

theorem restartCheck_retries (hfirst : cy.failures = 0) : restartCheck s = setCycle (fun c => { c with phase := .decel, failures := c.failures + 1 }) (moveNow s.proof.proofAxis none s) :=
  (restartCheck_judges h hphase hopen hdue hbad).trans (if_neg (by omega))

end

theorem restartCheck_restarts {x : Int} (hregime : s.tr.regime = .spec) (hsteady : cy.steady = some x) (hfar : 16 * (s.tr.cfg.pitch : Int) ≤ s.tr.x - x) :
    restartCheck s = freezeSpec (evAxisLine 8 s.proof.proofAxis cy.last
      { s with mot := { s.mot with cycle := none },
               tr := { s.tr with stopAt := none, leadStop := none, resumes := false, nextK := cy.resume, mark := cy.resume, rowN := cy.resume, lineFrom := cy.last + 1 } }) := by
  rw [restartCheck, h]
  exact (if_neg (by simp [hphase, hopen, hdue])).trans (if_pos (by simp [hregime, hsteady, hfar]))

end

/-- Settles O55: each row is one of the cases above, at the instant of the row. -/
theorem axesTickStopAndRestart : Obligations.AxesTickStopAndRestart := by
  unfold Obligations.AxesTickStopAndRestart
  intro t n sw m cy s u a put w hold amp per mid due coil pulses ticked act edged
  have next {g : State → State} {e : State} (h : g u = e) : Host.Outcome.next (ρ := Refusal) (φ := Fault) (after t s (g u)) = .next (after t s e) := h ▸ rfl
  refine ⟨fun h => next (profileTick_due h), fun h hoff => next (profileTick_disabled h hoff), fun hstarted hearly => next (profileTick_early hstarted hearly),
    fun henable hstate hreset hboot hrec => wantDrive_enabled henable hstate hreset hboot hrec, fun h => next (pwmPeriod_rests h), fun hn henable hdue hwant => next (pwmPeriod_stopped hn henable hdue hwant),
    fun hn henable hdue hwant hrest => next (pwmPeriod_resting hn henable hdue hwant hrest rfl), fun hn henable hdue hwant hmoves => next (pwmPeriod_moving hn henable hdue hwant hmoves rfl),
    fun level h => next (switchEdge_rests rfl rfl h), fun level hlevel hn hsw hreset => next (switchEdge_reset rfl rfl hlevel hn hsw hreset),
    fun hn hsw hmode hact => next (switchEdge_inactive rfl rfl hn hsw hmode hact), fun hn hsw hmode hact hquiet => next (switchEdge_active_quiet rfl rfl hn hsw hmode hact hquiet), fun hn hend hmode hact hqualifies hhoming => next (switchEdge_active_end rfl rfl hn (by omega) hmode hact hend hqualifies hhoming rfl),
    fun h => next (driverFault_low h), fun h => next (driverFault_stops h), fun hn => (exec_driverFltClear t n s).trans (next (if_pos hn)),
    fun hmoves hsat hfirst hdue => next (supplyLow_tells hmoves hsat hfirst hdue), fun h => next (supplyLow_rests h),
    exec_vmTimeout_stale, exec_vmTimeout_fresh, fun h => faultStop_rests h,
    exec_holdCurrent_rested, exec_holdCurrent_waits,
    fun h => ⟨next (stopCycle_idle h).1, next (stopCycle_idle h).2⟩, fun h => ⟨fun hnot => next (reApproach_rests h hnot),
      fun hphase hopen hgo hmode hrested hfour => next (reApproach_starts h hphase hopen hgo hmode hrested hfour), fun hnot => next (restartCheck_rests h hnot),
      fun hphase hopen hdue hbad => ⟨fun hagain => next (restartCheck_fails h hphase hopen hdue hbad hagain), fun hfirst => next (restartCheck_retries h hphase hopen hdue hbad hfirst)⟩,
      fun x hphase hopen hdue hregime hsteady hfar => ⟨_, next (restartCheck_restarts h hphase hopen hdue hregime hsteady hfar), rfl, rfl, rfl, rfl, rfl, rfl⟩⟩⟩

end Sys2Proof.Machine
end

/-! Reset values, the commands of RECOVERY, and the reports of mode and energy (R36, R39, R40, R52, R343, R362). -/
section

namespace Sys2Proof.Machine

open Sys2Proof Sys2Proof.Safety

/-! ### Reset values (R8, R39, R55) -/

theorem mailbox_reset (n : Nat) : State.reset.host.mbs.getD n {} = {} := (List.getD_eq_getElem?_getD ..).trans (List.getElem?_getD_replicate_default_eq _ 5 _)

theorem axisOf_reset (n : Nat) : axisOf State.reset n = {} := (List.getD_eq_getElem?_getD ..).trans (List.getElem?_getD_replicate_default_eq _ 4 _)

theorem portOf_reset (p : Nat) : portOf State.reset p = {} := (List.getD_eq_getElem?_getD ..).trans (List.getElem?_getD_replicate_default_eq _ 32 _)

/-- Settles O8: no table of the banks lists a record, and mailboxes, axes and ports are all alike. -/
theorem resetValues : Obligations.ResetValues := by
  unfold Obligations.ResetValues
  intro s
  have hmailbox (n : Nat) : s.host.mbs.getD n {} = {} := mailbox_reset n
  have haxis (n : Nat) : axisOf s n = {} := axisOf_reset n
  have hport (p : Nat) : portOf s p = {} := portOf_reset p
  exact ⟨rfl, rfl, rfl, fun _ => rfl, fun _ => rfl, rfl, rfl, fun n => by rw [hmailbox]; exact ⟨rfl, rfl⟩, rfl, rfl, fun n => by rw [haxis], rfl, rfl, fun p => by rw [hport], rfl⟩

/-! ### The commands of RECOVERY (R52, R343) -/

/-- The nine commands of R52. -/
theorem inRec_opcode {c : Instr} {src : Nat} {k : Cmd} (hc : rowCmd c = some (src, k)) (hk : k.inRec = true) :
    k.opcode ∈ [0x0001, 0x0002, 0x0102, 0x0C10, 0x0C11, 0x0C12, 0x0C15, 0x0D01, 0x0E01] := by
  cases c <;> cases hc <;> revert hk <;> decide

/-- In RECOVERY only a command of R52 is legal, in its read form too. -/
theorem legal_recovery {k : Cmd} (reading : Bool) (src : Nat) (hk : k.inRec = false) : legal k reading src .recovery = false := by
  simp [legal, hk]

/-- The mode is checked after the LENGTH of the form that the request has. -/
theorem judge_notLegalForm {k : Cmd} {r : Req} {s : State}
    (hl : (if k.readLen.isSome && r.isRead then (k.readLen.getD (fun _ => none)) r else k.len r) = none)
    (hm : legal k (k.readLen.isSome && r.isRead) r.src s.sys.mode = false) : judge k r s = .error (.wrongMode s.sys.mode 0) := by
  simp only [judge, hl, hm, Bool.not_false, if_true]

/-- Settles O11: the request passes the check of its LENGTH and fails that of the mode. -/
theorem recoveryServesFew : Obligations.RecoveryServesFew := by
  unfold Obligations.RecoveryServesFew
  intro c s src k hrow u r hmode hop hserve hsound hlen
  have hrec : k.inRec = false := Bool.eq_false_iff.mpr fun hk => hop (inRec_opcode hrow hk)
  have hform : (if k.readLen.isSome && r.isRead then (k.readLen.getD (fun _ => none)) r else k.len r) = none := by
    cases hread : k.readLen with
    | none => simpa [hread] using hlen
    | some l => simpa [hread] using hlen
  have hjudge : judge k r u = .error (.wrongMode .recovery 0) := by
    rw [judge_notLegalForm hform (by rw [hmode]; exact legal_recovery _ _ hrec), hmode]
  rw [row_exec hrow, serve_error hserve hsound hjudge]

/-! ### MODE_GET and ENERGY_READ (R36, R40, R362) -/

/-- The response data of MODE_GET (R362). -/
def modeBytes (s : State) : List Byte :=
  layout 16 [(0, 1, s.sys.mode.code), (1, 1, s.sys.prev.code), (2, 1, s.sys.cause), (3, 1, (s.sys.pend.map (fun p => p.target.code)).getD 0xFF), (4, 2, s.sys.fault), (8, 8, s.sys.tEnter)]

/-- Settles O16: each row answers with its command's data; ENERGY_READ then draws a free value. -/
theorem modeAndEnergyAreReported : Obligations.ModeAndEnergyAreReported := by
  unfold Obligations.ModeAndEnergyAreReported
  intro t src s u m
  refine ⟨fun h hbasic => ?modeGet, fun h hall => ?energyRead⟩
  case modeGet =>
    exact exec_done (c := .modeGet t src) (k := cmdModeGet) (d := { data := modeBytes u }) rfl h rfl rfl fixedLen_eq_none (legal_basic rfl rfl hbasic) rfl rfl rfl
  case energyRead =>
    refine exec_answers (c := .energyRead t src) (u := u) rfl h hall rfl ⟨rfl, rfl, rfl, rfl⟩ rfl ?_
    rw [answered_free]

end Sys2Proof.Machine
end

/-! The timing settings, and those of axes and auxiliary channels (R65, R67, R73, R77, R85, R87, R419, R449, R452, R464). -/
section

namespace Sys2Proof.Machine

open Sys2Proof Sys2Proof.Safety

/-! ### What an answer leaves to the effect -/

@[simp] theorem answered_datum (src : Nat) (d : List Byte) (s : State) : (answered src d s).datum = s.datum := by
  obtain ⟨h, o, e⟩ := answered_frame src d s
  rw [e]

@[simp] theorem answered_tr (src : Nat) (d : List Byte) (s : State) : (answered src d s).tr = s.tr := by
  obtain ⟨h, o, e⟩ := answered_frame src d s
  rw [e]

@[simp] theorem answered_mot (src : Nat) (d : List Byte) (s : State) : (answered src d s).mot = s.mot := by
  obtain ⟨h, o, e⟩ := answered_frame src d s
  rw [e]

@[simp] theorem accepted_aux (src res : Nat) (d : List Byte) (s : State) : (accepted src res d s).aux = s.aux := by
  obtain ⟨h, o, e⟩ := accepted_frame src res d s
  rw [e]

/-- A command row that is not its read form, is legal, passes its checks and is accepted. -/
theorem exec_acceptsAsked {c : Instr} {s u e : State} {src op len res : Nat} {k : Cmd} {act : State → State} (hu : s.at c.time = u) (ha : asks op len src u = true)
    (hc : rowCmd c = some (src, k)) (ho : k.opcode = op) (hl : k.len = fixedLen len) (hall : u.sys.mode.all = true) (hm : k.modes u.sys.mode = true)
    (hk : k.run (latchedReq u src) u = .ok { accepted := some res, act := act }) (hroom : hasRoomFor src u = true) (he : act (accepted src res [] u) = e) :
    exec c s = .next (after c.time s e) := by
  subst hu he
  obtain ⟨hh, hread⟩ := asks_iff.mp ha
  exact exec_accepted (d := { accepted := some res, act := act }) hc hh ho (by rw [hread, Bool.and_false]) (hl ▸ fixedLen_eq_none) (legal_all hall hm) hk rfl hroom

section

variable {r : Req} {s : State}

/-! ### ENC_CFG, TRANSIT_CFG and PROOF_CFG (R77, R85, R87, R416) -/

/-- While a session captures, the settings of the encoder that Transit follows stay (R77). -/
theorem encCfg_acts (hn : r.u8 0 < 4) (hfree : s.sys.mode.cap = false ∨ r.u8 0 ≠ transitSource s) :
    cmdEncCfg.run r s = .ok { act := fun t => { t with tr := { t.tr with encs := t.tr.encs.set (r.u8 0) (encOf r (s.tr.encs.getD (r.u8 0) {})), cueFilter := cueFilters r t.tr.cueFilter } } } := by
  have hencoder : ¬ 4 ≤ r.u8 0 := by omega
  refine (if_neg hencoder).trans (if_neg ?_)
  rcases hfree with h | h <;> simp [h]

/-- While a session captures, PITCH and SOURCE stay (R87). -/
theorem transitCfg_acts (hfree : s.sys.mode.cap = false ∨ ((transitCfgOf r).pitch = s.tr.cfg.pitch ∧ (transitCfgOf r).source = s.tr.cfg.source)) :
    cmdTransitCfg.run r s = .ok { act := applyTransitCfg (transitCfgOf r) } := by
  refine if_neg ?_
  rcases hfree with h | ⟨hpitch, hsource⟩
  · simp [h]
  · simp [hpitch, hsource]

/-- A defined channel code names the channel that shakes with the bar; any other code names none. -/
theorem transitCfgOf_bound (h : r.u8 3 < 4) : (transitCfgOf r).vibChannel < 4 := by
  show r.enum 3 4 255 < 4
  rwa [enum_of_lt h]

theorem transitCfgOf_unbound (h : 4 ≤ r.u8 3) : ¬ (transitCfgOf r).vibChannel < 4 := by
  show ¬ r.enum 3 4 255 < 4
  rw [Req.enum, if_neg (by omega)]
  decide

/-- An axis code names an axis or none (R416). -/
theorem proofCfg_acts (hproof : r.u8 0 < 4 ∨ r.u8 0 = 255) (hbench : r.u8 1 < 4 ∨ r.u8 1 = 255) :
    cmdProofCfg.run r s = .ok { act := fun s => { s with proof := { proofAxis := r.u8 0, benchAxis := r.u8 1, proofSource := r.enum 2 5 0, benchSource := r.enum 3 5 0, proofScale := r.u32 4, benchScale := r.u32 8, lag := Nat.min (r.u16 0x0C) 1000 } } } :=
  if_neg (by simp; omega)

end

/-- Settles O18: each row passes its checks, and the answer leaves alone the settings that it then writes. -/
theorem timingSettingsActAtOnce : Obligations.TimingSettingsActAtOnce := by
  unfold Obligations.TimingSettingsActAtOnce
  intro t src s u r hall
  refine ⟨fun ha => ?datum, fun ha hn hfree => ?encoder, fun ha hfree => ⟨fun hch => ?bound, fun hch => ?unbound⟩, fun ha hquiet hproof hbench => ?proof⟩
  case datum =>
    refine exec_settles (c := .datumCfg t src) (u := u) rfl ha rfl rfl rfl hall hall rfl ?_
    rw [answered_datum]
  case encoder =>
    refine exec_settles (c := .encCfg t src) (u := u) rfl ha rfl rfl rfl hall hall (encCfg_acts hn hfree) ?_
    rw [answered_tr]
  case bound =>
    refine exec_settles (c := .transitCfg t src) (u := u) rfl ha rfl rfl rfl hall hall (transitCfg_acts hfree) ?_
    rw [applyTransitCfg, if_pos (transitCfgOf_bound hch), answered_tr]
  case unbound =>
    refine exec_settles (c := .transitCfg t src) (u := u) rfl ha rfl rfl rfl hall hall (transitCfg_acts hfree) ?_
    rw [applyTransitCfg, if_neg (transitCfgOf_unbound hch), answered_tr]
  case proof => exact exec_settles (c := .proofCfg t src) (u := u) rfl ha rfl rfl rfl hall hquiet (proofCfg_acts hproof hbench) rfl

/-! ### AXIS_CFG (R419) -/

section

variable {n : Nat} {c : AxisCfg} {s : State}

/-- An axis that is enabled holds, with its fault bits clear. -/
theorem applyAxisCfg_enables (h : c.enable = 1) :
    applyAxisCfg n c s = modAxis n (fun a => { a with cfg := c, state := if a.state = 4 then 4 else 1, raised := true, holding := true, vmTime := if a.cfg.enable = 1 then a.vmTime else s.now, satSince := 0, satPosted := false, faults := 0 }) s :=
  if_pos h

/-- The axis after it is disabled: stopped, at a position that is no longer known. -/
def disabledAxis (c : AxisCfg) (a : Axis) : Axis :=
  { a with cfg := c, state := 0, lost := true, motion := none, req := none, homing := none, vel := {}, dutyA := 0, dutyB := 0, satSince := 0 }

theorem applyAxisCfg_disables (h : c.enable ≠ 1) :
    applyAxisCfg n c s = if (axisOf s n).lost then modAxis n (disabledAxis c) s else evAxis 4 0 n (modAxis n (disabledAxis c) s) :=
  if_neg h

end

/-! ### AUX_SEQ (R452) -/

/-- What a new visit of AD0 or AD1 leaves alone: the sequence, the channels, and AD2. -/
def seqView (s : State) : AuxSeq × List AuxCh × Converter := (s.aux.seq, s.aux.chs, auxConv s 2)

theorem seqView_modConv {x : Nat} {f : Converter → Converter} {s : State} (h : x ≠ 2) : seqView (modConv x f s) = seqView s := by
  rw [seqView, auxConv_modConv_other f (.inl h.symm)]
  rfl

theorem seqView_setMux {x : Nat} {m : MuxSet} {s : State} (h : x ≠ 2) : seqView (setMux x m s) = seqView s := seqView_modConv (s := s) h

theorem seqView_placeMux {x : Nat} {s : State} (h : x ≠ 2) : seqView (placeMux x s) = seqView s := by
  have hplaced : seqView (modConv x (fun k => { k with tMux := s.now, converted := false }) s) = seqView s := seqView_modConv h
  unfold placeMux
  extract_lets placed
  split
  · exact (seqView_setMux h).trans hplaced
  · rw [muxOff]
    split
    · exact hplaced
    · exact (seqView_setMux h).trans hplaced

theorem seqView_leaveJoint (s : State) : seqView (leaveJoint s) = seqView s := by
  unfold leaveJoint
  split
  · exact seqView_placeMux (by omega)
  · rfl

theorem seqView_beginJoint {x : Nat} {s : State} (h : x ≠ 2) : seqView (beginJoint x s) = seqView s := by
  unfold beginJoint
  split
  · extract_lets started both aux
    have hstarted : seqView started = seqView s := seqView_modConv h
    have hboth : seqView both = seqView started := seqView_modConv (by omega)
    exact (seqView_setMux (by omega)).trans (hboth.trans hstarted)
  · rfl

theorem seqView_switchTo {x : Nat} {v : Option Nat} {s : State} (h : x ≠ 2) : seqView (switchTo x v s) = seqView s := by
  have hmoved : seqView (modConv x (fun k => { k with visit := v, ending := none }) s) = seqView s := seqView_modConv h
  unfold switchTo
  extract_lets moved
  split
  · split
    · rw [seqView_beginJoint h, seqView_placeMux h, seqView_leaveJoint, hmoved]
    · exact hmoved
  · rw [seqView_beginJoint h, seqView_placeMux h, hmoved]

theorem auxCh_modAux (c i : Nat) (f : AuxCh → AuxCh) (s : State) : auxCh (modAux c f s) i = auxCh s i ∨ auxCh (modAux c f s) i = f (auxCh s i) := by
  by_cases hi : c = i ∧ i < s.aux.chs.length
  · obtain ⟨rfl, hlt⟩ := hi
    right
    simp [auxCh, modAux, nmod, List.getD_eq_getElem?_getD, hlt]
  · left
    simp only [auxCh, modAux, nmod, List.getD_eq_getElem?_getD, List.getElem?_set]
    grind

/-- A channel that goes STALE keeps its configuration and its value (R474). -/
theorem auxCh_auxStale (c i : Nat) (s : State) : (auxCh (auxStale c s) i).cfg = (auxCh s i).cfg ∧ (auxCh (auxStale c s) i).value = (auxCh s i).value := by
  rcases auxCh_modAux c i (fun a => { a with stale := true, staleSince := if a.stale then a.staleSince else s.now }) s with h | h <;> rw [auxStale, h] <;> exact ⟨rfl, rfl⟩

/-- The new sequence is in force; every channel keeps its configuration and its value, and AD2 goes on. -/
theorem applyAuxSeq_keeps (q : AuxSeq) (s : State) :
    (applyAuxSeq q s).aux.seq = q ∧ auxConv (applyAuxSeq q s) 2 = auxConv s 2 ∧
      ∀ c, (auxCh (applyAuxSeq q s) c).cfg = (auxCh s c).cfg ∧ (auxCh (applyAuxSeq q s) c).value = (auxCh s c).value := by
  unfold applyAuxSeq
  extract_lets aux set switched
  have hview : seqView switched = (q, s.aux.chs, auxConv s 2) := by
    simp only [switched, List.foldl_cons, List.foldl_nil]
    rw [seqView_switchTo (by decide), seqView_switchTo (by decide)]
    rfl
  obtain ⟨hseq, hchs, hconv⟩ : switched.aux.seq = q ∧ switched.aux.chs = s.aux.chs ∧ auxConv switched 2 = auxConv s 2 := by
    simpa only [seqView, Prod.mk.injEq] using hview
  obtain ⟨chs, hstale⟩ := foldl_modAux_frame (fun s _ a => { a with stale := true, staleSince := if a.stale then a.staleSince else s.now }) (chansOn switched 0 ++ chansOn switched 1) switched
  refine ⟨?_, ?_, fun c => ?_⟩
  · exact (congrArg (fun s => s.aux.seq) hstale).trans hseq
  · exact (congrArg (fun s => auxConv s 2) hstale).trans hconv
  · have hkept : auxCh switched c = auxCh s c := congrArg (fun l => l.getD c {}) hchs
    rw [← hkept]
    exact List.foldlRecOn _ _ (motive := fun e => (auxCh e c).cfg = (auxCh switched c).cfg ∧ (auxCh e c).value = (auxCh switched c).value) ⟨rfl, rfl⟩
      fun e ⟨hcfg, hvalue⟩ i _ => ⟨(auxCh_auxStale i c e).1.trans hcfg, (auxCh_auxStale i c e).2.trans hvalue⟩

section

variable {r : Req} {s : State}

theorem auxSeq_acts (h : ∀ i, i < clampN (r.u8 1) 1 16 → r.u8 (4 + 4 * i) < 16) :
    cmdAuxSeq.run r s = .ok { act := applyAuxSeq { mode := r.enum 0 2 0, slots := clampN (r.u8 1) 1 16, entries := seqEntries r } } := by
  refine if_neg ?_
  rw [List.any_eq_true]
  rintro ⟨e, he, hbad⟩
  obtain ⟨i, hi, rfl⟩ := List.mem_take_iff_getElem.mp he
  have hchannel := h i (lt_min_iff.mp hi).1
  simp only [seqEntries, List.getElem_map, List.getElem_range, decide_eq_true_eq] at hbad
  omega

/-- AXIS_CFG as a request gives it, clamped (Table 11.8). -/
def axisCfgOf (r : Req) : AxisCfg :=
  { enable := r.flag 1, stopMode := r.enum 2 2 0, debounce := Nat.min (r.u8 3) 100, pwm := clampN (r.u8 4) 25 80, pol := r.u8 5 % 8, invert := r.flag 6, profile := r.enum 7 2 0,
    res := clampN (r.u16 8) 100 50000, ind := Nat.max (r.u16 0x0A) 10, ke := r.u16 0x0C, run := Nat.min (r.u16 0x0E) 5000, hold := Nat.min (r.u16 0x10) 5000, backlash := r.u32 0x14 }

theorem axisCfg_acts (hn : r.u8 0 < 4) (hidle : (axisOf s (r.u8 0)).state ∉ [2, 3, 5]) :
    cmdAxisCfg.run r s = .ok { act := applyAxisCfg (r.u8 0) (axisCfgOf r) } := by
  have haxis : ¬ 4 ≤ r.u8 0 := by omega
  exact (if_neg haxis).trans (if_neg (by simpa [or_assoc] using hidle))

theorem auxPoly_acts (hc : r.u8 0 < 16) :
    cmdAuxPoly.run r s = .ok { act := modAux (r.u8 0) (fun a => { a with tempCh := if r.u8 1 < 16 ∨ r.u8 1 = 0xFE then r.u8 1 else 0xFF, poly := some ((List.range 15).map (fun i => f32Clean 0x7F7FFFFF (r.u32 (4 + 4 * i)))) }) } := by
  have hchannel : ¬ 16 ≤ r.u8 0 := by omega
  exact (if_neg hchannel).trans (by simp)

/-- AUX_CFG acts at once where no conversion of the channel is still to end. -/
theorem auxCfg_acts (hc : r.u8 0 < 16) (hidle : shuttingDown s (r.u8 0) = false) :
    cmdAuxCfg.run r s = .ok { act := fun s => applyAuxCfg (r.u8 0) (auxCfgOf s r) s } := by
  have hchannel : ¬ 16 ≤ r.u8 0 := by omega
  exact (if_neg hchannel).trans (if_neg (by simp [hidle]))

/-- One that enables a channel whose last conversion still runs waits for its end (R73). -/
theorem auxCfg_waits (hc : r.u8 0 < 16) (hbusy : shuttingDown s (r.u8 0) = true) (hon : 1 ≤ r.u8 1) :
    cmdAuxCfg.run r s = .ok { accepted := some (r.u8 0), act := fun s => { s with aux.reopens := s.aux.reopens ++ [(reqKey r, r.u8 0, auxCfgOf s r)] } } := by
  have hchannel : ¬ 16 ≤ r.u8 0 := by omega
  exact (if_neg hchannel).trans (if_pos (by simp [hbusy, flag_eq_one hon]))

end

/-- The values that AUX_CFG applies depend on no mailbox (R449). -/
theorem auxCfgOf_answered (src : Nat) (d : List Byte) (s : State) (r : Req) : auxCfgOf (answered src d s) r = auxCfgOf s r := by
  obtain ⟨h, o, e⟩ := answered_frame src d s
  rw [e]
  rfl

theorem auxCfgOf_accepted (src res : Nat) (d : List Byte) (s : State) (r : Req) : auxCfgOf (accepted src res d s) r = auxCfgOf s r := by
  obtain ⟨h, o, e⟩ := accepted_frame src res d s
  rw [e]
  rfl

/-- Settles O21: each row passes its checks, and the answer leaves alone the axis or channel that it then sets. -/
theorem axisAndAuxSettingsActAtOnce : Obligations.AxisAndAuxSettingsActAtOnce := by
  unfold Obligations.AxisAndAuxSettingsActAtOnce
  intro t src s u r hall
  refine ⟨fun ha hquiet hn hidle => ?axis, fun ha hc => ?poly, fun ha hslots => ?seq, fun ha hc hidle => ?cfg, fun ha hc hbusy hon hroom => ?waits⟩
  case axis =>
    have hrow {e : State} := exec_settles (c := .axisCfg t src) (u := u) (e := e) rfl ha rfl rfl rfl hall hquiet (axisCfg_acts hn hidle)
    have haxis : axisOf (answered src [] u) (r.u8 0) = axisOf u (r.u8 0) := by rw [axisOf, answered_mot, axisOf]
    refine ⟨fun hon => hrow ?_, fun hoff hlost => hrow ?_, fun hoff hknown => hrow ?_⟩
    · have henabled : (axisCfgOf r).enable = 1 := flag_eq_one hon
      obtain ⟨host, out, e⟩ := answered_frame src [] u
      rw [applyAxisCfg_enables henabled, e]
      rfl
    all_goals
      have hdisabled : (axisCfgOf r).enable ≠ 1 := by rw [show (axisCfgOf r).enable = 0 from (flag_eq_zero_iff 1).mpr hoff]; decide
      rw [applyAxisCfg_disables hdisabled, haxis, modAxis, answered_mot]
    · exact if_pos hlost
    · exact if_neg (Bool.eq_false_iff.mp hknown)
  case poly =>
    refine exec_settles (c := .auxPoly t src) (u := u) rfl ha rfl rfl rfl hall hall (auxPoly_acts hc) ?_
    rw [modAux, answered_aux]
    rfl
  case seq =>
    obtain ⟨hseq, hconv, hch⟩ := applyAuxSeq_keeps { mode := r.enum 0 2 0, slots := clampN (r.u8 1) 1 16, entries := seqEntries r } (answered src [] u)
    refine ⟨_, exec_settles (c := .auxSeq t src) (u := u) rfl ha rfl rfl rfl hall hall (auxSeq_acts hslots) rfl, ?_⟩
    rw [hseq, hconv]
    refine ⟨rfl, rfl, rfl, ?_, fun c => ?_⟩
    · rw [auxConv, answered_aux, auxConv]
    · rw [(hch c).1, (hch c).2, auxCh, answered_aux]
      exact ⟨rfl, rfl⟩
  case cfg =>
    refine exec_settles (c := .auxCfg t src) (u := u) rfl ha rfl rfl rfl hall hall (auxCfg_acts hc hidle) ?_
    rw [auxCfgOf_answered]
  case waits =>
    refine exec_acceptsAsked (c := .auxCfg t src) (u := u) rfl ha rfl rfl rfl hall hall (auxCfg_waits hc hbusy hon) hroom ?_
    rw [auxCfgOf_accepted, accepted_aux]
    rfl

end Sys2Proof.Machine
end

/-! MODE_SET, DATUM_FORCE, PORT_TRAIN and PORT_READMIT (R44, R46, R49, R57, R69, R152, R329). -/
section

namespace Sys2Proof.Machine

open Sys2Proof Sys2Proof.Safety

/-! ### MODE_SET (R44, R46, R49, R329, Table 2.3) -/

/-- The transitions of Table 2.3 as pairs. -/
def modeTable : List (Mode × Mode) :=
  [(.standby, .ready), (.ready, .standby), (.ready, .bench), (.ready, .inline), (.ready, .proof), (.ready, .replay), (.ready, .service), (.bench, .ready), (.inline, .ready),
    (.proof, .ready), (.replay, .ready), (.service, .ready), (.hold, .ready), (.hold, .standby)]

theorem transition_iff (old new : Mode) : transition old new = true ↔ (old, new) ∈ modeTable := by
  cases old <;> cases new <;> decide

/-- No transition of the table leaves a mode as it is. -/
theorem transition_ne {old new : Mode} (h : transition old new = true) : new ≠ old := by
  rintro rfl
  cases new <;> cases h

/-- A target of the table is a mode of ALL. -/
theorem transition_all {old new : Mode} (h : transition old new = true) : new.all = true := by
  revert h
  cases old <;> cases new <;> decide

/-- The modes that the device enters by itself are none of ALL (R360). -/
theorem internal_of_all {m : Mode} (h : m.all = true) : (m == .reset || m == .boot || m == .recovery || m == .activate) = false := by
  revert h
  cases m <;> decide

section

variable {r : Req} {s : State} {m : Mode}

theorem judgeMode_current (h : Mode.ofCode (r.u8 0) = some m) (hall : s.sys.mode.all = true) (hm : m = s.sys.mode) (hpend : s.sys.pend = none) :
    judgeMode r s = .ok none := by
  subst hm
  simp [judgeMode, h, internal_of_all hall, hpend]

theorem judgeMode_begins (h : Mode.ofCode (r.u8 0) = some m) (ht : transition s.sys.mode m = true) (hmet : modeCondition m s = 0) (hpend : s.sys.pend = none) :
    judgeMode r s = .ok (some m) := by
  simp [judgeMode, h, internal_of_all (transition_all ht), transition_ne ht, ht, hmet, hpend]

theorem judgeMode_noTransition (h : Mode.ofCode (r.u8 0) = some m) (hm : m ≠ s.sys.mode) (ht : transition s.sys.mode m = false) :
    judgeMode r s = .error (.wrongMode s.sys.mode 1) := by
  simp [judgeMode, h, hm, ht]

theorem modeSet_keeps (h : judgeMode r s = .ok none) : cmdModeSet.run r s = .ok {} := by
  simp only [cmdModeSet, h]

theorem modeSet_begins (h : judgeMode r s = .ok (some m)) :
    cmdModeSet.run r s = .ok { accepted := some 0, act := beginMode { target := m, src := r.src, seq := r.seq } } := by
  simp only [cmdModeSet, h]

/-- The conditions of R46 and R329 all hold. -/
theorem modeCondition_met (hlink : (m = .bench ∨ m = .inline ∨ m = .proof ∨ m = .replay) → 8 ≤ s.host.width ∧ 4 ≤ s.host.rate)
    (hinline : m = .inline → (s.tr.encs.getD s.tr.cfg.source {}).enable ≠ 0 ∧ ∃ p ∈ enabledPorts s, (portOf s p).state ≠ .retired)
    (hproof : m = .proof → s.proof.proofAxis < 4 ∧ (axisOf s s.proof.proofAxis).lost = false)
    (hbench : m = .bench → s.proof.benchAxis < 4 ∧ (axisOf s s.proof.benchAxis).lost = false)
    (hreplay : m = .replay → drivesIn s ≠ []) (hready : m = .ready → s.sys.mode = .hold → holdActive s = false) : modeCondition m s = 0 := by
  have hcarries : ((m.cap || m == .replay) && !linkOk s) = false := by
    cases m <;> simp_all [Mode.cap, linkOk]
  unfold modeCondition
  simp only [hcarries, Bool.false_eq_true, if_false]
  cases m with
  | inline =>
    obtain ⟨hon, p, hp, hstate⟩ := hinline rfl
    have hserves : ¬ (enabledPorts s).all (fun p => (portOf s p).state == .retired) = true := by
      rw [List.all_eq_true]
      exact fun hall => hstate (by simpa using hall p hp)
    simp only [if_neg hon, if_neg hserves]
  | proof =>
    obtain ⟨haxis, hknown⟩ := hproof rfl
    have hnamed : ¬ 4 ≤ s.proof.proofAxis := by omega
    simp only [if_neg hnamed, hknown, Bool.false_eq_true, if_false]
  | bench =>
    obtain ⟨haxis, hknown⟩ := hbench rfl
    have hnamed : ¬ 4 ≤ s.proof.benchAxis := by omega
    simp only [if_neg hnamed, hknown, Bool.false_eq_true, if_false]
  | replay => simp [hreplay rfl]
  | ready => simpa using hready rfl
  | _ => rfl

end

/-- Axes at rest are left alone (R446). -/
theorem stopAllAxes_rests {s : State} (h : ∀ n, n < 4 → axisMoving (axisOf s n) = false) : stopAllAxes s = s := by
  refine foldl_rests fun n hn => if_pos ?_
  have hlt : n < 4 := by
    simp only [List.mem_cons, List.not_mem_nil, or_false] at hn
    omega
  simp [h n hlt]

/-- Settles O28: the judgement of the request in its order, then the start of the change. -/
theorem modeSetStartsTheChange : Obligations.ModeSetStartsTheChange := by
  unfold Obligations.ModeSetStartsTheChange
  intro t src s m u r table link met req h hall hcode hpend
  refine ⟨fun hm => ?current, fun ht hmet hroom => ?begins, fun hm e => ?start, fun e hrest => stopAllAxes_rests hrest, fun hm ht => ?refused⟩
  case current =>
    exact exec_answers (c := .modeSet t src) (u := u) rfl h hall rfl ⟨rfl, rfl, rfl, rfl⟩ (modeSet_keeps (judgeMode_current hcode hall hm hpend)) rfl
  case begins =>
    obtain ⟨hlink, hinline, hproof, hbench, hreplay, hready⟩ := hmet
    have hjudge : judgeMode r u = .ok (some m) := judgeMode_begins hcode ((transition_iff _ _).mpr ht) (modeCondition_met hlink hinline hproof hbench hreplay hready) hpend
    exact exec_accepts (c := .modeSet t src) (u := u) rfl h hall rfl ⟨rfl, rfl, rfl, rfl⟩ (modeSet_begins hjudge) hroom rfl
  case start => exact if_pos (by simpa using hm)
  case refused =>
    have hno : transition u.sys.mode m = false := Bool.eq_false_iff.mpr fun ht' => ht ((transition_iff _ _).mp ht')
    exact exec_turnsAway (c := .modeSet t src) (u := u) rfl h hall rfl ⟨rfl, rfl, rfl, rfl⟩ (modeSet_refused (judgeMode_noTransition hcode hm hno))

/-! ### DATUM_FORCE (R57, R69) -/

theorem all_of_cap {m : Mode} (h : m.cap = true) : m.all = true := by
  revert h
  cases m <;> decide

theorem all_of_quiet {m : Mode} (h : m.quiet = true) : m.all = true := by
  revert h
  cases m <;> decide

@[simp] theorem accepted_datum (src res : Nat) (d : List Byte) (s : State) : (accepted src res d s).datum = s.datum := by
  obtain ⟨h, o, e⟩ := accepted_frame src res d s
  rw [e]

@[simp] theorem accepted_tr (src res : Nat) (d : List Byte) (s : State) : (accepted src res d s).tr = s.tr := by
  obtain ⟨h, o, e⟩ := accepted_frame src res d s
  rw [e]

@[simp] theorem accepted_banks (src res : Nat) (d : List Byte) (s : State) : (accepted src res d s).banks = s.banks := by
  obtain ⟨h, o, e⟩ := accepted_frame src res d s
  rw [e]

theorem lookAhead_accepted (src res : Nat) (d : List Byte) (s : State) : lookAhead (accepted src res d s) = lookAhead s := by
  obtain ⟨h, o, e⟩ := accepted_frame src res d s
  rw [e]
  rfl

theorem gradePlaced_accepted (src res : Nat) (d : List Byte) (s : State) : gradePlaced (accepted src res d s) = gradePlaced s := by
  obtain ⟨h, o, e⟩ := accepted_frame src res d s
  rw [e]
  rfl

section

variable {s : State}

theorem forceDatum_fails (h : s.tr.session = false) : forceDatum s = complete (ofOpcode 0x0111) 0x40 1 0 s := by
  simp [forceDatum, h, jobFailed]

/-- The Datum that a force fixes at line n of a web without Datums (R57): it holds the bank that is armed and not yet bound. -/
def forcedDatum (n : Nat) (s : State) : Datum :=
  { id := s.datum.nextId, flags := 4, byPos := false, pos := 0, line := n, deviation := 0, holds := s.banks.armed && s.banks.bound.isNone, passed := false, repeatNo := 0, gen := 0, first := 0, tFixed := s.now }

/-- With no Datum on the web and no step of a grade placed, the forced one is the only one, and waits for its line. -/
theorem forceDatum_alone (hsession : s.tr.session = true) (hlist : s.datum.list = []) (hgrade : gradePlaced s = false) :
    let d := forcedDatum (s.tr.nextK + lookAhead s) s
    let w := if d.holds then lateCollapse d s else s
    forceDatum s = { w with datum := { s.datum with list := [d], nextId := s.datum.nextId + 1, forces := s.datum.forces ++ [s.datum.nextId] },
                            banks := { s.banks with bound := if d.holds then some s.datum.nextId else s.banks.bound } } := by
  have hboundary (d : Datum) : sameBoundary s d = false := by simp [sameBoundary, hlist]
  have hfix (d : Datum) : gradeAtFix d s = s := by simp [gradeAtFix, gradeArm, hgrade]
  simp only [forceDatum, hsession, Bool.not_true, Bool.false_eq_true, if_false, fixDatum, hfix, hboundary, Bool.not_false, Bool.and_true, forcedDatum, nextTicketLine]
  by_cases hbinds : (s.banks.armed && s.banks.bound.isNone) = true
  · simp [hbinds, lateCollapse, hlist, insertDatum, datumLine]
  · simp [hbinds, hlist, insertDatum, datumLine]

end

/-! ### PORT_TRAIN and PORT_READMIT (R152) -/

section

variable {r : Req} {s : State}

theorem portTrain_retired {p : Nat} (h : (maskIdx 32 (r.u32 0)).find? (fun p => (portOf s p).state == .retired || bit s.ports.retired p) = some p) :
    cmdPortTrain.run r s = .error (.retired p (portOf s p).cause) := by
  simp only [cmdPortTrain, h]

theorem portTrain_acts (h : ∀ p ∈ maskIdx 32 (r.u32 0), (portOf s p).state ≠ .retired ∧ bit s.ports.retired p = false) :
    cmdPortTrain.run r s = .ok { accepted := some 0, act := trainPorts (reqKey r) (r.u32 0) } := by
  have hnone : (maskIdx 32 (r.u32 0)).find? (fun p => (portOf s p).state == .retired || bit s.ports.retired p) = none := by
    rw [List.find?_eq_none]
    intro p hp
    simp [h p hp]
  simp only [cmdPortTrain, hnone]

section

variable {key mask : Nat}

theorem trainPorts_trains (h : (maskIdx 32 mask).filter (enabledPort s) ≠ []) :
    trainPorts key mask s = ((maskIdx 32 mask).filter (enabledPort s)).foldl (fun s p => startTraining p s)
      { s with ports.trains := s.ports.trains ++ [{ key := key, op := 0x0202, mask := mask, left := sumN (((maskIdx 32 mask).filter (enabledPort s)).map (fun p => 2 ^ p)) }] } :=
  if_neg (by simpa using h)

/-- With no enabled port in its mask a PORT_TRAIN waits for the earlier ones alone (R377, log 45). -/
theorem trainPorts_none (h : (maskIdx 32 mask).filter (enabledPort s) = []) :
    trainPorts key mask s = endTrains 32 0 { s with ports.trains := s.ports.trains ++ [{ key := key, op := 0x0202, mask := mask, left := 0 }] } := by
  rw [trainPorts, h]
  rfl

/-- Where no training is open at all, it is done at once (log 45). -/
theorem trainPorts_idle (h : (maskIdx 32 mask).filter (enabledPort s) = []) (hidle : s.ports.trains = []) :
    trainPorts key mask s = complete (fun q => q.src * 2 ^ 32 + q.seq == key) 0 0 0 s := by
  have hrest : { s with ports := { s.ports with trains := [] } } = s := by rw [← hidle]
  rw [trainPorts_none h, hidle]
  simp [endTrains, trainsOver, maskIdx, hrest]

end

theorem portReadmit_busy (hp : r.u8 0 < 32) (h : (portOf s (r.u8 0)).readmit = 1 ∨ (portOf s (r.u8 0)).readmit = 2) :
    cmdPortReadmit.run r s = .error (.busy 2) := by
  have hport : ¬ 32 ≤ r.u8 0 := by omega
  exact (if_neg hport).trans (if_pos (by simpa using h))

section

variable (hp : r.u8 0 < 32) (h1 : (portOf s (r.u8 0)).readmit ≠ 1) (h2 : (portOf s (r.u8 0)).readmit ≠ 2)

include hp h1 h2

theorem portReadmit_serves (h : (portOf s (r.u8 0)).state ≠ .retired) : cmdPortReadmit.run r s = .ok {} := by
  have hport : ¬ 32 ≤ r.u8 0 := by omega
  exact (if_neg hport).trans ((if_neg (by simp [h1, h2])).trans (if_pos (by simpa using h)))

theorem portReadmit_starts (h : (portOf s (r.u8 0)).state = .retired) :
    cmdPortReadmit.run r s = .ok { accepted := some (r.u8 0), act := startReadmit (r.u8 0) } := by
  have hport : ¬ 32 ≤ r.u8 0 := by omega
  exact (if_neg hport).trans ((if_neg (by simp [h1, h2])).trans (if_neg (by simp [h])))

end

end

/-- Settles O29: the checks of each request, then what it does once it is accepted. -/
theorem datumAndPortCommandsAct : Obligations.DatumAndPortCommandsAct := by
  unfold Obligations.DatumAndPortCommandsAct
  intro t src s u r n hroom
  refine ⟨fun h hcap => ?force, fun h hquiet => ⟨fun p hp => ?retired, fun hfree => ?trains⟩, fun h hall hp => ⟨fun hbusy => ?busy, fun h1 h2 hstate => ?serves, fun h1 h2 hstate => ?readmits⟩⟩
  case force =>
    have hrow : exec (.datumForce t src) s = .next (after t s (forceDatum (accepted src 0 [] u))) :=
      exec_accepted (c := .datumForce t src) (k := cmdDatumForce) (d := { accepted := some 0, act := forceDatum }) rfl h rfl rfl fixedLen_eq_none (legal_all (all_of_cap hcap) hcap) rfl rfl hroom
    rw [hrow]
    refine ⟨fun hsession => ?_, fun _ => rfl, fun hsession hlist hgrade => ?_⟩
    · rw [forceDatum_fails (by rwa [accepted_tr])]
    · rw [forceDatum_alone (by rwa [accepted_tr]) (by rwa [accepted_datum]) (by rwa [gradePlaced_accepted])]
      simp only [forcedDatum, accepted_tr, accepted_datum, accepted_banks, accepted_now, lookAhead_accepted]
      rfl
  case retired =>
    exact exec_refused (c := .portTrain t src) (k := cmdPortTrain) rfl h rfl rfl fixedLen_eq_none (legal_all (all_of_quiet hquiet) hquiet) (portTrain_retired hp)
  case trains =>
    have hrow : exec (.portTrain t src) s = .next (after t s (trainPorts (reqKey r) (r.u32 0) (accepted src 0 [] u))) :=
      exec_accepted (c := .portTrain t src) (k := cmdPortTrain) (d := { accepted := some 0, act := trainPorts (reqKey r) (r.u32 0) }) rfl h rfl rfl fixedLen_eq_none (legal_all (all_of_quiet hquiet) hquiet) (portTrain_acts hfree) rfl hroom
    have henabled : enabledPort (accepted src 0 [] u) = enabledPort u := by
      funext p
      rw [enabledPort, portOf, accepted_ports, ← portOf, enabledPort]
    rw [hrow]
    refine ⟨fun hps htrains => ?_, fun hps => ?_, fun hps => ?_⟩
    · rw [trainPorts_idle (by rwa [henabled]) (by rwa [accepted_ports])]
      rfl
    · rw [trainPorts_none (by rwa [henabled]), accepted_ports]
      rfl
    · rw [trainPorts_trains (by rwa [henabled]), henabled, accepted_ports]
      rfl
  case busy => exact exec_turnsAway (c := .portReadmit t src) (u := u) rfl h hall rfl ⟨rfl, rfl, rfl, rfl⟩ (portReadmit_busy hp hbusy)
  case serves => exact exec_answers (c := .portReadmit t src) (u := u) rfl h hall rfl ⟨rfl, rfl, rfl, rfl⟩ (portReadmit_serves hp h1 h2 hstate) rfl
  case readmits =>
    refine exec_accepts (c := .portReadmit t src) (u := u) rfl h hall rfl ⟨rfl, rfl, rfl, rfl⟩ (portReadmit_starts hp h1 h2 hstate) hroom ?_
    rw [startReadmit, modPort_congr _ (accepted_ports ..)]

end Sys2Proof.Machine
end

/-! What most operations leave alone: the mode, the banks, the state of the station and of the host link (R21, Table 1.3). -/
section

namespace Sys2Proof.Machine

open Sys2Proof Sys2Proof.Safety

/-! ### The core of the state -/

/-- The mode and its pins, the settings banks, participation on the station bus, the lines used, and whether the device may write to the host. -/
def coreView (s : State) : SysSt × BanksSt × Bool × Nat × (Nat × Bool × Bool × Bool) :=
  (s.sys, s.banks, s.stn.up, s.tr.used, s.host.rate, s.host.bme, s.host.d3hot, s.host.evq.enable)

theorem coreView_iff {a b : State} : coreView a = coreView b ↔ a.sys = b.sys ∧ a.banks = b.banks ∧ a.stn.up = b.stn.up ∧ a.tr.used = b.tr.used ∧
    a.host.rate = b.host.rate ∧ a.host.bme = b.host.bme ∧ a.host.d3hot = b.host.d3hot ∧ a.host.evq.enable = b.host.evq.enable := by
  simp only [coreView, Prod.mk.injEq]

theorem coreView_ite {p : Prop} [Decidable p] {a b s : State} (ha : coreView a = coreView s) (hb : coreView b = coreView s) : coreView (if p then a else b) = coreView s := by
  split <;> assumption

theorem coreView_foldl {α : Type} {f : State → α → State} (h : ∀ s a, coreView (f s a) = coreView s) (l : List α) (s : State) : coreView (l.foldl f s) = coreView s :=
  foldl_keeps h l s

@[simp] theorem coreView_emit (o : Out) (s : State) : coreView (emit o s) = coreView s := rfl
@[simp] theorem coreView_modPort (p : Nat) (f : Port → Port) (s : State) : coreView (modPort p f s) = coreView s := rfl
@[simp] theorem coreView_modAxis (n : Nat) (f : Axis → Axis) (s : State) : coreView (modAxis n f s) = coreView s := rfl

/-! ### Events, completions and faults -/

@[simp] theorem coreView_signal (v : Nat) (s : State) : coreView (signal v s) = coreView s := by
  unfold signal fire emit
  repeat' split
  all_goals rfl

@[simp] theorem coreView_writeEntry (e : Event) (s : State) : coreView (writeEntry e s) = coreView s := by
  unfold writeEntry signalEvq
  extract_lets q written q' took disarmed coalesced
  split
  · split
    · exact coreView_signal _ _
    · rfl
  · split
    · exact coreView_signal _ _
    · rfl

@[simp] theorem coreView_nspSend (mac kind dst : Nat) (p : List Byte) (s : State) : coreView (nspSend mac kind dst p s) = coreView s := by
  unfold nspSend
  split <;> rfl

@[simp] theorem coreView_post (type source : Nat) (p : List Byte) (s : State) : coreView (post type source p s) = coreView s := by
  unfold post nspMaster
  extract_lets q e _ _ counted sent
  have hsent : coreView sent = coreView s := coreView_ite (coreView_nspSend ..) rfl
  refine coreView_ite hsent (coreView_ite ((coreView_writeEntry ..).trans hsent) (coreView_ite ?_ (coreView_ite ?_ ?_)))
  all_goals exact hsent

@[simp] theorem coreView_postDone (p : Pend) (status detail result : Nat) (s : State) : coreView (postDone p status detail result s) = coreView s := coreView_post ..

@[simp] theorem coreView_postLimited (i type source kind : Nat) (p : List Byte) (s : State) : coreView (postLimited i type source kind p s) = coreView s := by
  unfold postLimited
  extract_lets key last
  exact coreView_ite rfl (coreView_post ..)

@[simp] theorem coreView_raiseWith (code res : Nat) (d : List Byte) (g : Nat) (s : State) : coreView (raiseWith code res d g s) = coreView s := by
  obtain ⟨f, e⟩ := raiseWith_frame code res d g s
  rw [e]
  rfl

@[simp] theorem coreView_complete (f : Pend → Bool) (status detail result : Nat) (s : State) : coreView (complete f status detail result s) = coreView s := by
  unfold complete
  split
  · rfl
  · exact coreView_post ..

@[simp] theorem coreView_completeAll (f : Pend → Bool) (status detail : Nat) (s : State) : coreView (completeAll f status detail s) = coreView s :=
  coreView_foldl (f := fun s p => postDone p status detail 0 { s with host.outstanding := s.host.outstanding.erase p }) (fun _ p => coreView_postDone p ..) _ s

/-! ### Ports and their lanes -/

@[simp] theorem coreView_kickTrainer (p : Nat) (s : State) : coreView (kickTrainer p s) = coreView s := by
  unfold kickTrainer
  extract_lets x
  split
  · rfl
  · next t _ =>
    refine coreView_ite rfl (coreView_ite rfl ?_)
    have hstep : coreView (if t.step == .due then toStep p (if t.retrain then .write 4 else .read 0) s else s) = coreView s := coreView_ite rfl rfl
    extract_lets begun
    split
    all_goals exact hstep

@[simp] theorem coreView_portQuiet (p : Nat) (s : State) : coreView (portQuiet p s) = coreView s := by
  unfold portQuiet syncLow
  extract_lets low
  exact coreView_ite (a := low) (b := low) (p := True) (coreView_ite rfl rfl) (coreView_ite rfl rfl)

@[simp] theorem coreView_absentIn (p : Nat) (f : Slot → Bool) (s : State) : coreView (absentIn p f s) = coreView s := rfl

@[simp] theorem coreView_startTraining (p : Nat) (s : State) : coreView (startTraining p s) = coreView s := by
  simp only [startTraining, beginTrainer, markAbsent, coreView_kickTrainer, coreView_modPort, coreView_absentIn, coreView_portQuiet]

@[simp] theorem coreView_abandonTraining (p : Nat) (s : State) : coreView (abandonTraining p s) = coreView s := by
  unfold abandonTraining
  extract_lets x
  exact coreView_ite rfl rfl

@[simp] theorem coreView_portsOff (s : State) : coreView (portsOff s) = coreView s := by
  unfold portsOff
  extract_lets off waits
  have hoff : coreView off = coreView s := by
    refine coreView_foldl (fun s p => ?_) _ s
    dsimp only
    split <;> simp only [lanesOff, coreView_modPort, coreView_abandonTraining, coreView_portQuiet]
  clear_value off
  exact coreView_ite ((coreView_completeAll ..).trans hoff) hoff

@[simp] theorem coreView_startRefClocks (s : State) : coreView (startRefClocks s) = coreView s :=
  coreView_ite rfl ((coreView_foldl (fun s g => coreView_emit (.refclk g true) s) _ _).trans rfl)

@[simp] theorem coreView_stopLoop (s : State) : coreView (stopLoop s) = coreView s := by
  unfold stopLoop
  split
  · rfl
  · exact (coreView_foldl (fun _ _ => coreView_startTraining ..) _ _).trans (coreView_complete ..)

/-! ### Streams, replays and jobs -/

@[simp] theorem coreView_completeDesc (n used items status firstSeq : Nat) (irq : Bool) (s : State) : coreView (completeDesc n used items status firstSeq irq s) = coreView s := by
  unfold completeDesc
  extract_lets x idx b written moved
  exact coreView_ite (coreView_signal ..) rfl

@[simp] theorem coreView_deliverLines (n : Nat) (i : Item) (s : State) : coreView (deliverLines n i s) = coreView s := by
  unfold deliverLines
  extract_lets key left _ counted
  refine coreView_ite rfl ((coreView_foldl (fun s d => ?_) _ _).trans rfl)
  extract_lets k
  split <;> rfl

@[simp] theorem coreView_countDelivered (n : Nat) (i : Item) (s : State) : coreView (countDelivered n i s) = coreView s :=
  coreView_ite rfl (coreView_deliverLines ..)

@[simp] theorem coreView_completeBuf (n : Nat) (s : State) : coreView (completeBuf n s) = coreView s := by
  unfold completeBuf
  extract_lets x
  split
  · rfl
  · next b _ =>
    extract_lets last done off termed
    have hdone : coreView done = coreView s := coreView_completeDesc ..
    exact coreView_ite hdone ((coreView_foldl (fun s i => coreView_countDelivered n i s) _ _).trans hdone)

@[simp] theorem coreView_endReplay (status : Nat) (s : State) : coreView (endReplay status s) = coreView s := by
  unfold endReplay
  split
  · rfl
  · exact (coreView_complete ..).trans (coreView_completeBuf ..)

@[simp] theorem coreView_stallEvent (n kind line : Nat) (s : State) : coreView (stallEvent n kind line s) = coreView s := coreView_postLimited ..

@[simp] theorem coreView_abandonBuf (n : Nat) (s : State) : coreView (abandonBuf n s) = coreView s := by
  unfold abandonBuf
  split
  · rfl
  · exact coreView_ite rfl rfl

@[simp] theorem coreView_ringError (n desc : Nat) (s : State) : coreView (ringError n desc s) = coreView s :=
  (coreView_stallEvent ..).trans (coreView_abandonBuf n s)

@[simp] theorem coreView_jobVoid (c : JobCfg) (n : Nat) (s : State) : coreView (jobVoid c n s) = coreView s :=
  coreView_ite rfl (coreView_ite rfl (coreView_ite rfl rfl))

@[simp] theorem coreView_failJob (guard : Nat) (j : Job) (s : State) : coreView (failJob guard j s) = coreView s := by
  unfold failJob
  extract_lets c cut j' drawn void set
  have hdrawn : coreView drawn = coreView s := coreView_ite rfl rfl
  have hvoid : coreView void = coreView s := coreView_ite ((coreView_jobVoid ..).trans hdrawn) hdrawn
  exact (coreView_complete ..).trans hvoid

@[simp] theorem coreView_failJobs (s : State) : coreView (failJobs s) = coreView s := coreView_foldl (fun _ _ => coreView_failJob ..) _ _

/-! ### Axes -/

@[simp] theorem coreView_askStop (n : Nat) (s : State) : coreView (askStop n s) = coreView s := coreView_ite rfl rfl

@[simp] theorem coreView_axisDone (n status detail : Nat) (s : State) : coreView (axisDone n status detail s) = coreView s := coreView_completeAll ..

@[simp] theorem coreView_stopAllAxes (s : State) : coreView (stopAllAxes s) = coreView s :=
  coreView_foldl (fun s n => coreView_ite rfl ((coreView_modAxis ..).trans ((coreView_axisDone ..).trans (coreView_askStop n s)))) _ s

@[simp] theorem coreView_takeProof (s : State) : coreView (takeProof s) = coreView s := by
  unfold takeProof
  extract_lets n
  split
  · exact coreView_ite (p := ((axisOf s n).homing.isSome = true)) ((coreView_axisDone ..).trans (coreView_askStop n s)) rfl
  · exact coreView_ite rfl rfl

@[simp] theorem coreView_startScan (s : State) : coreView (startScan s) = coreView s :=
  coreView_ite ((coreView_foldl (fun _ _ => coreView_complete ..) _ _).trans (coreView_axisDone ..)) rfl

/-! ### Lamps and auxiliary sensing -/

@[simp] theorem coreView_fadeUp (i : Nat) (s : State) : coreView (fadeUp i s) = coreView s := rfl

@[simp] theorem coreView_lampsEnter (old new : Mode) (s : State) : coreView (lampsEnter old new s) = coreView s := by
  unfold lampsEnter
  extract_lets config keep lamps litGroups _ dark
  have hconfig : coreView config = coreView s := coreView_ite rfl rfl
  have hlamps (s : State) (up : Bool) : coreView (lamps s up) = coreView s :=
    coreView_ite (coreView_foldl (f := fun s i => fadeUp i s) (fun s i => coreView_fadeUp i s) _ { s with lamp.dark := false }) rfl
  clear_value config
  split
  · refine coreView_ite hconfig ?_
    have hdark : coreView dark = coreView s := hconfig
    clear_value litGroups dark
    refine (coreView_foldl (fun s g => ?_) _ dark).trans hdark
    exact coreView_post ..
  · exact coreView_ite ((hlamps ..).trans hconfig) hconfig

@[simp] theorem coreView_muxOff (x : Nat) (s : State) : coreView (muxOff x s) = coreView s := coreView_ite rfl rfl

@[simp] theorem coreView_placeMux (x : Nat) (s : State) : coreView (placeMux x s) = coreView s := by
  unfold placeMux
  extract_lets placed
  split
  · rfl
  · exact coreView_muxOff ..

@[simp] theorem coreView_leaveJoint (s : State) : coreView (leaveJoint s) = coreView s := by
  unfold leaveJoint
  split
  · exact coreView_placeMux ..
  · rfl

@[simp] theorem coreView_beginJoint (p : Nat) (s : State) : coreView (beginJoint p s) = coreView s := by
  unfold beginJoint
  split <;> rfl

@[simp] theorem coreView_switchTo (x : Nat) (v : Option Nat) (s : State) : coreView (switchTo x v s) = coreView s := by
  unfold switchTo
  extract_lets moved
  split
  · refine coreView_ite ?_ rfl
    rw [coreView_beginJoint, coreView_placeMux, coreView_leaveJoint]
    rfl
  · rw [coreView_beginJoint, coreView_placeMux]
    rfl

@[simp] theorem coreView_startAna (s : State) : coreView (startAna s) = coreView s := coreView_foldl (fun _ _ => coreView_switchTo ..) _ _

end Sys2Proof.Machine
end

/-! The boot that the last cause of RESET lets begin (R44, R51, R522, R548, R549). -/
section

namespace Sys2Proof.Machine

open Sys2Proof Sys2Proof.Safety

/-! ### What a boot's start leaves alone -/

@[simp] theorem coreView_logFault (code res action : Nat) (d : List Byte) (s : State) : coreView (logFault code res action d s) = coreView s := rfl

@[simp] theorem coreView_trialBoot (s : State) : coreView (trialBoot s) = coreView s := coreView_ite rfl (coreView_ite rfl rfl)

@[simp] theorem coreView_finishErase (s : State) : coreView (finishErase s) = coreView s := coreView_ite rfl rfl

@[simp] theorem coreView_logAtBoot (s : State) : coreView (logAtBoot s) = coreView s :=
  coreView_foldl (f := fun s (e : Nat × Nat) => logFault e.1 e.2 5 (faultData 1 []) s) (fun _ _ => coreView_logFault ..) _ { s with flt.atBoot := [] }

@[simp] theorem coreView_raiseChannels (s : State) : coreView (raiseChannels s) = coreView s :=
  coreView_foldl (f := fun s c => channelBad c s) (fun _ _ => coreView_ite rfl (coreView_raiseWith ..)) _ s

@[simp] theorem coreView_dropTags (bad : Nat) (s : State) : coreView (dropTags bad s) = coreView s := coreView_ite rfl (coreView_logFault ..)

/-- A boot begins with the pins and the banks as they are. -/
theorem startBoot_core (s : State) : (startBoot s).sys = { s.sys with mode := .boot, prev := .reset, tEnter := stationTime s, tPerst := s.now } ∧ (startBoot s).banks = s.banks := by
  unfold startBoot
  extract_lets _ _ _ begun
  have hcore : coreView (raiseChannels (trialBoot (finishErase (logAtBoot begun)))) = coreView begun := by simp
  obtain ⟨hsys, hbanks, -⟩ := coreView_iff.mp hcore
  exact ⟨hsys, hbanks⟩

/-! ### The causes of RESET -/

/-- Nothing holds the device in RESET (R44, R522, R548, R549). -/
def released (y : SysSt) : Bool := y.porN && y.sysRstN && !y.xtalStop && !y.brownOut && !y.thermal

theorem released_iff {y : SysSt} : released y = true ↔ y.porN = true ∧ y.sysRstN = true ∧ y.xtalStop = false ∧ y.brownOut = false ∧ y.thermal = false := by
  simp [released, and_assoc]

theorem not_released_iff {y : SysSt} : released y = false ↔ y.porN = false ∨ y.sysRstN = false ∨ y.xtalStop = true ∨ y.brownOut = true ∨ y.thermal = true := by
  simp only [← Bool.not_eq_true, released_iff]
  simp only [Bool.not_eq_true, not_and_or, Bool.not_eq_false]

/-- BOOT has begun out of RESET, and no setting has changed. -/
def Booted (u e : State) : Prop := e.sys.mode = .boot ∧ e.sys.prev = .reset ∧ e.sys.porN = true ∧ e.sys.sysRstN = true ∧ e.banks = u.banks

/-- RESET goes on: no setting and no entry of the fault log has changed. -/
def Held (u e : State) : Prop := e.sys.mode = .reset ∧ e.banks = u.banks ∧ e.flt.log = u.flt.log

section

variable {s u : State}

theorem tryBoot_boots (hmode : s.sys.mode = .reset) (hfree : released s.sys = true) (hbanks : s.banks = u.banks) : Booted u (tryBoot s) := by
  have htry : tryBoot s = startBoot s := if_pos (by simpa [hmode, released] using hfree)
  obtain ⟨hsys, hkept⟩ := startBoot_core s
  obtain ⟨hpor, hrst, -⟩ := released_iff.mp hfree
  rw [Booted, htry, hsys, hkept]
  exact ⟨rfl, rfl, hpor, hrst, hbanks⟩

theorem tryBoot_rests (h : s.sys.mode ≠ .reset ∨ released s.sys = false) : tryBoot s = s := by
  refine if_neg fun hboots => ?_
  have hfree : s.sys.mode = .reset ∧ released s.sys = true := by simpa [released, and_assoc] using hboots
  rcases h with h | h
  · exact h hfree.1
  · simp [h] at hfree

theorem tryBoot_holds (hmode : s.sys.mode = .reset) (hheld : released s.sys = false) : Held s (tryBoot s) := by
  rw [tryBoot_rests (.inr hheld)]
  exact ⟨hmode, rfl, rfl⟩

theorem porEnd_boots (ch tags : Nat) (hmode : s.sys.mode = .reset) (hfree : released s.sys = true) (hbanks : s.banks = u.banks) : Booted u (porEnd ch tags s) := by
  unfold porEnd
  rw [if_neg (by simp [hmode])]
  extract_lets _ _ begun
  have hboots : (tryBoot begun).sys.mode = .boot := (tryBoot_boots (u := u) (s := begun) hmode hfree hbanks).1
  rw [if_pos hboots]
  obtain ⟨hsys, hkept, -⟩ := coreView_iff.mp (coreView_dropTags tags begun)
  exact tryBoot_boots (by rw [hsys]; exact hmode) (by rw [hsys]; exact hfree) (by rw [hkept]; exact hbanks)

theorem porEnd_holds (ch tags : Nat) (hmode : s.sys.mode = .reset) (hfree : released s.sys = false) : Held s (porEnd ch tags s) := by
  unfold porEnd
  rw [if_neg (by simp [hmode])]
  extract_lets _ _ begun
  have hheld : tryBoot begun = begun := tryBoot_rests (.inr hfree)
  have hreset : begun.sys.mode = .reset := hmode
  rw [if_neg (by simp [hheld, hreset])]
  exact ⟨hmode, rfl, rfl⟩

end

/-- Settles O38: each of the five causes is judged by `tryBoot`, once on the state without it. -/
theorem theLastCauseReleasesReset : Obligations.TheLastCauseReleasesReset := by
  unfold Obligations.TheLastCauseReleasesReset
  intro t ch tags s u y boots stays hmode
  have rowBoots {c : Instr} {e : State} (hc : exec c s = .next (after t s e)) (he : Booted u e) : boots c := ⟨e, hc, he⟩
  have rowStays {c : Instr} {e : State} (hc : exec c s = .next (after t s e)) (he : Held u e) : stays c := ⟨e, hc, he⟩
  have porRises (hpor : u.sys.porN = false) : porRise ch tags u = porEnd ch tags { u with sys.porN := true } := if_neg (by simp [hpor])
  have rstRises (hrst : u.sys.sysRstN = false) : sysRstRise u = tryBoot { u with sys.sysRstN := true } := if_neg (by simp [hrst])
  have cools (ht : u.sys.thermal = true) : thermalRelease u = tryBoot { u with sys.thermal := false } := if_pos ht
  refine ⟨?porRises, ?porHeld, ?rstRises, ?rstHeld, ?supply, ?crystal, ?cool, ?coolHeld⟩
  case porRises =>
    intro hpor hrst hx hb ht
    exact rowBoots (exec_porNRise ..) (porRises hpor ▸ porEnd_boots ch tags hmode (released_iff.mpr ⟨rfl, hrst, hx, hb, ht⟩) rfl)
  case porHeld =>
    intro hpor hother
    exact rowStays (exec_porNRise ..) (porRises hpor ▸ porEnd_holds ch tags hmode (not_released_iff.mpr (.inr hother)))
  case rstRises =>
    intro hpor hrst hx hb ht
    exact rowBoots (exec_sysRstNRise ..) (rstRises hrst ▸ tryBoot_boots hmode (released_iff.mpr ⟨hpor, rfl, hx, hb, ht⟩) rfl)
  case rstHeld =>
    intro hrst hother
    exact rowStays (exec_sysRstNRise ..) (rstRises hrst ▸ tryBoot_holds hmode (not_released_iff.mpr (hother.imp_right .inr)))
  case supply =>
    intro hpor hrst hx hb ht
    have hend : brownOutEnd u = porEnd u.mem.badChannels 0 { u with sys.brownOut := false } := if_pos hb
    exact rowBoots (exec_brownOutRecovery ..) (hend ▸ porEnd_boots _ _ hmode (released_iff.mpr ⟨hpor, hrst, hx, rfl, ht⟩) rfl)
  case crystal =>
    intro hpor hrst hx hb ht
    have hback : xtalBack u = porEnd u.mem.badChannels 0 { u with sys.xtalStop := false } := if_pos hx
    exact rowBoots (exec_xtal25Restart ..) (hback ▸ porEnd_boots _ _ hmode (released_iff.mpr ⟨hpor, hrst, rfl, hb, ht⟩) rfl)
  case cool =>
    intro hpor hrst hx hb ht
    exact rowBoots (exec_thermalTripRelease ..) (cools ht ▸ tryBoot_boots hmode (released_iff.mpr ⟨hpor, hrst, hx, hb, rfl⟩) rfl)
  case coolHeld =>
    intro ht hother
    have hheld : released { u.sys with thermal := false } = false := not_released_iff.mpr (hother.imp_right fun h => h.imp_right fun h => h.imp_right .inl)
    exact rowStays (exec_thermalTripRelease ..) (cools ht ▸ tryBoot_holds hmode hheld)

end Sys2Proof.Machine
end

/-! Entering a mode, and the changes of mode that no command waits behind (R45, R47, R48, R373, R446). -/
section

namespace Sys2Proof.Machine

open Sys2Proof Sys2Proof.Safety

/-! ### What entering a mode leaves alone -/

@[simp] theorem coreView_hbmEnter (new : Mode) (s : State) : coreView (hbmEnter new s) = coreView s := coreView_ite rfl (coreView_ite rfl rfl)

@[simp] theorem coreView_evMode (old new : Mode) (cause fault : Nat) (r : Option ModeReq) (s : State) : coreView (evMode old new cause fault r s) = coreView s := by
  unfold evMode
  split
  · exact coreView_post ..
  · exact coreView_post ..

/-- Leaving a mode without capture ends work, but keeps the settings and what the link may carry. -/
theorem coreView_leaveMode {s : State} (new : Mode) (hcap : s.sys.mode.cap = false) : coreView (leaveMode new s) = coreView s := by
  have hproof : s.sys.mode ≠ .proof := fun h => by simp [h, Mode.cap] at hcap
  unfold leaveMode
  extract_lets old replayed looped cut aborted failed released stopped off
  have hreplayed : coreView replayed = coreView s := coreView_ite (coreView_endReplay ..) rfl
  have hlooped : coreView looped = coreView s := coreView_ite ((coreView_stopLoop ..).trans hreplayed) hreplayed
  have hcut : cut = looped := if_neg (by simp [old, hcap])
  have haborted : aborted = cut := if_neg (by simp [old, hcap])
  have hlate : coreView aborted = coreView s := by rw [haborted, hcut, hlooped]
  have hfailed : coreView failed = coreView s := coreView_ite ((coreView_failJobs ..).trans hlate) hlate
  have hreleased : released = failed := if_neg hproof
  have hheld : coreView released = coreView s := by rw [hreleased, hfailed]
  have hstopped : coreView stopped = coreView s := coreView_ite ((coreView_stopAllAxes ..).trans hheld) hheld
  have hoff : coreView off = coreView s := coreView_ite ((coreView_portsOff ..).trans hstopped) hstopped
  exact coreView_ite hoff hoff

/-- What the device holds once it has entered a mode. -/
theorem enterMode_core (new : Mode) (cause fault : Nat) (r : Option ModeReq) (s : State) : let e := enterMode new cause fault r s
    (e.sys.mode = new ∧ e.sys.prev = s.sys.mode ∧ e.sys.cause = cause ∧ e.sys.pend = none ∧ e.sys.stopping = none) ∧
    e.banks = (leaveMode new s).banks ∧ e.stn.up = (leaveMode new s).stn.up ∧ e.tr.used = (leaveMode new s).tr.used := by
  unfold enterMode
  extract_lets old wasOn src left _ sys _ lit held started tracked e
  have hheld : coreView held = coreView lit := (coreView_hbmEnter ..).trans (coreView_takeProof ..)
  have hstarted : coreView started = coreView lit := coreView_ite ((coreView_startAna ..).trans hheld) hheld
  have htracked : coreView tracked = coreView lit := coreView_ite hstarted hstarted
  have he : coreView e = coreView lit := (coreView_evMode ..).trans htracked
  obtain ⟨hsys, hbanks, hup, hused, -⟩ := coreView_iff.mp (he.trans (coreView_lampsEnter ..))
  rw [hsys, hbanks, hup, hused]
  exact ⟨⟨rfl, rfl, rfl, rfl, rfl⟩, rfl, rfl, rfl⟩

/-- Entering a mode from one without capture keeps the settings, participation and the lines used. -/
theorem enterMode_keeps {s : State} (new : Mode) (cause fault : Nat) (r : Option ModeReq) (hcap : s.sys.mode.cap = false) :
    (enterMode new cause fault r s).banks = s.banks ∧ (enterMode new cause fault r s).stn.up = s.stn.up ∧ (enterMode new cause fault r s).tr.used = s.tr.used := by
  obtain ⟨-, hbanks, hup, hused⟩ := enterMode_core new cause fault r s
  obtain ⟨-, hbanks', hup', hused', -⟩ := coreView_iff.mp (coreView_leaveMode new hcap)
  exact ⟨hbanks.trans hbanks', hup.trans hup', hused.trans hused'⟩

/-! ### The start of a session -/

/-- The position of the web and the Datums on it. -/
def webView (s : State) : TransitSt × DatumSt := (s.tr, s.datum)

theorem webView_foldl {α : Type} {f : State → α → State} (h : ∀ s a, webView (f s a) = webView s) (l : List α) (s : State) : webView (l.foldl f s) = webView s :=
  foldl_keeps h l s

@[simp] theorem webView_post (type source : Nat) (p : List Byte) (s : State) : webView (post type source p s) = webView s := by
  obtain ⟨h, n, o, e⟩ := post_frame type source p s
  rw [e]
  rfl

@[simp] theorem webView_complete (f : Pend → Bool) (status detail result : Nat) (s : State) : webView (complete f status detail result s) = webView s := by
  obtain ⟨h, n, o, e⟩ := complete_frame f status detail result s
  rw [e]
  rfl

@[simp] theorem webView_axisDone (n status detail : Nat) (s : State) : webView (axisDone n status detail s) = webView s :=
  webView_foldl (f := fun s p => postDone p status detail 0 { s with host.outstanding := s.host.outstanding.erase p }) (fun _ _ => webView_post ..) _ s

@[simp] theorem webView_stopsSuperseded (n : Nat) (s : State) : webView (stopsSuperseded n s) = webView s :=
  webView_foldl (f := fun s (e : Nat × Nat) => complete (fun q => q.src * 2 ^ 32 + q.seq == e.1) jobFailed 1 0 s) (fun _ _ => webView_complete ..) _
    { s with mot.stops := s.mot.stops.filter (fun e => !(bit e.2 n)) }

/-- The scan of a session moves an axis, not the web. -/
@[simp] theorem webView_startScan (s : State) : webView (startScan s) = webView s := by
  unfold startScan
  extract_lets n superseded
  have hkept : webView superseded = webView s := (webView_stopsSuperseded ..).trans (webView_axisDone ..)
  split
  · exact hkept
  · rfl

@[simp] theorem startScan_sys (s : State) : (startScan s).sys = s.sys := (coreView_iff.mp (coreView_startScan s)).1
@[simp] theorem startScan_tr (s : State) : (startScan s).tr = s.tr := (Prod.mk.inj (webView_startScan s)).1
@[simp] theorem startScan_datum (s : State) : (startScan s).datum = s.datum := (Prod.mk.inj (webView_startScan s)).2

/-- A session starts with the next line and no Datum. -/
theorem startSession_begins (s : State) : (startSession s).sys = s.sys ∧ (startSession s).tr.session = true ∧ (startSession s).tr.nextK = s.tr.used ∧ (startSession s).datum.list = [] := by
  unfold startSession
  rw [startScan_sys, startScan_tr, startScan_datum]
  exact ⟨rfl, rfl, rfl, rfl⟩

/-! ### Changes of mode -/

/-- The change of mode is over: none is in progress. -/
theorem enterMode_left (new : Mode) (cause fault : Nat) (r : Option ModeReq) (s : State) : let e := enterMode new cause fault r s
    e.sys.mode = new ∧ e.sys.pend = none ∧ e.sys.stopping = none ∧ e.sys.prev = s.sys.mode := by
  obtain ⟨⟨hmode, hprev, -, hpend, hstop⟩, -⟩ := enterMode_core new cause fault r s
  exact ⟨hmode, hpend, hstop, hprev⟩

theorem pipelineArmed_starts {s : State} {r : ModeReq} (hpend : s.sys.pend = some r) (hready : s.sys.mode = .ready) (hcap : r.target.cap = true) :
    pipelineArmed s = modeDone r (startSession (enterMode r.target 1 0 (some r) s)) := by
  simp only [pipelineArmed, hpend, hready, hcap, Bool.true_and, decide_true, if_true]

theorem modeChangeComplete_reaches {s : State} {r : ModeReq} (hpend : s.sys.pend = some r) (htarget : r.target.cap = false) (hcap : s.sys.mode.cap = false) (hsession : s.tr.session = false)
    (hports : r.target ≠ .ready ∨ portsTrain s = false) (haxes : r.target = .standby → s.mot.axes.any axisMoving = false) :
    modeChangeComplete s = modeDone r (enterMode r.target 1 0 (some r) s) := by
  have hwait : (r.target == .ready && portsTrain s) = false := by rcases hports with h | h <;> simp [h]
  have hmoves : (r.target == .standby && s.mot.axes.any axisMoving) = false := by
    by_cases h : r.target = .standby
    · rw [haxes h, Bool.and_false]
    · simp [h]
  simp only [modeChangeComplete, hpend, htarget, hcap, hsession, hwait, hmoves, Bool.or_false, Bool.false_eq_true, if_false, reachTarget]

theorem modeChangeComplete_moves {s : State} {r : ModeReq} (hpend : s.sys.pend = some r) (htarget : r.target = .standby) (hcap : s.sys.mode.cap = false) (hsession : s.tr.session = false)
    (haxes : s.mot.axes.any axisMoving = true) :
    modeChangeComplete s = if s.host.outstanding.any (fun p => p.opcode == 0x0A02 || p.opcode == 0x0A03) then stopAllAxes s else s := by
  have hstandby : Mode.cap .standby = false := rfl
  have hready : (Mode.standby == .ready) = false := rfl
  simp only [modeChangeComplete, hpend, htarget, hstandby, hready, hcap, hsession, haxes, Bool.or_false, Bool.false_and, Bool.false_eq_true, if_false, Bool.and_true, beq_self_eq_true, if_true]

/-- Settles O43: each row enters its target's mode by `enterMode_core`, and what the session or the settings need is kept by the rows above. -/
theorem modeChangesReachTheirTarget : Obligations.ModeChangesReachTheirTarget := by
  unfold Obligations.ModeChangesReachTheirTarget
  intro t errors r l s u mine left
  have next {g : State → State} {e : State} (h : g u = e) : Host.Outcome.next (ρ := Refusal) (φ := Fault) (after t s (g u)) = .next (after t s e) := h ▸ rfl
  refine ⟨?armed, ?change, ?moving, ?stop, ?late, ?loop⟩
  case armed =>
    intro hpend hready hcap
    obtain ⟨hmode, hpendOver, hstopOver, hprev⟩ := enterMode_left r.target 1 0 (some r) u
    have hused := (enterMode_keeps (s := u) r.target 1 0 (some r) (by rw [hready]; rfl)).2.2
    obtain ⟨hsys, hsession, hnext, hlist⟩ := startSession_begins (enterMode r.target 1 0 (some r) u)
    refine ⟨_, (exec_pipelineArmed t s).trans (next (pipelineArmed_starts hpend hready hcap)), rfl, ?_, ⟨?_, ?_, ?_⟩, hsession, hnext.trans hused, hlist⟩
    all_goals rw [hsys]
    exacts [hmode, hpendOver, hstopOver, hprev]
  case change =>
    intro hpend htarget hcap hsession hports haxes
    obtain ⟨hmode, hpendOver, hstopOver, hprev⟩ := enterMode_left r.target 1 0 (some r) u
    exact ⟨_, (exec_modeChangeComplete t s).trans (next (modeChangeComplete_reaches hpend htarget hcap hsession hports haxes)), rfl, hmode, ⟨hpendOver, hstopOver, hprev⟩,
      (enterMode_keeps r.target 1 0 (some r) hcap).1⟩
  case moving =>
    intro hpend htarget hcap hsession haxes
    have hmoves := modeChangeComplete_moves hpend htarget hcap hsession haxes
    refine ⟨fun hnone => (exec_modeChangeComplete t s).trans (next (hmoves.trans (if_neg ?_))), fun hsome => (exec_modeChangeComplete t s).trans (next (hmoves.trans (if_pos ?_)))⟩
    · simpa using hnone
    · simpa using hsome
  case stop =>
    intro hpend htarget hcap hlines
    have hstop : orderlyStopComplete u = reachTarget r (if u.sys.stopLate then 5 else 1) u := by
      simp only [orderlyStopComplete, hpend, htarget, hcap, hlines, beq_self_eq_true, Bool.and_self, if_true]
    obtain ⟨⟨hmode, hprev, hcause, hpendOver, hstopOver⟩, -⟩ := enterMode_core r.target (if u.sys.stopLate then 5 else 1) 0 (some r) u
    exact ⟨_, (exec_orderlyStopComplete t s).trans (next hstop), hmode.trans htarget, hcause, hpendOver, hstopOver, hprev⟩
  case late =>
    intro t0 hstop hsession hdone hlate
    refine (exec_stopTimeout t s).trans (next ?_)
    simp only [stopTimeout, hstop, hsession, hdone, hlate, Bool.not_false, Bool.and_self, decide_true, if_true]
  case loop =>
    intro hloop hover
    refine (exec_loopbackComplete t errors s).trans (next ?_)
    simp only [loopbackComplete, hloop, Nat.not_lt.mpr hover, if_false]

end Sys2Proof.Machine
end

/-! The stages of a boot, the PCIe pins, and the resets of the host interface (R51 to R53, R329 to R332, R357). -/
section

namespace Sys2Proof.Machine

open Sys2Proof Sys2Proof.Safety

/-! ### What mailbox service and the end of BOOT leave alone -/

/-- A fold of steps that touch the lamps only touches the lamps only. -/
theorem foldl_lamp_frame {α : Type} {f : State → α → State} (h : ∀ s a, ∃ l : LampSt, f s a = { s with lamp := l }) (as : List α) (s : State) :
    ∃ l : LampSt, as.foldl f s = { s with lamp := l } := by
  induction as generalizing s with
  | nil => exact ⟨s.lamp, rfl⟩
  | cons a as ih =>
    obtain ⟨l, hl⟩ := h s a
    obtain ⟨l', hl'⟩ := ih (f s a)
    exact ⟨l', by rw [List.foldl_cons, hl', hl]⟩

theorem loadTargets_frame (s : State) : ∃ l : LampSt, loadTargets s = { s with lamp := l } := by
  unfold loadTargets
  obtain ⟨l, hl⟩ := foldl_lamp_frame (f := fun u i => modStr i (fun t => { t with lt := targetIn s.banks.live i }) u) (fun _ _ => ⟨_, rfl⟩)
    ((s.banks.live.lamps ++ s.banks.live.trims).map Prod.fst).eraseDups { s with lamp.tgt := s.banks.live.lamps, lamp.trim := s.banks.live.trims }
  exact ⟨l, hl⟩

@[simp] theorem loadTargets_sys (s : State) : (loadTargets s).sys = s.sys := by
  obtain ⟨l, hl⟩ := loadTargets_frame s
  rw [hl]

@[simp] theorem loadTargets_host (s : State) : (loadTargets s).host = s.host := by
  obtain ⟨l, hl⟩ := loadTargets_frame s
  rw [hl]

@[simp] theorem loadTargets_cal (s : State) : (loadTargets s).cal = s.cal := by
  obtain ⟨l, hl⟩ := loadTargets_frame s
  rw [hl]

theorem loadTargets_withCal (s : State) : { loadTargets s with cal := s.cal } = loadTargets s := by
  obtain ⟨l, hl⟩ := loadTargets_frame s
  rw [hl]

/-- The device with the values of CFG, where there are any (R55). -/
def cfgTaken (cfg : Option CfgPart) (u : State) : State :=
  match cfg with
  | none => u
  | some c => takeCfg c u

theorem cfgTaken_keeps (cfg : Option CfgPart) (u : State) : (cfgTaken cfg u).sys = u.sys ∧ (cfgTaken cfg u).host.mbs = u.host.mbs := by
  cases cfg with
  | none => exact ⟨rfl, rfl⟩
  | some c =>
    change (takeCfg c u).sys = u.sys ∧ (takeCfg c u).host.mbs = u.host.mbs
    unfold takeCfg
    extract_lets _ _ loaded
    have hsys : loaded.sys = u.sys := loadTargets_sys _
    have hmbs : loaded.host.mbs = u.host.mbs := by rw [show loaded.host = _ from loadTargets_host _]
    cases c.cal with
    | none => exact ⟨hsys, hmbs⟩
    | some _ => exact ⟨hsys, hmbs⟩

theorem serviceStart_boots {cfg : Option CfgPart} {u : State} (hboot : u.sys.mode = .boot) (hservice : u.sys.service = false) (hactivate : u.sys.afterActivate = false) :
    serviceStart cfg u = { cfgTaken cfg u with sys := { u.sys with service := true }, host := { (cfgTaken cfg u).host with mbs := u.host.mbs.map (fun m => if m.state == .queued then { m with state := .busy } else m) } } := by
  obtain ⟨hsys, hmbs⟩ := cfgTaken_keeps cfg u
  have hstarts : ¬ (!(u.sys.mode == .boot || u.sys.mode == .recovery) || u.sys.service) = true := by simp [hboot, hservice]
  rw [← hsys, ← hmbs]
  unfold serviceStart
  rw [if_neg hstarts]
  extract_lets taken
  have htaken : taken = cfgTaken cfg u := by
    cases cfg with
    | none => rfl
    | some c => exact if_neg (by simp [hboot, hactivate])
  clear_value taken
  subst htaken
  rfl

@[simp] theorem coreView_setUpd (st : Nat) (s : State) : coreView (setUpd st s) = coreView s := coreView_ite rfl rfl

@[simp] theorem coreView_otherSlot (before s : State) : coreView (otherSlot before s) = coreView s := coreView_ite rfl rfl

@[simp] theorem coreView_evUpdate (kind comp reason : Nat) (s : State) : coreView (evUpdate kind comp reason s) = coreView s := (coreView_post ..).trans rfl

@[simp] theorem coreView_unschedule (kind reason : Nat) (s : State) : coreView (unschedule kind reason s) = coreView s :=
  (coreView_evUpdate ..).trans (coreView_setUpd ..)

@[simp] theorem coreView_scheduleAtBoot (s : State) : coreView (scheduleAtBoot s) = coreView s := by
  unfold scheduleAtBoot
  split
  · exact coreView_ite (coreView_ite (coreView_unschedule ..) (coreView_ite (coreView_unschedule ..) rfl)) rfl
  · rfl

/-- BOOT has ended in a mode: the settings are as BOOT left them, and participation runs. -/
def LeftBoot (m : Mode) (u e : State) : Prop := e.sys.mode = m ∧ e.sys.prev = .boot ∧ e.sys.cause = u.sys.bootCause ∧ e.stn.up = true ∧ e.banks = u.banks

theorem leftBoot_of_core {m : Mode} {u a b : State} (h : coreView b = coreView a) (ha : LeftBoot m u a) : LeftBoot m u b := by
  obtain ⟨hsys, hbanks, hup, -⟩ := coreView_iff.mp h
  rwa [LeftBoot, hsys, hbanks, hup]

theorem enterMode_fromBoot {u s : State} (m : Mode) (hboot : s.sys.mode = .boot) (hup : s.stn.up = true) (hbanks : s.banks = u.banks) :
    LeftBoot m u (enterMode m u.sys.bootCause 0 none s) := by
  obtain ⟨⟨hmode, hprev, hcause, -⟩, -⟩ := enterMode_core m u.sys.bootCause 0 none s
  obtain ⟨hkept, hstays, -⟩ := enterMode_keeps m u.sys.bootCause 0 none (hboot ▸ rfl : s.sys.mode.cap = false)
  exact ⟨hmode, hprev.trans hboot, hcause, hstays.trans hup, hkept.trans hbanks⟩

theorem leaveBoot_left {s : State} (m : Mode) (hboot : s.sys.mode = .boot) : LeftBoot m s (leaveBoot m s) := by
  unfold leaveBoot
  extract_lets cause clocks _ waits _ _
  have hclocks : coreView clocks = coreView s := coreView_ite (coreView_startRefClocks s) rfl
  have hwaits : coreView waits = coreView s := coreView_ite hclocks hclocks
  obtain ⟨hsys, hbanks, -⟩ := coreView_iff.mp hwaits
  have hstill : waits.sys.mode = .boot := hsys ▸ hboot
  exact enterMode_fromBoot m hstill rfl hbanks

theorem bootComplete_waits {s : State} (hact : s.upd.boot.act = 0) (hrecovery : s.sys.toRecovery = false) (hservice : s.sys.service = false) : bootComplete true s = s := by
  simp [bootComplete, hact, hrecovery, hservice]

theorem bootComplete_left {s : State} {slotOk : Bool} {m : Mode} (hboot : s.sys.mode = .boot) (hact : s.upd.boot.act = 0)
    (h : slotOk = false ∨ s.sys.toRecovery = true ∨ s.sys.service = true) (hm : m = if slotOk && !s.sys.toRecovery then .standby else .recovery) :
    LeftBoot m s (bootComplete slotOk s) := by
  unfold bootComplete
  extract_lets b back rec' _ advanced _ marked left
  have hgoes : ¬ (!rec' && !s.sys.service) = true := by
    rcases h with h | h | h <;> simp [rec', h]
  have hb : b.act = 0 := hact
  have hrec : rec' = !(slotOk && !s.sys.toRecovery) := by simp [rec', back, hb, Bool.not_and]
  rw [if_neg (by rw [hboot]; decide), if_neg (by simp [hb]), if_neg (by simp [hb]), if_neg hgoes]
  have hadvanced : advanced = s := (if_neg (by simp [hb])).trans (if_neg (by simp [hb]))
  have hmarked : marked = { s with upd.noSet := !slotOk } := by rw [← hadvanced]
  have hout (m : Mode) : LeftBoot m s (leaveBoot m marked) := by
    rw [hmarked]
    exact leaveBoot_left m hboot
  have hleft : LeftBoot m s left := by
    cases hgood : (slotOk && !s.sys.toRecovery)
    case true =>
      have hscheduled : left = scheduleAtBoot (leaveBoot .standby marked) := if_neg (by simp [hrec, hgood])
      rw [hm, hgood, hscheduled]
      exact leftBoot_of_core (coreView_scheduleAtBoot _) (hout .standby)
    case false =>
      have hrescued : left = otherSlot marked (leaveBoot .recovery marked) := if_pos (by rw [hrec, hgood]; rfl)
      rw [hm, hgood, hrescued]
      exact leftBoot_of_core (coreView_otherSlot ..) (hout .recovery)
  exact leftBoot_of_core (coreView_ite (s := left) (coreView_setUpd ..) rfl) hleft

/-! ### A reset of the host interface -/

/-- A ring whose stream has stopped: it is in RING_ERROR, and nothing of it is outstanding. -/
def RingStopped (x : Stream) : Prop := x.ringErr = true ∧ x.tail = x.head

@[simp] theorem coreView_stopRing (n : Nat) (s : State) : coreView (stopRing n s) = coreView s := by
  unfold stopRing
  extract_lets x stopped
  have hstopped : coreView stopped = coreView s := coreView_ite rfl (coreView_ringError ..)
  exact coreView_ite rfl hstopped

@[simp] theorem modStream_streams_length (n : Nat) (f : Stream → Stream) (s : State) : (modStream n f s).dlv.streams.length = s.dlv.streams.length := List.length_set

section

variable {n m : Nat} {s : State}

theorem streamOf_modStream_same (f : Stream → Stream) (h : n < s.dlv.streams.length) : streamOf (modStream n f s) n = f (streamOf s n) := streamOf_setStream_same _ h

theorem streamOf_modStream_other (f : Stream → Stream) (h : m ≠ n) : streamOf (modStream n f s) m = streamOf s m := streamOf_setStream_other _ h

theorem abandonBuf_keeps (n : Nat) (s : State) : (abandonBuf n s).dlv.streams.length = s.dlv.streams.length ∧ ∀ m, m ≠ n → streamOf (abandonBuf n s) m = streamOf s m := by
  unfold abandonBuf
  split
  · exact ⟨rfl, fun _ _ => rfl⟩
  · extract_lets given
    have hlength : given.dlv.streams.length = s.dlv.streams.length := modStream_streams_length ..
    have hother : ∀ m, m ≠ n → streamOf given m = streamOf s m := fun m h => streamOf_modStream_other _ h
    split
    · exact ⟨hlength, hother⟩
    · exact ⟨hlength, hother⟩

theorem ringError_keeps (n desc : Nat) (s : State) : (ringError n desc s).dlv.streams.length = s.dlv.streams.length ∧ ∀ m, m ≠ n → streamOf (ringError n desc s) m = streamOf s m := by
  obtain ⟨hlength, hother⟩ := abandonBuf_keeps n s
  unfold ringError
  refine ⟨by rw [stallEvent_dlv, modStream_streams_length, hlength], fun m h => ?_⟩
  rw [streamOf_stallEvent, streamOf_modStream_other _ h, hother m h]

theorem ringError_same (desc : Nat) (h : n < s.dlv.streams.length) : (streamOf (ringError n desc s) n).ringErr = true := by
  have hlength : n < (abandonBuf n s).dlv.streams.length := (abandonBuf_keeps n s).1 ▸ h
  rw [ringError, streamOf_stallEvent, streamOf_modStream_same _ hlength]

theorem stopRing_keeps (n : Nat) (s : State) : (stopRing n s).dlv.streams.length = s.dlv.streams.length ∧ ∀ m, m ≠ n → streamOf (stopRing n s) m = streamOf s m := by
  unfold stopRing
  extract_lets x stopped
  have hstopped : stopped.dlv.streams.length = s.dlv.streams.length ∧ ∀ m, m ≠ n → streamOf stopped m = streamOf s m := by
    by_cases herr : x.ringErr = true
    · rw [show stopped = s from if_pos herr]
      exact ⟨rfl, fun _ _ => rfl⟩
    · rw [show stopped = ringError n ((Config.freeValue s.free).toNat % 2 ^ 32) { s with free := s.free + 1 } from if_neg herr]
      exact ringError_keeps ..
  split
  · exact ⟨rfl, fun _ _ => rfl⟩
  · exact ⟨(modStream_streams_length ..).trans hstopped.1, fun m h => (streamOf_modStream_other _ h).trans (hstopped.2 m h)⟩

theorem stopRing_stops (hringed : (streamOf s n).ringed = true) : RingStopped (streamOf (stopRing n s) n) := by
  have hn : n < s.dlv.streams.length := lt_streams_of_ringed hringed
  unfold stopRing
  extract_lets x stopped
  rw [if_neg (by simp [x, hringed])]
  have hstopped : n < stopped.dlv.streams.length ∧ (streamOf stopped n).ringErr = true := by
    by_cases herr : x.ringErr = true
    · rw [show stopped = s from if_pos herr]
      exact ⟨hn, herr⟩
    · rw [show stopped = ringError n ((Config.freeValue s.free).toNat % 2 ^ 32) { s with free := s.free + 1 } from if_neg herr]
      have hdrawn : n < ({ s with free := s.free + 1 } : State).dlv.streams.length := hn
      generalize ({ s with free := s.free + 1 } : State) = drawn at hdrawn ⊢
      exact ⟨Nat.lt_of_lt_of_eq hdrawn (ringError_keeps ..).1.symm, ringError_same _ hdrawn⟩
  obtain ⟨hlength, herr⟩ := hstopped
  rw [streamOf_modStream_same _ hlength]
  exact ⟨herr, rfl⟩

theorem foldl_stopRing_other {l : List Nat} (h : n ∉ l) : streamOf (l.foldl (fun s k => stopRing k s) s) n = streamOf s n := by
  induction l generalizing s with
  | nil => rfl
  | cons k l ih =>
    obtain ⟨hk, hl⟩ := not_or.mp (mt List.mem_cons.mpr h)
    rw [List.foldl_cons, ih hl, (stopRing_keeps k s).2 n hk]

theorem foldl_stopRing_stops {l : List Nat} (hl : l.Nodup) (h : n ∈ l) (hringed : (streamOf s n).ringed = true) :
    RingStopped (streamOf (l.foldl (fun s k => stopRing k s) s) n) := by
  obtain ⟨before, rest, rfl⟩ := List.append_of_mem h
  obtain ⟨hout, -⟩ := List.nodup_cons.mp (List.nodup_middle.mp hl)
  obtain ⟨hbefore, hrest⟩ := not_or.mp (mt List.mem_append.mpr hout)
  rw [List.foldl_append, List.foldl_cons, foldl_stopRing_other hrest]
  exact stopRing_stops (by rwa [foldl_stopRing_other hbefore])

end

/-- A reset of the function stops host access. -/
theorem resetFunction_core (kind : Nat) (s : State) : ((resetFunction kind s).host.bme = false ∨ (resetFunction kind s).host.d3hot = true) ∧
    (resetFunction kind s).sys = s.sys ∧ (resetFunction kind s).banks = s.banks ∧ (resetFunction kind s).dlv = s.dlv ∧ (resetFunction kind s).host.evq = s.host.evq := by
  unfold resetFunction resetMsix
  split
  · exact ⟨.inr rfl, rfl, rfl, rfl, rfl⟩
  · split
    · exact ⟨.inl rfl, rfl, rfl, rfl, rfl⟩
    · exact ⟨.inl rfl, rfl, rfl, rfl, rfl⟩

/-- A queued request is dropped (R331). -/
theorem dropQueued_state {ms : List Mailbox} {m : Mailbox} (h : m ∈ ms.map (fun m => if m.state == .queued then { m with state := .idle } else m)) : m.state ≠ .queued := by
  obtain ⟨x, -, rfl⟩ := List.mem_map.mp h
  split
  · simp
  · next hx => simpa using hx

/-- Without Bus Master Enable, or in D3hot, the device does not write to the host (R331). -/
theorem hostUp_down {s : State} (h : s.host.bme = false ∨ s.host.d3hot = true) : hostUp s = false := by
  rcases h with h | h <;> simp [hostUp, h]

/-- The first part of a reset of the host interface: host writes stop, and then the rings. -/
def ringsReset (kind : Nat) (u : State) : State := (List.range 8).foldl (fun s n => stopRing n s) (resetFunction kind { u with host.evq.enable := false, host.evq.due := [] })

/-- Host writes and rings have stopped, and nothing else of the core has changed. -/
def RingsReset (u e : State) : Prop := hostUp e = false ∧ e.host.evq.enable = false ∧ (∀ n, n < 8 → (streamOf u n).ringed = true → RingStopped (streamOf e n)) ∧
  e.sys.mode = u.sys.mode ∧ e.banks = u.banks

theorem ringsReset_effect (kind : Nat) (u : State) : RingsReset u (ringsReset kind u) := by
  obtain ⟨haccess, hsys, hbanks, hdlv, hevq⟩ := resetFunction_core kind { u with host.evq.enable := false, host.evq.due := [] }
  unfold ringsReset
  generalize resetFunction kind { u with host.evq.enable := false, host.evq.due := [] } = reset at haccess hsys hbanks hdlv hevq ⊢
  have hcore : coreView ((List.range 8).foldl (fun s n => stopRing n s) reset) = coreView reset := coreView_foldl (fun s n => coreView_stopRing n s) _ reset
  have hstreams : ∀ n, n < 8 → (streamOf u n).ringed = true → RingStopped (streamOf ((List.range 8).foldl (fun s n => stopRing n s) reset) n) := fun n hn hringed =>
    foldl_stopRing_stops List.nodup_range (List.mem_range.mpr hn) (by rwa [streamOf, hdlv])
  generalize (List.range 8).foldl (fun s n => stopRing n s) reset = stopped at hcore hstreams ⊢
  obtain ⟨hsys', hbanks', -, -, -, hbme, hd3, henable⟩ := coreView_iff.mp hcore
  refine ⟨hostUp_down (by rwa [hbme, hd3]), ?_, hstreams, ?_, hbanks'.trans hbanks⟩
  · rw [henable, hevq]
  · rw [hsys', hsys]

/-- The second part: the queued requests go, and for two kinds the pins and the link. -/
def linkReset (kind : Nat) (s : State) : State :=
  let queued := (List.range 4).filter (fun n => (s.host.mbs.getD n {}).state == .queued)
  let s := { s with host.mbs := s.host.mbs.map (fun m => if m.state == .queued then { m with state := .idle } else m),
                    host.order := s.host.order.filter (fun n => !(queued.contains n)), host.held := s.host.held.filter (fun n => !(queued.contains n)) }
  let s := if kind = 2 then { s with sys.perstN := false, sys.cfgReady := false } else s
  if kind = 2 || kind = 3 then { s with host.rate := 0, host.width := 0 } else s

theorem hostReset_eq (kind : Nat) (u : State) : hostReset kind u = linkReset kind (ringsReset kind u) := by
  unfold hostReset linkReset ringsReset
  rfl

/-- What the second part adds to the first. -/
theorem linkReset_effect {u s : State} (kind : Nat) (h : RingsReset u s) : RingsReset u (linkReset kind s) ∧ (∀ m ∈ (linkReset kind s).host.mbs, m.state ≠ .queued) ∧
    ((kind = 2 ∨ kind = 3) → (linkReset kind s).host.rate = 0 ∧ (linkReset kind s).host.width = 0) ∧
    (kind = 2 → (linkReset kind s).sys.perstN = false ∧ (linkReset kind s).sys.cfgReady = false) := by
  obtain ⟨hdown, hoff, hstreams, hmode, hkept⟩ := h
  unfold linkReset
  extract_lets queued _ dropped _ unpinned
  have hms : ∀ m ∈ dropped.host.mbs, m.state ≠ .queued := fun m => dropQueued_state
  by_cases hperst : kind = 2
  · subst hperst
    exact ⟨⟨rfl, hoff, hstreams, hmode, hkept⟩, hms, fun _ => ⟨rfl, rfl⟩, fun _ => ⟨rfl, rfl⟩⟩
  by_cases hlink : kind = 3
  · subst hlink
    exact ⟨⟨rfl, hoff, hstreams, hmode, hkept⟩, hms, fun _ => ⟨rfl, rfl⟩, fun h => absurd h hperst⟩
  have hsame : unpinned = dropped := if_neg hperst
  rw [if_neg (by simp [hperst, hlink]), hsame]
  exact ⟨⟨hdown, hoff, hstreams, hmode, hkept⟩, hms, fun h => absurd h (not_or.mpr ⟨hperst, hlink⟩), fun h => absurd h hperst⟩

/-- Settles O39: the rows of a boot and of the PCIe pins by their conditions, and a reset of the host interface by `hostReset_effect`. -/
theorem bootStagesFollowTheirRows : Obligations.BootStagesFollowTheirRows := by
  unfold Obligations.BootStagesFollowTheirRows
  intro t rate width kind cfg slotOk s u
  have next {g : State → State} {e : State} (h : g u = e) : Host.Outcome.next (ρ := Refusal) (φ := Fault) (after t s (g u)) = .next (after t s e) := h ▸ rfl
  refine ⟨?service, ?complete, ?perst, ?link, ?rate, ?reset⟩
  case service =>
    intro hboot hservice hactivate v
    have hv : v = cfgTaken cfg u := by
      cases cfg with
      | none => rfl
      | some c =>
        cases hcal : c.cal with
        | none =>
          simp only [v, cfgTaken, takeCfg, hcal]
          exact loadTargets_withCal _
        | some x =>
          obtain ⟨n, tl, live⟩ := x
          simp only [v, cfgTaken, takeCfg, hcal, loadTargets_cal]
    rw [hv]
    exact (exec_mailboxServiceStart t cfg s).trans (next (serviceStart_boots hboot hservice hactivate))
  case complete =>
    intro hboot hact
    refine ⟨fun hok hrecovery hservice => ?_, fun h => ?_⟩
    · subst hok
      exact (exec_bootComplete t true s).trans (next (bootComplete_waits hact hrecovery hservice))
    · exact ⟨_, exec_bootComplete t slotOk s, bootComplete_left hboot hact h rfl⟩
  case perst =>
    intro hlow
    exact (exec_perstNRise t s).trans (next (g := fun s => if s.sys.perstN then s else { s with sys.perstN := true, sys.tPerst := s.now }) (if_neg (by simp [hlow])))
  case link =>
    intro hhigh hmode
    have hout : (u.sys.mode != .reset) = true := by simpa using hmode
    have ready : exec (.configSpaceReady t) s = .next (after t s (if u.sys.perstN && u.sys.mode != .reset && decide (u.sys.tPerst + 100000000 ≤ u.now) then { u with sys.cfgReady := true } else u)) :=
      exec_configSpaceReady t s
    have up : exec (.pcieLinkUp t rate width) s = .next (after t s (linkUp rate width u)) := (exec_pcieLinkUp t rate width s).trans (next (onBar_answers _ hmode))
    rw [ready, up, linkUp, hhigh, hout]
    refine ⟨fun h => next (if_neg ?_), fun h => next (if_pos ?_), fun h => next (if_neg ?_), fun h => next (if_pos ?_)⟩
    all_goals simpa using h
  case rate =>
    intro hmode hrate
    exact (exec_linkRateChange t rate width s).trans (next ((onBar_answers _ hmode).trans (if_neg hrate)))
  case reset =>
    intro hmode hlength
    obtain ⟨⟨hdown, hoff, hstreams, hsame, hkept⟩, hqueued, hlink, hpins⟩ := linkReset_effect kind (ringsReset_effect kind u)
    exact ⟨_, (exec_hostInterfaceReset t kind s).trans (next ((onBar_answers _ hmode).trans (hostReset_eq kind u))), hdown, hoff, hqueued, hstreams, hlink, hpins, hsame, hkept⟩

end Sys2Proof.Machine
end

/-! The eight fixed positions that TIM holds (R67). -/
section

namespace Sys2Proof.Machine

open Sys2Proof Sys2Proof.Safety

/-! ### What fixing a Datum leaves alone -/

/-- What counts the fixed positions: the time, the position of the web and the Datums on it. -/
def barView (s : State) : Nat × TransitSt × DatumSt := (s.now, s.tr, s.datum)

theorem barView_iff {a b : State} : barView a = barView b ↔ a.now = b.now ∧ a.tr = b.tr ∧ a.datum = b.datum := by
  simp only [barView, Prod.mk.injEq]

@[simp] theorem barView_armLamps (s : State) : barView (armLamps s) = barView s := by
  unfold armLamps
  extract_lets l armed
  have harmed : barView armed = barView s := 
    foldl_keeps (view := barView) (f := fun s i => modStr i (fun t => { t with armFade := some t.fadeMs }) s) (fun _ _ => rfl) _ s
  exact (foldl_keeps (view := barView) (f := fun s e => modSlice e.1 (fun a => { a with pend := some e.2, written := false }) s) (fun _ _ => rfl) l armed).trans harmed

@[simp] theorem barView_gradeAtFix (d : Datum) (s : State) : barView (gradeAtFix d s) = barView s := by
  unfold gradeAtFix gradeArm
  split
  · rfl
  · split
    · exact barView_armLamps ..
    · rfl

/-- Fixing a Datum puts it into the list, and changes neither the time nor the position. -/
theorem fixDatum_inserts (flags : Nat) (byPos : Bool) (pos : Int) (line : Nat) (dev : Int) (s : State) : let e := fixDatum flags byPos pos line dev s
    e.now = s.now ∧ e.tr = s.tr ∧ ∃ d, e.datum.list = insertDatum s.tr d s.datum.list := by
  unfold fixDatum
  extract_lets d0 placed binds d bound _
  have hbound : barView bound = barView s := by
    have hplaced : barView placed = barView s := barView_gradeAtFix ..
    by_cases h : binds = true
    · exact (congrArg barView (if_pos h)).trans hplaced
    · exact (congrArg barView (if_neg h)).trans hplaced
  obtain ⟨hnow, htr, hdatum⟩ := barView_iff.mp hbound
  clear_value bound
  rw [← hnow, ← htr, ← hdatum]
  exact ⟨rfl, rfl, d, rfl⟩

/-! ### How many positions are held -/

theorem length_filter_insertDatum (tr : TransitSt) (d : Datum) (p : Datum → Bool) (l : List Datum) :
    ((insertDatum tr d l).filter p).length ≤ (l.filter p).length + 1 := by
  simp only [← List.countP_eq_length_filter]
  induction l with
  | nil => simp only [insertDatum, List.countP_cons, List.countP_nil]; split <;> omega
  | cons a r ih =>
    simp only [insertDatum]
    split
    case isTrue => simp only [List.countP_cons]; omega
    case isFalse =>
      split
      case isTrue => simp only [List.countP_cons]; split <;> split <;> omega
      case isFalse =>
        split
        case isTrue => simp only [List.countP_cons]; split <;> split <;> omega
        case isFalse => simp only [List.countP_cons]; omega

/-- A Datum that is fixed adds at most one position. -/
theorem heldPositions_fixDatum (flags : Nat) (byPos : Bool) (pos : Int) (line : Nat) (dev : Int) (s : State) :
    heldPositions (fixDatum flags byPos pos line dev s) ≤ heldPositions s + 1 := by
  obtain ⟨hnow, htr, d, hlist⟩ := fixDatum_inserts flags byPos pos line dev s
  unfold heldPositions
  rw [hnow, htr, hlist]
  exact length_filter_insertDatum ..

theorem heldPositions_trCount (i n : Nat) (s : State) : heldPositions (trCount i n s) = heldPositions s := rfl
theorem heldPositions_prevPos (p : Option Int) (s : State) : heldPositions { s with datum.prevPos := p } = heldPositions s := rfl
theorem heldPositions_expected (p x : Option Int) (s : State) : heldPositions { s with datum.prevPos := p, datum.expected := x } = heldPositions s := rfl

/-! ### A ninth candidate -/

section

variable {s : State}

theorem offerCue_rejects (C : Int) (h : 8 ≤ heldPositions s) : offerCue C s = trCount 9 1 s := by
  have hnone : judgeCue s (C + (s.datum.cfg.cueOffset : Int)) = none := by
    unfold judgeCue
    extract_lets c
    by_cases hnear : (c.cueOffset : Int) * 65536 < aheadNeeded s
    · exact if_pos hnear
    · rw [if_neg hnear, if_pos h]
  simp only [offerCue, hnone]

theorem offerSheet_rejects (C : Int) (h : 8 ≤ heldPositions s) : offerSheet C s = trCount 9 1 s := by
  unfold offerSheet
  extract_lets cand spaced
  exact if_pos (by simp [h])

theorem closeWindow_rejects (e : Int) (hfly : s.datum.cfg.flywheel ≠ 0) (h : 8 ≤ heldPositions s) :
    closeWindow e s = trCount 9 1 { s with datum := { s.datum with expected := some (e + (s.datum.cfg.nominal : Int)) } } := by
  unfold closeWindow
  rw [if_neg hfly, if_pos h]

/-- A rejected candidate adds nothing, and one that is fixed comes when at most seven are held. -/
theorem heldPositions_le {e : State} (hle : heldPositions s ≤ 8) (hrejects : 8 ≤ heldPositions s → heldPositions e = heldPositions s)
    (hfixes : heldPositions e ≤ heldPositions s + 1) : heldPositions e ≤ 8 := by
  by_cases h : 8 ≤ heldPositions s
  · rw [hrejects h]; exact hle
  · omega

theorem heldPositions_offerCue (C : Int) (s : State) : heldPositions (offerCue C s) ≤ heldPositions s + 1 := by
  unfold offerCue
  extract_lets cand
  split
  · exact (heldPositions_trCount ..).trans_le (Nat.le_succ _)
  · exact (heldPositions_expected ..).trans_le (heldPositions_fixDatum ..)

theorem heldPositions_offerSheet (C : Int) (s : State) : heldPositions (offerSheet C s) ≤ heldPositions s + 1 := by
  unfold offerSheet
  extract_lets cand spaced
  split
  · exact (heldPositions_trCount ..).trans_le (Nat.le_succ _)
  · exact (heldPositions_prevPos ..).trans_le (heldPositions_fixDatum ..)

theorem heldPositions_closeWindow (e : Int) (s : State) : heldPositions (closeWindow e s) ≤ heldPositions s + 1 := by
  unfold closeWindow
  extract_lets c _ moved
  have hmoved : heldPositions moved = heldPositions s := rfl
  split
  · exact hmoved.trans_le (Nat.le_succ _)
  · split
    · exact ((heldPositions_trCount ..).trans hmoved).trans_le (Nat.le_succ _)
    · split
      · exact ((heldPositions_prevPos ..).trans (heldPositions_trCount ..)).trans_le (hmoved ▸ heldPositions_fixDatum ..)
      · exact (heldPositions_prevPos ..).trans_le (hmoved ▸ heldPositions_fixDatum ..)

end

/-- Settles O45: a ninth candidate meets the test of R67, and fixing a Datum adds at most one position. -/
theorem eightDatumPositionsAreHeld : Obligations.EightDatumPositionsAreHeld := by
  unfold Obligations.EightDatumPositionsAreHeld
  intro C e s
  refine ⟨fun h => ⟨offerCue_rejects C h, offerSheet_rejects C h, fun hfly => closeWindow_rejects e hfly h⟩, fun hle => ⟨?cue, ?sheet, ?mark⟩⟩
  case cue => exact heldPositions_le hle (fun h => offerCue_rejects C h ▸ rfl) (heldPositions_offerCue C s)
  case sheet => exact heldPositions_le hle (fun h => offerSheet_rejects C h ▸ rfl) (heldPositions_offerSheet C s)
  case mark =>
    by_cases hfly : s.datum.cfg.flywheel = 0
    · rw [show closeWindow e s = _ from if_pos hfly]
      exact hle
    · exact heldPositions_le hle (fun h => closeWindow_rejects e hfly h ▸ rfl) (heldPositions_closeWindow e s)

end Sys2Proof.Machine
end

/-! Encoder and cue edges, and the timeouts of the position (R65, R66, R70, R77 to R80, R84, R106, R520). -/
section

namespace Sys2Proof.Machine

open Sys2Proof Sys2Proof.Safety

/-! ### An encoder's edges -/

/-- What a counted edge does: the count, and the measurement where the edge is the source's (R78). -/
def counted (n : Nat) (em : Encoder × Meas) (s : State) : State :=
  let k : State := { s with tr := { s.tr with encs := s.tr.encs.set n em.1 } }
  if n = transitSource s && transitOn s.sys.mode then pruneTiming (measure em.2 k) else k

/-- A counts forward when it leads B (R78). -/
theorem quadForward_eq : ∀ p q a b : Bool, quadForward p q a b = if a != p then a != q else p == b := by decide

/-- The type of an edge at which one level changes (Table 3.2). -/
theorem edgeType_eq : ∀ p q a b : Bool, (a != p) = !(b != q) → edgeType p q a b = if a != p then (if a then 0 else 2) else (if b then 1 else 3) := by decide

theorem countEdge_eq {e : Encoder} {fwd up : Bool} (ty t : Nat) {hi : Int} (hup : (if e.invert = 1 then !fwd else fwd) = up) (hhi : (if up then e.count + 1 else e.count) = hi) :
    countEdge e fwd ty t = ({ e with count := if up then e.count + 1 else e.count - 1 }, { t := t, z := (256 * hi + e.trims.getD ty 0) * 65536, span := 16777216, down := up, edge := hi }) := by
  subst hhi
  unfold countEdge
  rw [hup]
  cases up <;> rfl

section

variable {n held : Nat} {a b : Bool} {s : State} {e : Encoder}

theorem heldEdge_rests (h : 4 ≤ n ∨ held < (s.tr.encs.getD n {}).filter) : heldEdge n held a b s = s := if_pos (by simpa using h)

theorem heldEdge_passes (hn : n < 4) (h : (s.tr.encs.getD n {}).filter ≤ held) : heldEdge n held a b s = encoderEdge n a b s :=
  if_neg (by simpa only [Bool.or_eq_true, decide_eq_true_eq, not_or, Nat.not_le, Nat.not_lt] using ⟨hn, h⟩)

theorem encoderEdge_disabled (he : s.tr.encs.getD n {} = e) (h : e.enable = 0) :
    encoderEdge n a b s = { s with tr := { s.tr with encs := s.tr.encs.set n { e with a := a, b := b } } } := by
  subst he
  exact if_pos h

/-- A change of one level counts by the two levels (R78). -/
theorem encoderEdge_quad (he : s.tr.encs.getD n {} = e) (h : e.enable ≠ 0) (hmode : e.mode ≠ 1) (hone : (a != e.a) = !(b != e.b)) :
    encoderEdge n a b s = counted n (countEdge { e with a := a, b := b } (quadForward e.a e.b a b) (edgeType e.a e.b a b) s.now) s := by
  have hboth : ¬ ((a != e.a) && (b != e.b)) = true := by simp [hone]
  have hsome : ((a != e.a) || (b != e.b)) = true := by simp [hone]
  unfold encoderEdge
  rw [he]
  extract_lets _ e' _ follow
  rw [if_neg h, if_neg hmode, if_neg hboth, if_pos hsome]
  rfl

/-- In pulse mode only a pulse of A counts, by the level of B (R78). -/
theorem encoderEdge_pulse (he : s.tr.encs.getD n {} = e) (h : e.enable ≠ 0) (hmode : e.mode = 1) (ha : a = true) (hea : e.a = false) :
    encoderEdge n a b s = counted n (countEdge { e with a := a, b := b } (!b) 0 s.now) s := by
  have hpulse : (a && !e.a) = true := by simp [ha, hea]
  unfold encoderEdge
  rw [he]
  extract_lets _ e' _ follow
  rw [if_neg h, if_pos hmode, if_pos hpulse]
  rfl

theorem encoderEdge_level (he : s.tr.encs.getD n {} = e) (h : e.enable ≠ 0) (hmode : e.mode = 1) (hlevel : a = false ∨ e.a = true) :
    encoderEdge n a b s = { s with tr := { s.tr with encs := s.tr.encs.set n { e with a := a, b := b } } } := by
  have hpulse : ¬ (a && !e.a) = true := by rcases hlevel with h | h <;> simp [h]
  unfold encoderEdge
  rw [he]
  extract_lets _ e' _ follow
  rw [if_neg h, if_pos hmode, if_neg hpulse]

/-- A double change is illegal; one encoder in use raises the fault, another does not (R79). -/
theorem encoderEdge_illegal (he : s.tr.encs.getD n {} = e) (h : e.enable ≠ 0) (hmode : e.mode ≠ 1) (ha : a ≠ e.a) (hb : b ≠ e.b) (hn : n ≠ transitSource s) :
    encoderEdge n a b s = trCount 8 1 { s with tr := { s.tr with encs := s.tr.encs.set n { e with a := a, b := b, count := if 0 < s.tr.v then e.count + 2 else if s.tr.v < 0 then e.count - 2 else e.count, errs := (s.now :: e.errs).filter (fun x => decide (s.now < x + 1000000)) } } } := by
  have hboth : ((a != e.a) && (b != e.b)) = true := by simp [ha, hb]
  unfold encoderEdge
  rw [he]
  extract_lets _ e' _ follow
  rw [if_neg h, if_neg hmode, if_pos hboth]
  unfold illegalEdge
  extract_lets c errs e''
  have hother : ¬ n = transitSource e'' := hn
  exact if_neg (by simp [hother])

theorem counted_other {em : Encoder × Meas} (h : n ≠ transitSource s ∨ transitOn s.sys.mode = false) :
    counted n em s = { s with tr := { s.tr with encs := s.tr.encs.set n em.1 } } := if_neg (by simpa [← Bool.not_eq_true, imp_iff_not_or] using h)

theorem counted_source {em : Encoder × Meas} (h : n = transitSource s) (hon : transitOn s.sys.mode = true) :
    counted n em s = pruneTiming (measure em.2 { s with tr := { s.tr with encs := s.tr.encs.set n em.1 } }) := if_pos (by simp [← h, hon])

end

/-! ### Cues and timeouts -/

section

variable {n held : Nat} {rising : Bool} {s : State}

theorem heldCue_rests (h : 4 ≤ n ∨ held < s.tr.cueFilter.getD n 0 ∨ transitOn s.sys.mode = false ∨ n ≠ s.datum.cfg.cueInput ∨ rising = !(s.datum.cfg.edge == 0)) :
    heldCue n held rising s = s := by
  rw [← or_assoc] at h
  by_cases hlevel : 4 ≤ n ∨ held < s.tr.cueFilter.getD n 0
  · exact if_pos (by simpa using hlevel)
  · have hother := h.resolve_left hlevel
    have hpasses : heldCue n held rising s = cueEdge n rising s := if_neg (by simpa using hlevel)
    rw [hpasses]
    refine if_pos ?_
    rcases hother with h | h | h <;> simp [h]

theorem heldCue_passes (hn : n < 4) (h : s.tr.cueFilter.getD n 0 ≤ held) : heldCue n held rising s = cueEdge n rising s :=
  if_neg (by simpa only [Bool.or_eq_true, decide_eq_true_eq, not_or, Nat.not_le, Nat.not_lt] using ⟨hn, h⟩)

/-- A cue that was passed already in this session (R80). -/
def staleCue (s : State) : Bool := s.tr.session && (match s.datum.maxC with | none => false | some m => decide (cuePos s.tr s.now ≤ m))

theorem staleCue_iff : staleCue s = true ↔ s.tr.session = true ∧ ∃ m, s.datum.maxC = some m ∧ cuePos s.tr s.now ≤ m := by
  unfold staleCue
  cases s.datum.maxC <;> simp

theorem not_staleCue (h : ∀ m, s.datum.maxC = some m → m < cuePos s.tr s.now) : staleCue s = false := by
  refine Bool.eq_false_iff.mpr fun hold => ?_
  obtain ⟨-, m, hm, hle⟩ := staleCue_iff.mp hold
  exact absurd (h m hm) (Int.not_lt.mpr hle)

theorem cueEdge_qualifies (hon : transitOn s.sys.mode = true) (hn : n = s.datum.cfg.cueInput) (hr : rising = (s.datum.cfg.edge == 0)) :
    cueEdge n rising s = if s.tr.regime == .rev || staleCue s then trCount 10 1 s
      else if !s.tr.session then s
      else if s.sys.mode == .proof then offerSheet (cuePos s.tr s.now) { s with datum.maxC := some (cuePos s.tr s.now) }
      else if s.datum.cfg.source = 0 then offerCue (cuePos s.tr s.now) { s with datum.maxC := some (cuePos s.tr s.now) }
      else s := by
  unfold cueEdge
  exact if_neg (by simp [hon, hn, hr])

theorem stillTimeout_stills {m : Meas} (hon : transitOn s.sys.mode = true) (hlast : s.tr.last = some m) (h : m.t + s.tr.cfg.stillTime * 1000000 ≤ s.now) :
    stillTimeout s = { s with tr := { s.tr with v := 0, a := 0, regime := .still, fastFrom := none, run := 0 } } := by
  simp only [stillTimeout, hon, hlast, Nat.not_lt.mpr h, Bool.not_true, Bool.false_eq_true, if_false]

theorem windowClose_moves {e : Int} (he : s.datum.expected = some e) (hsession : s.tr.session = true) (hsource : s.datum.cfg.source = 0) (hproof : s.sys.mode ≠ .proof)
    (hfly : s.datum.cfg.flywheel = 0) (hpast : e - (s.datum.cfg.cueOffset : Int) + (windowNow s : Int) < cuePos s.tr s.now) :
    windowClose s = { s with datum := { s.datum with expected := some (e + (s.datum.cfg.nominal : Int)) } } := by
  have hcloses : windowClose s = closeWindow e s := by simp [windowClose, he, hsession, hsource, hproof, hpast]
  rw [hcloses]
  exact if_pos hfly

theorem encFaultClear_clears (h : ∀ x rest, (s.tr.encs.getD n {}).errs = x :: rest → x + 100000000 ≤ s.now) : encFaultClear n s = clearFault 0x0201 n s := by
  unfold encFaultClear
  extract_lets e
  split
  · next x rest hx => exact if_neg (Nat.not_lt.mpr (h x rest hx))
  · rfl

end

/-- Settles O44: an encoder's edge by what changed, a cue by its guards, and each timeout by its row. -/
theorem edgesAndTimeoutsMoveThePosition : Obligations.EdgesAndTimeoutsMoveThePosition := by
  unfold Obligations.EdgesAndTimeoutsMoveThePosition
  intro t n held a b rising s u enc c C filter
  have next {g : State → State} {e : State} (h : g u = e) : Host.Outcome.next (ρ := Refusal) (φ := Fault) (after t s (g u)) = .next (after t s e) := h ▸ rfl
  have edge {e : State} (hn : n < 4) (hheld : enc.filter ≤ held) (h : encoderEdge n a b u = e) : exec (.encoderEdge t ⟨n, held⟩ a b) s = .next (after t s e) :=
    (exec_encoderEdge t ⟨n, held⟩ a b s).trans (next ((heldEdge_passes hn hheld).trans h))
  refine ⟨?short, ?disabled, ?quad, ?pulse, ?illegal, ?still, ?noCue, ?cue, ?window, ?clears⟩
  case short => exact fun h => (exec_encoderEdge t ⟨n, held⟩ a b s).trans (next (heldEdge_rests h))
  case disabled => exact fun hn hheld henable => edge hn hheld (encoderEdge_disabled rfl henable)
  case quad =>
    intro hn hheld henable hmode hone ahead up hi ty k
    have hcounts := encoderEdge_quad (e := enc) rfl henable hmode hone
    have hchange : countEdge { enc with a := a, b := b } (quadForward enc.a enc.b a b) (edgeType enc.a enc.b a b) u.now =
        ({ enc with a := a, b := b, count := if up then enc.count + 1 else enc.count - 1 }, { t := u.now, z := (256 * hi + enc.trims.getD ty 0) * 65536, span := 16777216, down := up, edge := hi }) :=
      edgeType_eq enc.a enc.b a b hone ▸ countEdge_eq _ _ (by rw [quadForward_eq]) rfl
    rw [hchange] at hcounts
    exact ⟨fun hother => edge hn hheld (hcounts.trans (counted_other hother)), fun hsource hon => edge hn hheld (hcounts.trans (counted_source hsource hon))⟩
  case pulse =>
    intro hn hheld henable hmode up hi k
    have hchange : countEdge { enc with a := a, b := b } (!b) 0 u.now =
        ({ enc with a := a, b := b, count := if up then enc.count + 1 else enc.count - 1 }, { t := u.now, z := (256 * hi + enc.trims.getD 0 0) * 65536, span := 16777216, down := up, edge := hi }) :=
      countEdge_eq 0 u.now (by rw [Bool.not_not]) rfl
    have hcounts (ha : a = true) (hea : enc.a = false) := encoderEdge_pulse (e := enc) (b := b) (s := u) rfl henable hmode ha hea
    rw [hchange] at hcounts
    have hk (ha : a = true) (hea : enc.a = false) : k = { u with tr := { u.tr with encs := u.tr.encs.set n { enc with a := a, b := b, count := if up then enc.count + 1 else enc.count - 1 } } } := by
      simp [k, ha, hea]
    refine ⟨fun hother => edge hn hheld ?_, fun hsource hon ha hea => edge hn hheld ?_⟩
    · by_cases hpulse : a = true ∧ enc.a = false
      · obtain ⟨ha, hea⟩ := hpulse
        have hfar : n ≠ transitSource u ∨ transitOn u.sys.mode = false := by simpa [ha, hea] using hother
        rw [hk ha hea]
        exact (hcounts ha hea).trans (counted_other hfar)
      · have hlevel : a = false ∨ enc.a = true := by simpa [← Bool.not_eq_true, ← imp_iff_not_or] using hpulse
        have hsame : k = { u with tr := { u.tr with encs := u.tr.encs.set n { enc with a := a, b := b } } } := by
          rcases hlevel with h | h <;> simp [k, h]
        rw [hsame]
        exact encoderEdge_level rfl henable hmode hlevel
    · rw [hk ha hea]
      exact (hcounts ha hea).trans (counted_source hsource hon)
  case illegal => exact fun hn hheld henable hmode ha hb hother => edge hn hheld (encoderEdge_illegal rfl henable hmode ha hb hother)
  case still => exact fun m hon hlast hlate => (exec_stillTimeout t s).trans (next (stillTimeout_stills hon hlast hlate))
  case noCue => exact fun h => (exec_cueEdge t ⟨n, held⟩ rising s).trans (next (heldCue_rests h))
  case cue =>
    intro hn hheld hon hinput hr
    have cue {e : State} (h : _ = e) : exec (.cueEdge t ⟨n, held⟩ rising) s = .next (after t s e) :=
      (exec_cueEdge t ⟨n, held⟩ rising s).trans (next ((heldCue_passes hn hheld).trans ((cueEdge_qualifies hon hinput hr).trans h)))
    have hfresh (hregime : u.tr.regime ≠ .rev) (hnew : staleCue u = false) : ¬ (u.tr.regime == .rev || staleCue u) = true := by simpa [hnew] using hregime
    refine ⟨fun hback => cue (if_pos ?back), fun hregime hsession => cue ?idle, fun hregime hsession hnew hproof hsource => cue ?offered,
      fun hregime hsession hnew hproof hsource => cue ?unused, fun hregime hsession hnew hproof => cue ?sheet⟩
    case back =>
      rw [Bool.or_eq_true, beq_iff_eq, staleCue_iff]
      exact hback
    case idle =>
      have hnew : staleCue u = false := by simp [staleCue, hsession]
      rw [if_neg (hfresh hregime hnew), if_pos (by simp [hsession])]
    case offered => rw [if_neg (hfresh hregime (not_staleCue hnew)), if_neg (by simp [hsession]), if_neg (by simpa using hproof), if_pos hsource]
    case unused => rw [if_neg (hfresh hregime (not_staleCue hnew)), if_neg (by simp [hsession]), if_neg (by simpa using hproof), if_neg hsource]
    case sheet => rw [if_neg (hfresh hregime (not_staleCue hnew)), if_neg (by simp [hsession]), if_pos (by simp [hproof])]
  case window => exact fun e he hsession hsource hproof hfly hpast => (exec_windowClose t s).trans (next (windowClose_moves he hsession hsource hproof hfly hpast))
  case clears => exact fun h => (exec_encFaultClear t n s).trans (next (encFaultClear_clears h))

end Sys2Proof.Machine
end

/-! The events of an exposure: SYNC, the verdict at its deadline, the collapse, and the release of the old bank (R59, R96, R121 to R123, R172, R244, R525). -/
section

namespace Sys2Proof.Machine

open Sys2Proof Sys2Proof.Safety

/-- The slots in flight with their numbers, oldest first. -/
def numbered (s : State) : List (Nat × Slot) := (List.range s.gate.length).zip s.gate

theorem portOf_modPort_other {p q : Nat} (f : Port → Port) (s : State) (h : q ≠ p) : portOf (modPort p f s) q = portOf s q := by
  simp [portOf, modPort, setPort, List.getD_eq_getElem?_getD, List.getElem?_set_ne h.symm]

theorem portOf_emit (o : Out) (s : State) (p : Nat) : portOf (emit o s) p = portOf s p := rfl

/-- A counter that counts changes nothing else of its port. -/
theorem portOf_portCount {α : Type} {f : Port → α} (hf : ∀ x c, f { x with counters := c } = f x) (p i : Nat) (s : State) (q : Nat) : f (portOf (portCount p i s) q) = f (portOf s q) :=
  portOf_modPort_keeps (fun x => hf x _) q p s

/-! ### SYNC (R121 to R123) -/

/-- SYNC of a port has risen for a slot, and no other port has changed. -/
def Raised (p i : Nat) (g : Slot) (u e : State) : Prop :=
  (portOf e p).sync = true ∧ e.gate = u.gate.set i { g with due := g.due.erase p, high := g.high ++ [p] } ∧ (∀ q, q ≠ p → portOf e q = portOf u q)

/-- The slot no longer owes the port its edge, and holds SYNC high there. -/
def edgeTaken (p i : Nat) (g : Slot) (s : State) : State := { s with gate := s.gate.set i { g with due := g.due.erase p, high := g.high ++ [p] } }

theorem portOf_edgeTaken (p i : Nat) (g : Slot) (s : State) (q : Nat) : portOf (edgeTaken p i g s) q = portOf s q := rfl

/-- The rising edge without the frame that follows it. -/
def syncHigh (p i : Nat) (g : Slot) (s : State) : State :=
  portCount p 0 (emit (.sync p true) (modPort p (fun x => { x with sync := true, owed := x.owed ++ [g.expo] }) (edgeTaken p i g s)))

section

variable {p i : Nat} {g : Slot} {s : State}

theorem lt_ports_of_inService (h : inService s p = true) : p < s.ports.list.length := by
  obtain ⟨-, hready⟩ := (Bool.and_eq_true ..).mp h
  exact lt_ports_of Port.state (by rw [beq_iff_eq.mp hready]; decide)

/-- The edge writes SYNC, the exposures owed and a counter of its port. -/
theorem syncHigh_keeps {α : Type} {f : Port → α} (hf : ∀ x sync owed counters, f { x with sync := sync, owed := owed, counters := counters } = f x) (q : Nat) :
    f (portOf (syncHigh p i g s) q) = f (portOf s q) := by
  rw [syncHigh, portOf_portCount (f := f) (fun x c => hf x x.sync x.owed c), portOf_emit, portOf_modPort_keeps (g := f) (fun x => hf x _ _ x.counters), portOf_edgeTaken]

theorem syncHigh_raised (hp : p < s.ports.list.length) : Raised p i g s (syncHigh p i g s) := by
  refine ⟨?_, rfl, fun q hq => ?_⟩
  · rw [syncHigh, portOf_portCount (f := Port.sync) fun _ _ => rfl, portOf_emit]
    exact congrArg Port.sync (portOf_modPort_same (s := edgeTaken p i g s) _ hp)
  · rw [syncHigh, portCount, portOf_modPort_other _ _ hq, portOf_emit, portOf_modPort_other _ _ hq, portOf_edgeTaken]

/-- A change of the same port that keeps its SYNC keeps the edge. -/
theorem raised_modPort {u e : State} {f : Port → Port} (hf : ∀ x, (f x).sync = x.sync) (h : Raised p i g u e) : Raised p i g u (modPort p f e) := by
  obtain ⟨hsync, hgate, hother⟩ := h
  exact ⟨(portOf_modPort_keeps hf p p e).trans hsync, hgate, fun q hq => (portOf_modPort_other f e hq).trans (hother q hq)⟩

theorem raised_portCount {u e : State} (k : Nat) (h : Raised p i g u e) : Raised p i g u (portCount p k e) := raised_modPort (fun _ => rfl) h

/-- The frame of an edge leaves SYNC as it is. -/
theorem raised_sendExpo {u e : State} (tag : Nat) (h : Raised p i g u e) : Raised p i g u (sendExpo p tag e) := by
  have hmod : Raised p i g u (modPort p (fun x => { x with expoEnd := Nat.max x.expoEnd e.now + 960 }) e) := raised_modPort (fun _ => rfl) h
  exact hmod

theorem syncHigh_out : (syncHigh p i g s).out = .sync p true :: s.out := rfl

theorem oweFrame_out (f : Port → Port) : (portCount p 14 (modPort p f s)).out = s.out := rfl

theorem sendExpo_out (tag : Nat) : (sendExpo p tag s).out = .ctl p (expoFrame tag) :: s.out := rfl

theorem syncRise_rises (hslot : (numbered s).find? (fun e => e.2.due.contains p) = some (i, g)) (hin : inService s p = true) (hcap : s.sys.mode.cap = true) (hdue : g.ts ≤ s.now + tTileOf s p) :
    syncRise p s = if (portOf (syncHigh p i g s) p).tx.isSome then portCount p 14 (modPort p (fun x => { x with frameDue := x.frameDue ++ [g.expo % 65536] }) (syncHigh p i g s))
      else sendExpo p (g.expo % 65536) (syncHigh p i g s) := by
  have hdrives : ¬ (!inService s p || !s.sys.mode.cap || decide (s.now + tTileOf s p < g.ts)) = true := by simp [hin, hcap, hdue]
  unfold numbered at hslot
  simp only [syncRise, hslot, hdrives]
  rfl

theorem syncRise_rests (hslot : (numbered s).find? (fun e => e.2.due.contains p) = some (i, g)) (h : inService s p = false ∨ s.sys.mode.cap = false ∨ s.now + tTileOf s p < g.ts) : syncRise p s = s := by
  have hstays : (!inService s p || !s.sys.mode.cap || decide (s.now + tTileOf s p < g.ts)) = true := by rcases h with h | h | h <;> simp [h]
  unfold numbered at hslot
  simp only [syncRise, hslot, hstays, if_true]

theorem syncFall_falls (hslot : (numbered s).find? (fun e => e.2.high.contains p) = some (i, g)) (hcap : s.sys.mode.cap = true) (hdue : g.ts + g.e ≤ s.now + tTileOf s p) :
    syncFall p s = { s with gate := s.gate.set i { g with high := g.high.erase p }, ports := { s.ports with list := s.ports.list.set p { portOf s p with sync := false } }, out := .sync p false :: s.out } := by
  have hdrives : ¬ (!s.sys.mode.cap || decide (s.now + tTileOf s p < g.ts + g.e)) = true := by simp [hcap, hdue]
  unfold numbered at hslot
  simp only [syncFall, hslot, hdrives]
  rfl

theorem syncFall_rests (hslot : (numbered s).find? (fun e => e.2.high.contains p) = some (i, g)) (h : s.sys.mode.cap = false ∨ s.now + tTileOf s p < g.ts + g.e) : syncFall p s = s := by
  have hstays : (!s.sys.mode.cap || decide (s.now + tTileOf s p < g.ts + g.e)) = true := by rcases h with h | h <;> simp [h]
  unfold numbered at hslot
  simp only [syncFall, hslot, hstays, if_true]

/-! ### Verdicts and collapses (R96, R172, R525) -/

theorem judgeDeadline_judges {m : Meas} (hslot : unjudged s = some (i, g)) (hdue : g.deadline ≤ s.now) (hlast : s.tr.last = some m) :
    judgeDeadline s = releaseAll (giveVerdict i (clampAfter m (if s.tr.v = 0 then (if m.down then 0 else -1) else s.tr.v) (extrapolate s.tr ((g.tp : Int) - m.t))) s) := by
  simp only [judgeDeadline, hslot, hlast, Nat.not_lt.mpr hdue, if_false]

theorem judgeDeadline_waits (hslot : unjudged s = some (i, g)) (hearly : s.now < g.deadline) : judgeDeadline s = s := by
  simp only [judgeDeadline, hslot, hearly, if_true]

theorem collapseComplete_collapses (hslot : (numbered s).find? (fun e => !e.2.collapsed) = some (i, g)) :
    collapseComplete s = releaseAll (correctReady i (usePoly g { s with gate := s.gate.set i { g with collapsed := true } })) := by
  unfold numbered at hslot
  simp only [collapseComplete, hslot]

/-- An exposure that names no set with a double-bit error loses nothing (R525). -/
theorem usePoly_rests (h : ∀ set ∈ s.mem.latentPoly, ∀ x ∈ g.tpls, x.absent = true ∨ namesSet s set x = false) : usePoly g s = s := by
  have hnone : s.mem.latentPoly.filter (fun set => g.tpls.any (fun t => !t.absent && namesSet s set t)) = [] := by
    refine List.filter_eq_nil_iff.mpr fun set hset => ?_
    simpa [or_iff_not_imp_left] using h set hset
  unfold usePoly
  rw [hnone]
  rfl

/-! ### The release of the old bank (R59, R244) -/

theorem bankRelease_releases {b : Bank} (hold : s.banks.old = some b) (hfree : oldBankInUse s = false) :
    bankRelease s = placeStep { s with banks := { s.banks with old := none, staged := { s.banks.live with base := s.banks.staged.base } } } := if_pos (by simp [hold, hfree])

theorem bankRelease_waits (hused : oldBankInUse s = true) : bankRelease s = s := if_neg (by simp [hused])

theorem placeStep_rests (h : s.cal.grade = none) : placeStep s = s := by
  simp only [placeStep, h]

end

/-- Settles O47: each event by its guard, with the edge of SYNC described once by `syncHigh`. -/
theorem exposureEventsAct : Obligations.ExposureEventsAct := by
  unfold Obligations.ExposureEventsAct
  intro t p i g b s u slots raised
  have next {f : State → State} {e : State} (h : f u = e) : Host.Outcome.next (ρ := Refusal) (φ := Fault) (after t s (f u)) = .next (after t s e) := h ▸ rfl
  have rise {e : State} (h : syncRise p u = e) : exec (.syncRise t p) s = .next (after t s e) := h ▸ exec_syncRise t p s
  have judged {e : State} (h : judgeDeadline u = e) : exec (.verdictDeadline t) s = .next (after t s (pruneTiming e)) := h ▸ exec_verdictDeadline t s
  refine ⟨?free, ?busy, ?noRise, ?fall, ?noFall, ?judged, ?early, ?collapse, ?clean, ?release, ?used⟩
  case free =>
    intro hslot hin hcap hdue htx
    have hp := lt_ports_of_inService hin
    have hsends : syncRise p u = sendExpo p (g.expo % 65536) (syncHigh p i g u) := (syncRise_rises hslot hin hcap hdue).trans (if_neg (by simp [syncHigh_keeps (f := Port.tx) fun _ _ _ _ => rfl, htx]))
    exact ⟨_, rise hsends, (sendExpo_out _).trans (congrArg _ syncHigh_out), raised_sendExpo _ (syncHigh_raised hp)⟩
  case busy =>
    intro hslot hin hcap hdue htx
    have hp := lt_ports_of_inService hin
    have howes := (syncRise_rises hslot hin hcap hdue).trans (if_pos (by simpa [syncHigh_keeps (f := Port.tx) fun _ _ _ _ => rfl, Option.isSome_iff_ne_none] using htx))
    refine ⟨_, rise howes, (oweFrame_out _).trans syncHigh_out, ?_, raised_portCount 14 (raised_modPort (fun _ => rfl) (syncHigh_raised hp))⟩
    have hlength : p < (syncHigh p i g u).ports.list.length := by simpa [syncHigh, edgeTaken, portCount, modPort, setPort, emit] using hp
    calc (portOf (portCount p 14 (modPort p (fun x => { x with frameDue := x.frameDue ++ [g.expo % 65536] }) (syncHigh p i g u))) p).frameDue
        = (portOf (modPort p (fun x => { x with frameDue := x.frameDue ++ [g.expo % 65536] }) (syncHigh p i g u)) p).frameDue := portOf_portCount (f := Port.frameDue) (fun _ _ => rfl) ..
      _ = (portOf (syncHigh p i g u) p).frameDue ++ [g.expo % 65536] := congrArg Port.frameDue (portOf_modPort_same _ hlength)
      _ = (portOf u p).frameDue ++ [g.expo % 65536] := by rw [syncHigh_keeps (f := Port.frameDue) fun _ _ _ _ => rfl]
  case noRise => exact fun hslot h => rise (syncRise_rests hslot h)
  case fall => exact fun hslot hcap hdue => (exec_syncFall t p s).trans (next (syncFall_falls hslot hcap hdue))
  case noFall => exact fun hslot h => (exec_syncFall t p s).trans (next (syncFall_rests hslot h))
  case judged => exact fun m hslot hdue hlast => judged (judgeDeadline_judges hslot hdue hlast)
  case early => exact fun hslot hearly => judged (judgeDeadline_waits hslot hearly)
  case collapse => exact fun hslot => (exec_collapseComplete t s).trans (next (collapseComplete_collapses hslot))
  case clean =>
    intro hslot hclean
    refine (exec_collapseComplete t s).trans (next ((collapseComplete_collapses hslot).trans ?_))
    rw [usePoly_rests (s := { u with gate := u.gate.set i { g with collapsed := true } }) hclean]
  case release =>
    intro hold hfree
    have hreleases := bankRelease_releases hold hfree
    refine ⟨(exec_bankRelease t s).trans (next hreleases), fun hgrade => (exec_bankRelease t s).trans (next (hreleases.trans (placeStep_rests hgrade)))⟩
  case used => exact fun _ hused => (exec_bankRelease t s).trans (next (bankRelease_waits hused))

end Sys2Proof.Machine
end
